-- ==== Sys2Proof/Word.lean ====
section
/-!
DEFINITION. The words the GC-412's formats are made of: a byte, a field of two bytes, a station
number and a claim field. Everything the manual counts (pressures, masses, samples, times) is a
`Nat`; a bit vector stands where the manual numbers bits.
-/

namespace Sys2Proof

/-- One byte of a payload or of the recipe image. -/
abbrev Byte := BitVec 8

/-- A two-byte field of a payload, sent high byte first (R193). -/
abbrev Half := BitVec 16

/-- A station number or target: five bits of a frame (12_formats.md, section 12.1). -/
abbrev StationNo := BitVec 5

/-- A claim field: two bits of class, then five of sender (R103). -/
abbrev ClaimField := BitVec 7

/-- The target that addresses every station; a frame never carries it as its sender
(00_scope.md, station numbering). -/
def everyStation : StationNo := 31

end Sys2Proof
end

