-- ==== Sys2Proof/Config.lean ====
section
/-!
DEFINITION. What is fixed for the part (its times and limits), the parameter record a recipe gives,
and the free values: what the spec leaves open, as constants without a body.
-/

namespace Sys2Proof

/-- The parsed and clamped values of an accepted recipe, under the names of R182's table
(10_recipe_loading_and_start_up.md; 12_formats.md section 12.5). -/
structure Recipe where
  /-- Mt, the target mass in µg. -/
  targetMass : Nat
  /-- Mtol, the tolerance in µg. -/
  tolerance : Nat
  /-- K, the flow coefficient. -/
  coefficient : Nat
  /-- Nmin, the shortest planned pulse in samples. -/
  shortest : Nat
  /-- Nmax, the longest planned pulse in samples. -/
  longest : Nat
  /-- Maximum pulses of a can. -/
  maxPulses : Nat
  /-- Strikes a can may have. -/
  strikes : Nat
  /-- dPmin in kPa. -/
  leastRise : Nat
  /-- T_settle in ms. -/
  settleTime : Nat
  /-- F_seat in N. -/
  seatForce : Nat
  /-- F_max in N. -/
  maxForce : Nat
  /-- D_target in µm. -/
  targetDepth : Nat
  /-- D_min in µm. -/
  minDepth : Nat
  /-- D_max in µm. -/
  maxDepth : Nat
  /-- F_min in N. -/
  minForce : Nat
  /-- D_open in µm. -/
  openDepth : Nat
  /-- T_seat in ms. -/
  seatTime : Nat
  /-- T_form in ms. -/
  formTime : Nat
  /-- T_dwell in ms. -/
  dwellTime : Nat
  /-- T_rel in ms. -/
  releaseTime : Nat
  /-- The own zone, 0..3. -/
  zone : Nat
  /-- L, the open limit of the zone. -/
  openLimit : Nat
  /-- G, the guard in samples. -/
  guardTime : Nat
  /-- P_lo in kPa absolute. -/
  lowPressure : Nat
  /-- P_hi in kPa absolute. -/
  highPressure : Nat
  /-- Q, the hold time in quanta. -/
  holdTime : Nat
  /-- Check interval in ms; 0 means no leak check. -/
  checkInterval : Nat
  /-- dPleak in kPa. -/
  leakFall : Nat
  /-- Reject-run limit; 0 turns the count off. -/
  rejectLimit : Nat
  /-- Alert enable set: bits 0..3 enable MARK_ORDER, ZERO_DRIFT, LINE_NOISY, REJECT_RUN (R196). -/
  alertEnables : BitVec 4
  /-- Nz, closings per zero debt step. -/
  closingsPerStep : Nat
  /-- Tz, the zeroing duration in ms. -/
  zeroingTime : Nat
  deriving DecidableEq, Repr, Inhabited

namespace Config

/-- Clock ticks in 1 ms, one quantum: the clock counts bit times of 2 µs (06, section 6.1). -/
def ticksPerMs : Nat := 500

/-- Clock ticks in one sample period of 0.5 ms. -/
def ticksPerSample : Nat := 250

/-- Atmospheric pressure in kPa (03, section 3.2). -/
def atmosphere : Nat := 101

/-- The largest corrected pressure in kPa (R46). -/
def maxPressure : Nat := 4095

/-- The largest zero offset in kPa (R50). -/
def maxOffset : Nat := 200

/-- The readings a zeroing sums (R49, R50). -/
def zeroingReadings : Nat := 16

/-- The saturation of the delivered mass in µg (R60). -/
def massLimit : Nat := 50000000

/-- One microgram in the remainder's units (R59). -/
def remainderUnits : Nat := 4096

/-- The close window in ms (R87). -/
def closeWindow : Nat := 5

/-- The feedback window in ms (R84). -/
def feedbackWindow : Nat := 5

/-- The remaining of a SELF entry at GAS off, in samples (R125). -/
def closingSamples : Nat := 10

/-- How long VENT must have been on before a zeroing, and the delay of the return-arc test, in ms (R19). -/
def ventTime : Nat := 20

/-- The margin of the return-arc test in ms (R19). -/
def zeroingMargin : Nat := 10

/-- The time from the start of a header transaction to the bell transaction of its pair, 0.25 ms, in ticks
(R40). -/
def bellDelay : Nat := 125

/-- The time within which a transaction ends, 0.2 ms, in ticks (R40, R42). -/
def transactionLimit : Nat := 100

/-- The interval of the pairs of transactions at SLOW rate: 16 sample periods, in ticks (R41). -/
def slowInterval : Nat := 16 * ticksPerSample

/-- The silence limit in ms while no turret period is measured (R20). -/
def silenceWithoutPeriod : Nat := 2000

/-- The interval of STATUS in LOADING, in ms (R8). -/
def loadingStatusInterval : Nat := 500

/-- The stuck time that reports LINE_DEAD, in ms (R110). -/
def stuckLimit : Nat := 50

/-- The recessive run at which the line is IDLE, in bit times (R104). -/
def idleRun : Nat := 11

/-- The dominant run past which the line is STUCK, in bit times (R110). -/
def stuckRun : Nat := 200

/-- The last position of an abort mark, counted from the frame's start bit (R107). -/
def abortPosition : Nat := 165

/-- The consecutive bad frames that report LINE_NOISY (R116). -/
def noisyLimit : Nat := 16

/-- The records the result queue holds (R168). -/
def queueLimit : Nat := 8

/-- FREE VALUE (log 9). K as the Dose Unit finds it in LOADING, where R68 and R76 form a predicted
rate although the recipe is absent: one value for each use, counted by `State.freeCount`.
DESIGN CHOICE; safe: nothing constrains it. -/
opaque coefficientWithoutRecipe : Nat → BitVec 16

/-- FREE VALUE (log 10). What a block would read from the Recipe Store while the recipe is absent.
Outside the predicted rate in LOADING no rule reads the recipe there, so no run reaches it.
DESIGN CHOICE; safe: nothing constrains it. -/
opaque absentRecipe : Recipe

/-- FREE VALUE (log 27). Whether SDA_S reads high, as the outside leaves it, when the port comes to make the start of
a transaction at a clock reading (R39): no command of the table carries that level.
DESIGN CHOICE; safe: nothing constrains it. -/
opaque sdaReadsHigh : Nat → Bool

/-- FREE VALUE (log 14). Whether the head reads TL recessive in the bit time that begins at a clock reading (06,
section 6.1): the line is driven by other stations too, and a head's own drive may fail to reach it (R102).
DESIGN CHOICE; safe: nothing constrains it. -/
opaque lineReadsRecessive : Nat → Bool

end Config

end Sys2Proof
end

