-- ==== Sys2Proof/Syntax.lean ====
section
/-!
DEFINITION. The commands of the block: one constructor of `Instr` for each row of
spec/opcode_table.json, in the table's order. The table gives no operands; each constructor carries
what its rule reads at the event (log 29).
-/

namespace Sys2Proof

/-- The two pressure transducers of the sensor port (R39). -/
inductive Channel where
  | header
  | bell
  deriving DecidableEq, Repr

/-- What the sensor link showed in one transaction (R39, R42): whether the start could be made, whether
the ninth clock read the acknowledgement, whether both reply bytes arrived within 0.2 ms, whether the
stop read SDA_S high, and the sixteen reply bits, first bit sent in bit 15. -/
structure SensorReply where
  startMade : Bool
  acknowledged : Bool
  complete : Bool
  stopMade : Bool
  word : BitVec 16
  deriving DecidableEq, Repr

/-- The commands. `sender` and `target` are the fields of a received frame. -/
inductive Instr where
  /-- RESET: power-on reset or RESET_N, with the straps STN[4:0] as they read. -/
  | reset (straps : StationNo)
  /-- MK_INFEED, with the level of CAN_PRESENT at the mark. -/
  | mkInfeed (canPresent : Bool)
  /-- MK_GASOPEN. -/
  | mkGasopen
  /-- MK_GASCLOSE. -/
  | mkGasclose
  /-- MK_DISCHARGE. -/
  | mkDischarge
  /-- CRIMP_SAMPLE: FORCE in N and DEPTH in µm as converted, before the clamp of R23. -/
  | crimpSample (force depth : Int)
  /-- T_SEAT_EXPIRY. -/
  | tSeatExpiry
  /-- T_FORM_EXPIRY. -/
  | tFormExpiry
  /-- T_DWELL_EXPIRY. -/
  | tDwellExpiry
  /-- T_REL_EXPIRY. -/
  | tRelExpiry
  /-- SENSOR_TRANSACTION_END: the transaction of a channel ends, with what the link showed. -/
  | sensorTransactionEnd (channel : Channel) (reply : SensorReply)
  /-- ZEROING_TIMER_EXPIRY. -/
  | zeroingTimerExpiry
  /-- ZEROING_TEST. -/
  | zeroingTest
  /-- GRANT_VENT_WAIT_EXPIRY. -/
  | grantVentWaitExpiry
  /-- SILENCE_LIMIT. -/
  | silenceLimit
  /-- LOADING_STATUS_TIMER. -/
  | loadingStatusTimer
  /-- FEEDBACK_WINDOW_LAPSE. -/
  | feedbackWindowLapse
  /-- GAS_FB_OPENS. -/
  | gasFbOpens
  /-- GAS_FB_CLOSES. -/
  | gasFbCloses
  /-- CLOSE_WINDOW_EXPIRY. -/
  | closeWindowExpiry
  /-- SETTLE_TIMER_EXPIRY. -/
  | settleTimerExpiry
  /-- CHECK_TIMER_EXPIRY. -/
  | checkTimerExpiry
  /-- LINE_IDLE. -/
  | lineIdle
  /-- ARBITRATION_LOSS, with the seven bits of the claim field as read from the line (R106). -/
  | arbitrationLoss (claim : ClaimField)
  /-- BIT_ERROR. -/
  | bitError
  /-- FRAME_COMPLETION. -/
  | frameCompletion
  /-- BAD_FRAME. -/
  | badFrame
  /-- LINE_STUCK. -/
  | lineStuck
  /-- STUCK_TIMEOUT. -/
  | stuckTimeout
  /-- STUCK_END. -/
  | stuckEnd
  /-- RECEIVED_OPEN: zone and length n. -/
  | receivedOpen (sender target : StationNo) (zone : Byte) (length : Half)
  /-- RECEIVED_SHUT: zone and samples open. -/
  | receivedShut (sender target : StationNo) (zone : Byte) (samples : Half)
  /-- RECEIVED_FAULT: code, zone and valve state. -/
  | receivedFault (sender target : StationNo) (code zone valve : Byte)
  /-- RECEIVED_STATUS: the fifteen payload bytes of section 12.4. -/
  | receivedStatus (sender target : StationNo) (payload : List Byte)
  /-- RECEIVED_HOLD: zone and hold time q. -/
  | receivedHold (sender target : StationNo) (zone q : Byte)
  /-- RECEIVED_RESULT: the fifteen payload bytes of section 12.3. -/
  | receivedResult (sender target : StationNo) (payload : List Byte)
  /-- LOAD: offset and 1..14 data bytes. -/
  | load (sender target : StationNo) (offset : Byte) (data : List Byte)
  /-- LOAD_END: image length. -/
  | loadEnd (sender target : StationNo) (length : Half)
  /-- START. -/
  | start (sender target : StationNo)
  /-- STOP. -/
  | stop (sender target : StationNo)
  /-- CLEAR: the cell set. -/
  | clear (sender target : StationNo) (cells : Half)
  /-- DRAW_COUNTDOWN. -/
  | drawCountdown
  /-- HOLD_COUNTDOWN. -/
  | holdCountdown
  /-- HOLD_RESEND. -/
  | holdResend
  /-- UNKNOWN_KIND_FRAME: a good frame whose kind code names no kind. -/
  | unknownKindFrame (sender target : StationNo) (kind : BitVec 4) (payload : List Byte)
  /-- START_BIT. -/
  | startBit
  /-- ABORT_MARK_END. -/
  | abortMarkEnd
  deriving DecidableEq, Repr

end Sys2Proof
end

