-- ==== Sys2Proof/WellFormed.lean ====
section
/-!
DEFINITION. Which commands are well formed: a received frame of a known kind has a sender other than 31
and a payload of a length its kind allows (R114, 12_formats.md section 12.1), and a frame of unknown
kind has a code that names no kind and at most fifteen payload bytes (R103). The other commands have no
operand that could be wrong.
-/

namespace Sys2Proof

/-- A frame never carries 31 as its sender (R114). -/
def senderOk (sender : StationNo) : Bool := sender != everyStation

/-- Kind codes 0 and 12..15 name no kind (12_formats.md, section 12.1). -/
def namesNoKind (kind : BitVec 4) : Bool := kind == 0 || decide (12 ≤ kind.toNat)

/-- The well-formedness of a command's operands. -/
def Instr.wf : Instr → Bool
  | .receivedOpen sender _ _ _ => senderOk sender
  | .receivedShut sender _ _ _ => senderOk sender
  | .receivedFault sender _ _ _ _ => senderOk sender
  | .receivedStatus sender _ payload => senderOk sender && payload.length == 15
  | .receivedHold sender _ _ _ => senderOk sender
  | .receivedResult sender _ payload => senderOk sender && payload.length == 15
  | .load sender _ _ data => senderOk sender && decide (1 ≤ data.length ∧ data.length ≤ 14)
  | .loadEnd sender _ _ => senderOk sender
  | .start sender _ => senderOk sender
  | .stop sender _ => senderOk sender
  | .clear sender _ _ => senderOk sender
  | .unknownKindFrame _ _ kind payload => namesNoKind kind && decide (payload.length ≤ 15)
  | .reset _ => true
  | .mkInfeed _ => true
  | .mkGasopen => true
  | .mkGasclose => true
  | .mkDischarge => true
  | .crimpSample _ _ => true
  | .tSeatExpiry => true
  | .tFormExpiry => true
  | .tDwellExpiry => true
  | .tRelExpiry => true
  | .sensorTransactionEnd _ _ => true
  | .zeroingTimerExpiry => true
  | .zeroingTest => true
  | .grantVentWaitExpiry => true
  | .silenceLimit => true
  | .loadingStatusTimer => true
  | .feedbackWindowLapse => true
  | .gasFbOpens => true
  | .gasFbCloses => true
  | .closeWindowExpiry => true
  | .settleTimerExpiry => true
  | .checkTimerExpiry => true
  | .lineIdle => true
  | .arbitrationLoss _ => true
  | .bitError => true
  | .frameCompletion => true
  | .badFrame => true
  | .lineStuck => true
  | .stuckTimeout => true
  | .stuckEnd => true
  | .drawCountdown => true
  | .holdCountdown => true
  | .holdResend => true
  | .startBit => true
  | .abortMarkEnd => true

end Sys2Proof
end

