-- ==== Sys2Proof/Machine/State.lean ====
section
/-!
DEFINITION. The state of the GC-412: one structure for each of its blocks (00_scope.md, block
overview), the can context, the queue of waiting commands, and `State.reset`. Times are clock readings
in bit times of 2 µs; a running timer is held as the reading at which it started.
-/

namespace Sys2Proof.Machine

/-- Why a step may stop. The GC-412 has no halt and no exception entry: its fault cells are ordinary
state (R187), so no command stops the machine and this type has no constructor. -/
inductive Fault where
  deriving DecidableEq, Repr

/-- Why a command may be turned away. -/
inductive Refusal where
  /-- Raised by `exec` for a command without a meaning; no arm raises it. Safe: the model stops. -/
  | notModelled (mnemonic : String)
  deriving DecidableEq, Repr

/-! ## Cycle Controller (01) -/

/-- Station state (01, state table; codes in section 12.2). -/
inductive Station where
  | loading | ready | run | parked | standby | faulted
  deriving DecidableEq, Repr

/-- Pocket phase (01, section 1.2). -/
inductive Phase where
  | returning | crimp | waitWindow | gas | check | sealed | pass
  deriving DecidableEq, Repr

/-- Zeroing grant (01, state table). -/
inductive Grant where
  | none | waitingForVent | granted
  deriving DecidableEq, Repr

/-- Start refusal cause (01, state table). -/
inductive StartRefusal where
  | none | cellsLatched
  deriving DecidableEq, Repr

/-- What the Cycle Controller holds, the can context apart (01, state table). -/
structure CycleUnit where
  station : Station
  phase : Phase
  stopPending : Bool
  counter : BitVec 16
  /-- Measured turret period in whole ms (R18). -/
  period : Option Nat
  /-- Arrival time of the last INFEED mark taken in RUN. -/
  infeedRef : Option Nat
  /-- The time the silence timer started; none when it is stopped. -/
  silence : Option Nat
  /-- The silence limit has been reached and no MK_INFEED has arrived since (R20). -/
  silenceOver : Bool
  grant : Grant
  startRefusal : StartRefusal
  /-- The time of the discharge whose return-arc zeroing test is still to be made (R14, R19). -/
  zeroTest : Option Nat
  /-- The time of the entry to LOADING (R8). -/
  loadingSince : Nat
  deriving DecidableEq, Repr

/-! ## The can context (01, section 1.3) -/

/-- Crimp outcome (R35). -/
inductive CrimpOutcome where
  | pending | good | noSeat | overforce | timeout | window | jam | abandoned
  deriving DecidableEq, Repr

/-- The crimp part (R35). -/
structure CrimpPart where
  outcome : CrimpOutcome
  peak : Nat
  depth : Nat
  deriving DecidableEq, Repr

/-- Outcome of a pulse (05, pulse table). -/
inductive PulseOutcome where
  | good | dead | cut
  deriving DecidableEq, Repr

/-- One entry of the pulse list (05, pulse table). -/
structure Pulse where
  planned : Nat
  massAtStart : Nat
  remainderAtStart : Nat
  pcAtStart : Nat
  credited : Option Nat
  pcAtEnd : Option Nat
  outcome : Option PulseOutcome
  deriving DecidableEq, Repr

/-- The gas part (01, section 1.3; 05, table). The pulse list is in the order the pulses began. -/
structure GasPart where
  mass : Nat
  remainder : Nat
  strikes : Nat
  pcAtEntry : Option Nat
  pulses : List Pulse
  deriving DecidableEq, Repr

/-- Verdict of the leak check (05, table). -/
inductive Verdict where
  | pending | tight | leak | cut
  deriving DecidableEq, Repr

/-- The check part (05, table). -/
structure CheckPart where
  pcAtStart : Nat
  pcAtEnd : Option Nat
  verdict : Verdict
  deriving DecidableEq, Repr

/-- The fifteen reason codes, in R164's order of priority. -/
inductive Reason where
  | headFaulted | headStopped | skippedZero | noCan | markError | crimpBad | lateCrimp | sensorLost
  | valveFault | stemBlocked | notGassed | lowDose | highDose | leak | good
  deriving DecidableEq, Repr

/-- The sixteen condition flags, in the order of their bits (12_formats.md, section 12.2). -/
inductive Condition where
  | crimpNoSeat | crimpOverforce | crimpTimeout | crimpWindow | strike | drawWait | holdWait | noDrive
  | windowCut | maxPulses | checkCut | zeroOverdue | pcClamped | sat | markLate | lineWait
  deriving DecidableEq, Repr

/-- The can context (01, section 1.3). `reasons` is the set of candidate reasons, each at most once;
`conditions` is the 16-bit condition set of section 12.2. -/
structure CanContext where
  cycle : BitVec 16
  openedIn : Station
  canPresent : Bool
  zeroDebt : Nat
  gasOpenTaken : Bool
  gasCloseTaken : Bool
  crimp : Option CrimpPart
  gas : Option GasPart
  check : Option CheckPart
  reasons : List Reason
  conditions : BitVec 16
  deriving DecidableEq, Repr

/-! ## Crimp Sequencer (02) -/

/-- Crimp state (02, section 2.2). -/
inductive CrimpState where
  | idle | seat | form | dwell | release | done
  deriving DecidableEq, Repr

/-- The first failure of the current crimp (02, state table). -/
inductive CrimpFailure where
  | none | noSeat | overforce | timeout
  deriving DecidableEq, Repr

/-- The one running timer with the time it started (02, state table; R37). -/
inductive CrimpTimer where
  | stopped
  | seat (since : Nat)
  | form (since : Nat)
  | dwell (since : Nat)
  | release (since : Nat)
  deriving DecidableEq, Repr

/-- What the Crimp Sequencer holds (02, state table). -/
structure CrimpUnit where
  state : CrimpState
  peak : Nat
  finalDepth : Nat
  failure : CrimpFailure
  timer : CrimpTimer
  /-- Depth of the last sample read in this crimp, which R28, R29 and R33 fix as the final depth. -/
  lastDepth : Nat
  deriving DecidableEq, Repr

/-! ## Sensor Port (03) -/

/-- Validity of a channel (03, state table). -/
inductive Validity where
  | notYet | valid | stale
  deriving DecidableEq, Repr

/-- One channel: the raw reading in kPa gauge, its validity and its miss count (03, state table). -/
structure ChannelState where
  reading : BitVec 12
  validity : Validity
  misses : Nat
  deriving DecidableEq, Repr

/-- A sensor transaction in progress: the channel addressed, the time it began, and whether SDA_S then read high,
so that the port could make the start (R39, R40). -/
structure Transaction where
  channel : Channel
  since : Nat
  startMade : Bool
  deriving DecidableEq, Repr

/-- Scan rate (03, state table). -/
inductive ScanRate where
  | full | slow
  deriving DecidableEq, Repr

/-- Whether a zeroing runs, with the time its timer started (03, state table; R49). -/
inductive Zeroing where
  | idle
  | collecting (since : Nat)
  deriving DecidableEq, Repr

/-- Whether a corrected pressure was clamped, and at which end (R46). -/
inductive Clamped where
  | no | low | high
  deriving DecidableEq, Repr

/-- A pressure sample as handed to its readers (R40, R46). -/
structure Sample where
  ph : Nat
  pc : Nat
  header : Validity
  bell : Validity
  pcClamped : Clamped
  deriving DecidableEq, Repr

/-- What the Sensor Port holds (03, state table), with the latest pressure sample. -/
structure SensorUnit where
  header : ChannelState
  bell : ChannelState
  scan : ScanRate
  /-- The transaction in progress (R39, R40, R54). -/
  transaction : Option Transaction
  /-- The start of the last sample period in which the port made its pair of transactions (R40, R41). -/
  lastPair : Option Nat
  zeroOffset : Nat
  zeroing : Zeroing
  /-- The last good bell readings of the current zeroing, newest last. -/
  zeroSamples : List (BitVec 12)
  zeroDebt : Nat
  closings : Nat
  sample : Sample
  /-- The header channel became STALE in the sample now being taken, so HEADER_LOST is reported once
  that sample has been handed over (R44). -/
  headerLostDue : Bool
  deriving DecidableEq, Repr

/-! ## Dose Unit (04) -/

/-- What the Dose Unit holds (04, state table); M and the remainder stand in the gas part. -/
structure DoseUnit where
  drive : Option Nat
  rate : Option Nat
  running : Bool
  planned : Nat
  elapsed : Nat
  credited : Nat
  massAtStart : Nat
  remainderAtStart : Nat
  attemptLength : Option Nat
  deriving DecidableEq, Repr

/-! ## Gas Sequencer (05) -/

/-- Gas stage (05, section 5.1). -/
inductive GasStage where
  | idle | plan | claim | pulse | settle | check | ended
  deriving DecidableEq, Repr

/-- What the Gas Sequencer holds (05, state table). -/
structure GasUnit where
  stage : GasStage
  feedbackWindow : Option Nat
  feedbackSeen : Bool
  closeWindow : Option Nat
  stuckEpisode : Bool
  lastOpen : Nat
  settleTimer : Option Nat
  checkTimer : Option Nat
  /-- The time at which VENT last went on (R19). -/
  ventSince : Nat
  deriving DecidableEq, Repr

/-! ## Line Interface (06) -/

/-- Line condition (06, state table). -/
inductive LineCondition where
  | idle | busy | stuck
  deriving DecidableEq, Repr

/-- What a transmit slot holds: nothing, a pending frame, or the frame of the attempt on the line. -/
inductive SlotBody (α : Type) where
  | empty
  | pending (frame : α)
  | onLine (frame : α)
  deriving DecidableEq, Repr

/-- A transmit slot with its next frame and its failure count of 0..3 (R111). -/
structure Slot (α : Type) where
  body : SlotBody α
  next : Option α
  failures : Nat
  deriving DecidableEq, Repr

/-- The six slots, in the offer order of R112. -/
inductive SlotKind where
  | faultSlot | holdSlot | shutSlot | openSlot | statusSlot | resultSlot
  deriving DecidableEq, Repr

/-- The ten fault cells, in the order of their numbers (11, cell table; 12_formats.md). -/
inductive Cell where
  | valveStuck | crimpJam | headerLost | bellLost | lineDead | duplicate
  | markOrder | zeroDrift | lineNoisy | rejectRun
  deriving DecidableEq, Repr

/-- A FAULT frame as placed (R188): the zone is 255 while no recipe is present. -/
structure FaultFrame where
  cell : Cell
  zone : Byte
  valveOpen : Bool
  deriving DecidableEq, Repr

/-- A HOLD frame as placed (08): zone and q. -/
structure HoldFrame where
  zone : Byte
  q : Nat
  deriving DecidableEq, Repr

/-- A SHUT frame as placed (R137): zone and samples open. -/
structure ShutFrame where
  zone : Byte
  samples : Nat
  deriving DecidableEq, Repr

/-- An OPEN frame as placed (R129): its length is formed at each attempt. -/
structure OpenFrame where
  zone : Byte
  deriving DecidableEq, Repr

/-- The attempt on the line: its slot, the payload formed at its start (R105, R120), and the clock reading at which
the bit time of its start bit begins (R103, R107). -/
structure Attempt where
  slot : SlotKind
  payload : List Byte
  since : Nat
  deriving DecidableEq, Repr

/-- Whether an abort mark is being sent, and what its end does to the slot (R107, R109). -/
inductive AbortMark where
  | none | short | fourth
  deriving DecidableEq, Repr

/-- What the Line Interface holds (06, state table). The STATUS and RESULT slots carry no frame of
their own: a STATUS is formed at the attempt and a RESULT is the head of the result queue. -/
structure LineUnit where
  station : StationNo
  condition : LineCondition
  recessiveRun : Nat
  dominantRun : Nat
  stuckSince : Option Nat
  stuckReported : Bool
  faultSlot : Slot FaultFrame
  holdSlot : Slot HoldFrame
  shutSlot : Slot ShutFrame
  openSlot : Slot OpenFrame
  statusSlot : Slot Unit
  resultSlot : Slot Unit
  attempt : Option Attempt
  abort : AbortMark
  /-- The bits of the frame being received, from its start bit; true is recessive. -/
  receiving : Option (List Bool)
  badCount : Nat
  deriving DecidableEq, Repr

/-! ## Draw Unit (07) -/

/-- The SELF entry in its three phases (R125). -/
inductive SelfEntry where
  | driven
  | closing (remaining : Nat)
  | stuck
  deriving DecidableEq, Repr

/-- A keyed entry of another station (07, entry table). -/
inductive KeyedEntry where
  | peer (remaining : Nat)
  | stuck
  deriving DecidableEq, Repr

/-- A table keyed by station number: pairs with strictly rising keys. -/
abbrev Table (α : Type) := List (Nat × α)

/-- The four phantom slots, each empty or holding the remaining of a PHANTOM entry (R123). -/
structure Phantoms where
  first : Option Nat
  second : Option Nat
  third : Option Nat
  fourth : Option Nat
  deriving DecidableEq, Repr

/-- Claim state (07, state table). -/
inductive Claim where
  | none | waiting | placed | cancelled
  deriving DecidableEq, Repr

/-- What the Draw Unit holds (07, state table). The SELF entry, whose key is the own number, is kept
apart from the entries of other stations (log 21). -/
structure DrawUnit where
  self : Option SelfEntry
  keyed : Table KeyedEntry
  phantoms : Phantoms
  claim : Claim
  /-- A claim request taken while the claim was CANCELLED (R129). -/
  requestHeld : Bool
  deriving DecidableEq, Repr

/-! ## Hold Unit (08) -/

/-- What the Hold Unit holds (08, state table): remaining quanta by sender, the own assertion, and the
time the resend timer started. -/
structure HoldUnit where
  table : Table Nat
  asserted : Bool
  resend : Option Nat
  deriving DecidableEq, Repr

/-! ## Result Unit (09) -/

/-- A result record (09, record table); its dropped field is formed at the attempt. -/
structure Record where
  sequence : BitVec 8
  cycle : BitVec 16
  reason : Reason
  conditions : BitVec 16
  depth : Nat
  peak : Nat
  mass : Nat
  pulses : Nat
  strikesUsed : Nat
  deriving DecidableEq, Repr

/-- What the Result Unit holds (09, state table). -/
structure ResultUnit where
  queue : List Record
  sequence : BitVec 8
  dropCount : Nat
  rejectRun : Nat
  /-- The dropped figure carried by the RESULT attempt on the line (R169). -/
  carried : Nat
  deriving DecidableEq, Repr

/-! ## Recipe Store (10) -/

/-- Load result (10, state table). -/
inductive LoadResult where
  | none | accepted | refused
  deriving DecidableEq, Repr

/-- Refusal cause (10, state table). -/
inductive RefusalCause where
  | none | length | check | version | offset | body | repeated | short | missing
  deriving DecidableEq, Repr

/-- What the Recipe Store holds (10, state table). The image is a memory of 256 bytes: positions
strictly rising, none listed with the value 0 that an unlisted position reads as (R174). -/
structure RecipeUnit where
  image : List Host.Cell
  /-- The positions written since the image was last cleared (R175). -/
  written : BitVec 256
  loadedLength : Nat
  loadResult : LoadResult
  refusal : RefusalCause
  checkResult : BitVec 16
  recipe : Option Recipe
  clampFlag : Bool
  unknownFlag : Bool
  deriving DecidableEq, Repr

/-! ## Fault Unit (11) -/

/-- What the Fault Unit holds (11): bit k of `latched` is cell k; bit k of `enables` is the enable of
class A cell 6 + k; the class F enables are always set. -/
structure FaultUnit where
  latched : BitVec 10
  enables : BitVec 4
  alert : Bool
  deriving DecidableEq, Repr

/-! ## The whole head -/

/-- The state of the head, with the queue of waiting commands in front of it. -/
structure State where
  pending : List Instr
  /-- The model's clock: bit times of 2 µs since reset (log 1). -/
  clock : Nat
  /-- How often the free value of log 9 has been used. -/
  freeCount : Nat
  /-- The GAS_FB pin: true while it shows the valve open. -/
  gasFb : Bool
  context : Option CanContext
  cycle : CycleUnit
  crimp : CrimpUnit
  sensor : SensorUnit
  dose : DoseUnit
  gas : GasUnit
  line : LineUnit
  draw : DrawUnit
  hold : HoldUnit
  result : ResultUnit
  recipe : RecipeUnit
  fault : FaultUnit
  deriving DecidableEq, Repr

/-- An empty slot (R101). -/
def Slot.vacant {α : Type} : Slot α := { body := .empty, next := none, failures := 0 }

/-- The head right after reset: R1, R22, R38, R55, R77, R101, R123, R147, R162, R174 and R186. The
STATUS slot holds the STATUS of the entry to LOADING (R8, R101; log 7). The straps read 1 (log 5) and
GAS_FB shows closed (log 6). -/
def State.reset : State where
  pending := []
  clock := 0
  freeCount := 0
  gasFb := false
  context := none
  cycle :=
    { station := .loading, phase := .returning, stopPending := false, counter := 0, period := none
      infeedRef := none, silence := none, silenceOver := false, grant := .none
      startRefusal := .none, zeroTest := none, loadingSince := 0 }
  crimp :=
    { state := .idle, peak := 0, finalDepth := 0, failure := .none, timer := .stopped, lastDepth := 0 }
  sensor :=
    { header := { reading := 0, validity := .notYet, misses := 0 }
      bell := { reading := 0, validity := .notYet, misses := 0 }
      scan := .full, transaction := none, lastPair := none, zeroOffset := 0, zeroing := .idle
      zeroSamples := [], zeroDebt := 1, closings := 0
      sample := { ph := 101, pc := 101, header := .notYet, bell := .notYet, pcClamped := .no }
      headerLostDue := false }
  dose :=
    { drive := none, rate := none, running := false, planned := 2, elapsed := 0, credited := 0
      massAtStart := 0, remainderAtStart := 0, attemptLength := none }
  gas :=
    { stage := .idle, feedbackWindow := none, feedbackSeen := false, closeWindow := none
      stuckEpisode := false, lastOpen := 0, settleTimer := none, checkTimer := none, ventSince := 0 }
  line :=
    { station := 1, condition := .busy, recessiveRun := 0, dominantRun := 0, stuckSince := none
      stuckReported := false, faultSlot := Slot.vacant, holdSlot := Slot.vacant
      shutSlot := Slot.vacant, openSlot := Slot.vacant
      statusSlot := { body := .pending (), next := none, failures := 0 }
      resultSlot := Slot.vacant, attempt := none, abort := .none, receiving := none, badCount := 0 }
  draw :=
    { self := none, keyed := []
      phantoms := { first := none, second := none, third := none, fourth := none }
      claim := .none, requestHeld := false }
  hold := { table := [], asserted := false, resend := none }
  result := { queue := [], sequence := 0, dropCount := 0, rejectRun := 0, carried := 0 }
  recipe :=
    { image := [], written := 0, loadedLength := 0, loadResult := .none, refusal := .none
      checkResult := 0, recipe := none, clampFlag := false, unknownFlag := false }
  fault := { latched := 0, enables := 15, alert := false }

end Sys2Proof.Machine
end

