-- ==== Sys2Proof/Machine/Flags.lean ====
section
/-!
DEFINITION. The sets of named bits: condition flags (12_formats.md section 12.2), fault cells and their
classes and enables (11), the reasons in R164's priority, and the formula of ALERT_N (R189).
-/

namespace Sys2Proof.Machine

/-! ## Conditions -/

/-- The bit of a condition in the condition set (section 12.2). -/
def conditionBit : Condition → Nat
  | .crimpNoSeat => 0
  | .crimpOverforce => 1
  | .crimpTimeout => 2
  | .crimpWindow => 3
  | .strike => 4
  | .drawWait => 5
  | .holdWait => 6
  | .noDrive => 7
  | .windowCut => 8
  | .maxPulses => 9
  | .checkCut => 10
  | .zeroOverdue => 11
  | .pcClamped => 12
  | .sat => 13
  | .markLate => 14
  | .lineWait => 15

/-- The set holding one condition. -/
def conditionMask (c : Condition) : BitVec 16 := BitVec.twoPow 16 (conditionBit c)

/-- The set with a condition set; a flag once set stays set (R165). -/
def setCondition (c : Condition) (flags : BitVec 16) : BitVec 16 := flags ||| conditionMask c

/-- Whether a condition is set. -/
def hasCondition (c : Condition) (flags : BitVec 16) : Bool := flags.getLsbD (conditionBit c)

/-! ## Reasons -/

/-- R164's order of priority. -/
def reasonOrder : List Reason :=
  [.headFaulted, .headStopped, .skippedZero, .noCan, .markError, .crimpBad, .lateCrimp, .sensorLost,
    .valveFault, .stemBlocked, .notGassed, .lowDose, .highDose, .leak]

/-- The code of a reason: its priority number (section 12.2). -/
def reasonCode : Reason → Nat
  | .headFaulted => 1
  | .headStopped => 2
  | .skippedZero => 3
  | .noCan => 4
  | .markError => 5
  | .crimpBad => 6
  | .lateCrimp => 7
  | .sensorLost => 8
  | .valveFault => 9
  | .stemBlocked => 10
  | .notGassed => 11
  | .lowDose => 12
  | .highDose => 13
  | .leak => 14
  | .good => 15

/-- A candidate added twice counts once (R164). -/
def insertReason (r : Reason) (l : List Reason) : List Reason := if r ∈ l then l else l ++ [r]

/-- The first code of R164's order among the candidates, else GOOD. -/
def chooseReason (candidates : List Reason) : Reason :=
  (reasonOrder.find? (fun r => decide (r ∈ candidates))).getD .good

/-! ## Fault cells -/

/-- The number of a cell (12_formats.md, below the kind table). -/
def cellNumber : Cell → Nat
  | .valveStuck => 0
  | .crimpJam => 1
  | .headerLost => 2
  | .bellLost => 3
  | .lineDead => 4
  | .duplicate => 5
  | .markOrder => 6
  | .zeroDrift => 7
  | .lineNoisy => 8
  | .rejectRun => 9

/-- The ten cells in the order of the cell table. -/
def allCells : List Cell :=
  [.valveStuck, .crimpJam, .headerLost, .bellLost, .lineDead, .duplicate, .markOrder, .zeroDrift,
    .lineNoisy, .rejectRun]

/-- The cells of class F: numbers 0 to 5 (11, cell table). -/
def classF (c : Cell) : Bool := decide (cellNumber c < 6)

/-- Whether a cell is latched. -/
def isLatched (c : Cell) (latched : BitVec 10) : Bool := latched.getLsbD (cellNumber c)

/-- The cells with one latched. -/
def latchCell (c : Cell) (latched : BitVec 10) : BitVec 10 :=
  latched ||| BitVec.twoPow 10 (cellNumber c)

/-- The cells with one cleared. -/
def clearCell (c : Cell) (latched : BitVec 10) : BitVec 10 :=
  latched &&& ~~~BitVec.twoPow 10 (cellNumber c)

/-- Whether a class F cell is latched. -/
def anyClassF (latched : BitVec 10) : Bool := latched.extractLsb' 0 6 != 0

/-- The latched class A cells, bit k being cell 6 + k. -/
def classACells (latched : BitVec 10) : BitVec 4 := latched.extractLsb' 6 4

/-- ALERT_N is asserted while a class F cell is latched, or a class A cell whose enable is set (R189). -/
def alertOf (latched : BitVec 10) (enables : BitVec 4) : Bool :=
  anyClassF latched || (classACells latched &&& enables) != 0

end Sys2Proof.Machine
end

