-- ==== Sys2Proof/Machine/Operands.lean ====
section
/-!
DEFINITION. What the commands' operands come to: the clamp of the crimp inputs (R23), the outcome of a
sensor transaction (R42), the corrected pressures (R46), the drive term (R56), the predicted rate (R68),
the credit (R59) and the planned length (R71).
-/

namespace Sys2Proof.Machine

/-- A value taken into `low..high`: below becomes the lower limit, above the upper (R182). -/
def clampTo (low high v : Nat) : Nat := if v < low then low else if high < v then high else v

/-- A reading beyond its range is clamped (R23). -/
def clampReading (high : Nat) (v : Int) : Nat := if v < 0 then 0 else clampTo 0 high v.toNat

/-- The force of a sample, 0..20,000 N (R23). -/
def forceReading (v : Int) : Nat := clampReading 20000 v

/-- The depth of a sample, 0..8000 µm (R23). -/
def depthReading (v : Int) : Nat := clampReading 8000 v

/-! ## Sensor transactions (R39, R42) -/

/-- The number of ones among the `n` low bits of a number. -/
def onesBelow (x : Nat) : Nat → Nat
  | 0 => 0
  | n + 1 => onesBelow x n + (if x.testBit n then 1 else 0)

/-- The reading and its parity bit contain an even number of ones: the reply's top thirteen bits. -/
def parityEven (word : BitVec 16) : Bool := onesBelow (word.toNat / 8) 13 % 2 == 0

/-- A transaction is good when its start and stop were made, the address was acknowledged, both bytes
arrived and the parity is even (R42). -/
def replyGood (r : SensorReply) : Bool :=
  r.startMade && r.acknowledged && r.complete && r.stopMade && parityEven r.word

/-- What the port took of a transaction whose start was made or not: without its start it is missed, whatever the
link showed (R39, R42). -/
def takenReply (startMade : Bool) (r : SensorReply) : SensorReply :=
  { r with startMade := r.startMade && startMade }

/-- The 12-bit reading, most significant bit first, ahead of the parity bit and three ignored bits. -/
def replyReading (r : SensorReply) : BitVec 12 := BitVec.ofNat 12 (r.word.toNat / 16)

/-- One channel after a transaction (R42, R43). -/
def channelAfter (r : SensorReply) (c : ChannelState) : ChannelState :=
  if replyGood r then { reading := replyReading r, validity := .valid, misses := 0 }
  else
    let misses := if c.misses < 3 then c.misses + 1 else 3
    { c with misses := misses, validity := if misses = 3 then .stale else c.validity }

/-! ## Corrected pressures (R46) -/

/-- Ph from the header reading. -/
def correctedPh (reading : BitVec 12) : Nat :=
  clampTo 0 Config.maxPressure (reading.toNat + Config.atmosphere)

/-- The bell pressure before its clamp. -/
def rawPc (reading : BitVec 12) (offset : Nat) : Int :=
  (reading.toNat : Int) - (offset : Int) + (Config.atmosphere : Int)

/-- Pc from the bell reading and the zero offset. -/
def correctedPc (reading : BitVec 12) (offset : Nat) : Nat :=
  clampReading Config.maxPressure (rawPc reading offset)

/-- Whether Pc was clamped, and at which end. -/
def pcClampMark (reading : BitVec 12) (offset : Nat) : Clamped :=
  if rawPc reading offset < 0 then .low
  else if (Config.maxPressure : Int) < rawPc reading offset then .high
  else .no

/-- The pressure sample formed from the readings held (R40, R46). -/
def formSample (p : SensorUnit) : Sample :=
  { ph := correctedPh p.header.reading
    pc := correctedPc p.bell.reading p.zeroOffset
    header := p.header.validity
    bell := p.bell.validity
    pcClamped := pcClampMark p.bell.reading p.zeroOffset }

/-- Both channels are VALID in the sample (R47). -/
def sampleUsable (p : Sample) : Bool := p.header == .valid && p.bell == .valid

/-! ## Dose arithmetic (04) -/

/-- The floor square root of `n`, found from the bit `k - 1` of the root downwards, above `root`. -/
def isqrtFrom (n : Nat) : Nat → Nat → Nat
  | 0, root => root
  | k + 1, root =>
    let trial := root + 2 ^ k
    if trial * trial ≤ n then isqrtFrom n k trial else isqrtFrom n k root

/-- isqrt for numbers below 2^32: the largest integer whose square does not exceed `n` (R56). The
largest product R56 forms is 4,192,256. -/
def isqrt (n : Nat) : Nat := isqrtFrom n 16 0

/-- The drive term of a pair of pressures (R56). -/
def driveTerm (ph pc : Nat) : Nat :=
  if pc ≤ ph / 2 then ph
  else if pc < ph then 2 * isqrt (pc * (ph - pc))
  else 0

/-- The predicted rate floor(K × f / 4096) (R68). -/
def predictedRate (k f : Nat) : Nat := k * f / Config.remainderUnits

/-- The sum S of K × f and the remainder held (R59). -/
def creditSum (k f remainder : Nat) : Nat := k * f + remainder

/-- The credit of a sample in µg (R59). -/
def creditOf (k f remainder : Nat) : Nat := creditSum k f remainder / Config.remainderUnits

/-- The remainder after the credit (R59). -/
def remainderAfter (k f remainder : Nat) : Nat := creditSum k f remainder % Config.remainderUnits

/-- The smallest whole number of samples whose product with `r` is at least `m` (R71). -/
def ceilDiv (m r : Nat) : Nat := (m + (r - 1)) / r

/-- The length of a plan: ceil(R / r) clamped to Nmin..Nmax (R71). -/
def plannedLength (p : Recipe) (mass rate : Nat) : Nat :=
  clampTo p.shortest p.longest (ceilDiv (p.targetMass - mass) rate)

/-- The answers of a plan (R70). -/
inductive PlanAnswer where
  | complete
  | noReading
  | noDrive
  | pulse (length : Nat)
  deriving DecidableEq, Repr

/-- A plan, from M and the latest predicted rate (R70, R72): the latest drive term and the predicted rate
are present together. -/
def planFrom (p : Recipe) (mass : Nat) (drive rate : Option Nat) : PlanAnswer :=
  if p.targetMass ≤ mass + p.tolerance then .complete
  else
    match drive, rate with
    | some _, some r => if r = 0 then .noDrive else .pulse (plannedLength p mass r)
    | _, _ => .noReading

/-- R66's counterpart in the Gas Sequencer: a pulse is dead when the bell pressure rose by less than
dPmin or the feedback was not seen (R85). A fall is a negative rise. -/
def pulseDead (p : Recipe) (pcStart pcEnd : Nat) (feedbackSeen : Bool) : Bool :=
  decide (pcEnd < pcStart + p.leastRise) || !feedbackSeen

/-- The verdict of the leak check (R91). -/
def leakVerdict (p : Recipe) (pcStart pcEnd : Nat) (pcAtEntry : Option Nat) : Verdict :=
  if pcEnd + p.leakFall < pcStart then .leak
  else
    match pcAtEntry with
    | some entry => if pcEnd ≤ entry then .leak else .tight
    | none => .tight

end Sys2Proof.Machine
end

