-- ==== Sys2Proof/Machine/Table.lean ====
section
/-!
DEFINITION. Tables keyed by station number (draw table, hold table) and the recipe image as a memory:
both are lists of pairs with strictly rising keys, so equal contents are equal data.
-/

namespace Sys2Proof.Machine

/-- The value at a key. -/
def tableGet {α : Type} (k : Nat) : List (Nat × α) → Option α
  | [] => none
  | (j, v) :: rest => if j = k then some v else tableGet k rest

/-- The table with the entry at `k` made or replaced. -/
def tableSet {α : Type} (k : Nat) (v : α) : List (Nat × α) → List (Nat × α)
  | [] => [(k, v)]
  | (j, w) :: rest =>
    if k < j then (k, v) :: (j, w) :: rest
    else if j = k then (k, v) :: rest
    else (j, w) :: tableSet k v rest

/-- The table without an entry at `k`. -/
def tableErase {α : Type} (k : Nat) : List (Nat × α) → List (Nat × α)
  | [] => []
  | (j, w) :: rest => if j = k then tableErase k rest else (j, w) :: tableErase k rest

/-- Every value changed by `f`, the entries for which it answers none removed. -/
def tableUpdate {α : Type} (f : α → Option α) : List (Nat × α) → List (Nat × α)
  | [] => []
  | (j, w) :: rest =>
    match f w with
    | some v => (j, v) :: tableUpdate f rest
    | none => tableUpdate f rest

/-- Whether every key of the table is above `k`. -/
def keysAbove {α : Type} (k : Nat) : List (Nat × α) → Bool
  | [] => true
  | (j, _) :: rest => decide (k < j) && keysAbove k rest

/-- The canonical form of a table: keys strictly rising. -/
def tableWf {α : Type} : List (Nat × α) → Bool
  | [] => true
  | (j, _) :: rest => keysAbove j rest && tableWf rest

/-! ## The recipe image (10, section 10.1) -/

/-- What a position that is not listed reads as: reset and a new image clear every position to 0
(R174, R176). -/
def unlistedByte : Byte := 0

/-- The byte at a position. -/
def readByte (image : List Host.Cell) (position : Nat) : Byte :=
  (tableGet position image).getD unlistedByte

/-- The image with one position written; writing what an unlisted position reads as removes the entry. -/
def writeByte (position : Nat) (value : Byte) (image : List Host.Cell) : List Host.Cell :=
  if value = unlistedByte then tableErase position image else tableSet position value image

/-- Whether no listed byte equals what an unlisted position reads as, and none stands past 255. -/
def cellsProper : List Host.Cell → Bool
  | [] => true
  | (position, value) :: rest =>
    decide (position < 256) && value != unlistedByte && cellsProper rest

/-- The canonical form of the image. -/
def Memory.wf (image : List Host.Cell) : Bool := tableWf image && cellsProper image

/-- A field of `width` bytes of the image from `position`, high byte first (R196). -/
def readField (image : List Host.Cell) (position : Nat) : Nat → Nat
  | 0 => 0
  | width + 1 =>
    (readByte image position).toNat * 256 ^ width + readField image (position + 1) width

end Sys2Proof.Machine
end

