-- ==== Sys2Proof/Machine/Ops.lean ====
section
/-!
DEFINITION. The named operations every block shares: reading the recipe, the outputs, writing the can
context, the transmit slots (R111, R113), placing a STATUS, forming ALERT_N (R189), latching a class A
cell (R187) and closing the can context (R17, R53, R163 to R171).
-/

namespace Sys2Proof.Machine

/-! ## Reading -/

/-- The recipe as every block reads it (R184). -/
def State.params (s : State) : Recipe := s.recipe.recipe.getD Config.absentRecipe

/-- The gas part of the open context. -/
def State.gasPart (s : State) : Option GasPart := s.context.bind (·.gas)

/-- The crimp part of the open context. -/
def State.crimpPart (s : State) : Option CrimpPart := s.context.bind (·.crimp)

/-- M of the current can; 0 when there is no gas part. -/
def State.mass (s : State) : Nat := (s.gasPart.map (·.mass)).getD 0

/-- The pulse list of the current can. -/
def State.pulses (s : State) : List Pulse := (s.gasPart.map (·.pulses)).getD []

/-- GAS is on in stage PULSE alone (05, section 5.1; R83). -/
def State.gasOn (s : State) : Bool := s.gas.stage == .pulse

/-- VENT is on in stage IDLE alone (05, section 5.1; R83). -/
def State.ventOn (s : State) : Bool := s.gas.stage == .idle

/-- CLOSE is on in every crimp state but IDLE (R36). -/
def State.closeOn (s : State) : Bool := s.crimp.state != .idle

/-- FORM is on in the crimp states FORM and DWELL (R36). -/
def State.formOn (s : State) : Bool := s.crimp.state == .form || s.crimp.state == .dwell

/-- The zone a frame carries: the own zone of the recipe, or 255 while none is present (R188). -/
def State.zoneByte (s : State) : Byte :=
  match s.recipe.recipe with
  | some p => BitVec.ofNat 8 p.zone
  | none => 255

/-- Whether the straps gave a valid head number (R122). -/
def State.strapsValid (s : State) : Bool :=
  decide (1 ≤ s.line.station.toNat ∧ s.line.station.toNat ≤ 30)

/-- The key of the own entries: the own station number. -/
def State.ownKey (s : State) : Nat := s.line.station.toNat

/-- Whether time `limit` ms has passed on the clock since `start`, at this very tick. -/
def dueAt (clock start limit : Nat) : Bool := clock == start + limit * Config.ticksPerMs

/-- Whether time `limit` ms has passed on the clock since `start`: a timer that has not reached its limit does
not expire (R37, R52). -/
def reached (clock start limit : Nat) : Bool := decide (start + limit * Config.ticksPerMs ≤ clock)

/-- Whether a timer that runs since `since` has reached its limit; one that is stopped has not. -/
def hasExpired (clock : Nat) (since : Option Nat) (limit : Nat) : Bool :=
  match since with
  | some t => reached clock t limit
  | none => false

/-- The event once, when it is due. -/
def whenDue (due : Bool) (c : Instr) : List Instr := if due then [c] else []

/-! ## Writing the can context -/

/-- The open context changed; without one nothing happens. -/
def onContext (f : CanContext → CanContext) (s : State) : State :=
  { s with context := s.context.map f }

/-- A candidate reason added (R164). -/
def addReason (r : Reason) (s : State) : State :=
  onContext (fun c => { c with reasons := insertReason r c.reasons }) s

/-- A condition set (R165). -/
def addCondition (k : Condition) (s : State) : State :=
  onContext (fun c => { c with conditions := setCondition k c.conditions }) s

/-- The gas part changed. -/
def onGasPart (f : GasPart → GasPart) (s : State) : State :=
  onContext (fun c => { c with gas := c.gas.map f }) s

/-- The crimp part changed. -/
def onCrimpPart (f : CrimpPart → CrimpPart) (s : State) : State :=
  onContext (fun c => { c with crimp := c.crimp.map f }) s

/-- The check part changed. -/
def onCheckPart (f : CheckPart → CheckPart) (s : State) : State :=
  onContext (fun c => { c with check := c.check.map f }) s

/-- The last element of a list changed. -/
def onLast {α : Type} (f : α → α) : List α → List α
  | [] => []
  | [x] => [f x]
  | x :: y :: rest => x :: onLast f (y :: rest)

/-- The newest pulse entry changed. -/
def onLastPulse (f : Pulse → Pulse) (s : State) : State :=
  onGasPart (fun g => { g with pulses := onLast f g.pulses }) s

/-! ## Transmit slots (R111, R113) -/

/-- Whether a slot holds a PENDING frame. -/
def slotPending {α : Type} (t : Slot α) : Bool :=
  match t.body with
  | .pending _ => true
  | _ => false

/-- Whether a slot's frame is on the line. -/
def slotOnLine {α : Type} (t : Slot α) : Bool :=
  match t.body with
  | .onLine _ => true
  | _ => false

/-- Whether a slot is EMPTY. -/
def slotEmpty {α : Type} (t : Slot α) : Bool :=
  match t.body with
  | .empty => true
  | _ => false

/-- A frame placed in a slot (R111): an EMPTY slot becomes PENDING, a pending frame is replaced with the
failure count kept, and a slot on the line holds it as its next frame. -/
def slotPlace {α : Type} (f : α) (t : Slot α) : Slot α :=
  match t.body with
  | .empty => { t with body := .pending f }
  | .pending _ => { t with body := .pending f }
  | .onLine _ => { t with next := some f }

/-- The attempt begins: a pending frame goes on the line (R105). -/
def slotStart {α : Type} (t : Slot α) : Slot α :=
  match t.body with
  | .pending f => { t with body := .onLine f }
  | _ => t

/-- The frame completed (R108): the failure count returns to 0 and the next frame becomes PENDING. -/
def slotComplete {α : Type} (t : Slot α) : Slot α :=
  match t.next with
  | some f => { body := .pending f, next := none, failures := 0 }
  | none => Slot.vacant

/-- The attempt was lost or failed short of the fourth time (R106, R107, R111): the slot is PENDING again,
with the next frame in place of the one that went back, and the failure count kept. -/
def slotReturn {α : Type} (t : Slot α) : Slot α :=
  match t.body with
  | .onLine f =>
    match t.next with
    | some g => { t with body := .pending g, next := none }
    | none => { t with body := .pending f }
  | _ => t

/-- A FAULT frame with code VALVE_STUCK. -/
def FaultFrame.isStuck (f : FaultFrame) : Bool := f.cell == .valveStuck

/-- A FAULT frame placed: a VALVE_STUCK is not displaced by another code (R111). -/
def faultPlace (f : FaultFrame) (t : Slot FaultFrame) : Slot FaultFrame :=
  match t.body with
  | .empty => { t with body := .pending f }
  | .pending g =>
    if g.isStuck && !f.isStuck then { t with next := some f } else { t with body := .pending f }
  | .onLine _ =>
    match t.next with
    | some n => if n.isStuck && !f.isStuck then t else { t with next := some f }
    | none => { t with next := some f }

/-- The FAULT slot after a loss or a failure: a VALVE_STUCK that goes back keeps a next frame of another
code as its next frame (R111). -/
def faultReturn (t : Slot FaultFrame) : Slot FaultFrame :=
  match t.body with
  | .onLine f =>
    match t.next with
    | some g =>
      if f.isStuck && !g.isStuck then { t with body := .pending f }
      else { t with body := .pending g, next := none }
    | none => { t with body := .pending f }
  | _ => t

/-- A STATUS placed: every STATUS is the same request, its payload being formed at the attempt (R111). -/
def placeStatus (s : State) : State :=
  { s with line := { s.line with statusSlot := slotPlace () s.line.statusSlot } }

/-- A FAULT placed for a cell, with the zone and the valve state of the moment (R188). The valve state is what GAS_FB
shows, also while a pulse runs whose valve does not show open: DESIGN CHOICE, log 41. -/
def placeFault (c : Cell) (s : State) : State :=
  { s with
    line :=
      { s.line with
        faultSlot :=
          faultPlace { cell := c, zone := s.zoneByte, valveOpen := s.gasFb } s.line.faultSlot } }

/-- A HOLD of the own zone placed with hold time `q` (08). -/
def placeHold (q : Nat) (s : State) : State :=
  { s with
    line := { s.line with holdSlot := slotPlace { zone := s.zoneByte, q := q } s.line.holdSlot } }

/-- A SHUT placed with its samples figure; the newer replaces the older (R111, R137). -/
def placeShut (samples : Nat) (s : State) : State :=
  { s with
    line :=
      { s.line with shutSlot := slotPlace { zone := s.zoneByte, samples := samples } s.line.shutSlot } }

/-- An OPEN of the own zone placed; it carries no length yet (R129). -/
def placeOpen (s : State) : State :=
  { s with line := { s.line with openSlot := slotPlace { zone := s.zoneByte } s.line.openSlot } }

/-- The OPEN withdrawn (R113): the slot EMPTY, its failure count 0, no next frame; the attempt length
becomes none (R73). -/
def withdrawOpen (s : State) : State :=
  { s with
    line := { s.line with openSlot := Slot.vacant }
    dose := { s.dose with attemptLength := none } }

/-- The RESULT slot agrees with the queue: PENDING whenever the queue holds a record and its head is not
on the line (R111, R169). -/
def syncResult (s : State) : State :=
  let slot := s.line.resultSlot
  if s.result.queue.isEmpty then
    if slotPending slot then { s with line := { s.line with resultSlot := Slot.vacant } } else s
  else if slotEmpty slot then
    { s with line := { s.line with resultSlot := { slot with body := .pending () } } }
  else s

/-! ## Fault cells and ALERT_N -/

/-- ALERT_N formed anew from the cells and the enables (R189). -/
def formAlert (s : State) : State :=
  { s with fault := { s.fault with alert := alertOf s.fault.latched s.fault.enables } }

/-- Whether a cell is latched. -/
def State.latched (s : State) (c : Cell) : Bool := isLatched c s.fault.latched

/-- Whether a class F cell is latched. -/
def State.anyF (s : State) : Bool := anyClassF s.fault.latched

/-- A cell latched, before its class acts. -/
def latch (c : Cell) (s : State) : State :=
  { s with fault := { s.fault with latched := latchCell c s.fault.latched } }

/-- A class A cause reported (R187): a clear cell is latched, ALERT_N formed anew and a STATUS placed; a
latched cell stays as it is. -/
def reportA (c : Cell) (s : State) : State :=
  if s.latched c then s else placeStatus (formAlert (latch c s))

/-! ## Closing the can context (R17) -/

/-- The record built from a context (R163 to R165, R100). -/
def buildRecord (s : State) (c : CanContext) : Record :=
  { sequence := s.result.sequence
    cycle := c.cycle
    reason := chooseReason c.reasons
    conditions := c.conditions
    depth := (c.crimp.map (·.depth)).getD 0
    peak := (c.crimp.map (·.peak)).getD 0
    mass := (c.gas.map (fun g => g.mass / 10)).getD 0
    pulses := (c.gas.map (·.pulses.length)).getD 0
    strikesUsed := (c.gas.map (fun g => s.params.strikes - g.strikes)).getD 0 }

/-- The reasons that leave the reject-run count unchanged (R171). -/
def reasonUncounted : Reason → Bool
  | .noCan => true
  | .skippedZero => true
  | .headStopped => true
  | .headFaulted => true
  | _ => false

/-- The reject-run count updated from a record's reason (R171). -/
def countReject (r : Reason) (s : State) : State :=
  if r = .good then { s with result := { s.result with rejectRun := 0 } }
  else if reasonUncounted r then s
  else if s.params.rejectLimit = 0 then { s with result := { s.result with rejectRun := 0 } }
  else if s.params.rejectLimit ≤ s.result.rejectRun + 1 then
    reportA .rejectRun { s with result := { s.result with rejectRun := 0 } }
  else { s with result := { s.result with rejectRun := s.result.rejectRun + 1 } }

/-- The drop count increased by 1, saturating at 255 (R168, R170). -/
def oneMoreDropped (n : Nat) : Nat := if n < 255 then n + 1 else 255

/-- The queue without its oldest record that is not on the line (R168). -/
def discardOldest (headOnLine : Bool) (queue : List Record) : List Record :=
  match queue with
  | [] => []
  | h :: rest => if headOnLine then h :: rest.drop 1 else rest

/-- A record joins the queue; a full queue first discards one (R168). -/
def queueRecord (r : Record) (s : State) : State :=
  if s.result.queue.length < Config.queueLimit then
    syncResult { s with result := { s.result with queue := s.result.queue ++ [r] } }
  else
    syncResult
      { s with
        result :=
          { s.result with
            queue := discardOldest (slotOnLine s.line.resultSlot) s.result.queue ++ [r]
            dropCount := oneMoreDropped s.result.dropCount } }

/-- The closing counted towards the zero debt (R53); a changed debt places a STATUS (R45). -/
def accrueDebt (s : State) : State :=
  if s.params.closingsPerStep ≤ s.sensor.closings + 1 then
    let stepped := { s with sensor := { s.sensor with closings := 0, zeroDebt := min 4 (s.sensor.zeroDebt + 1) } }
    if s.sensor.zeroDebt < 4 then placeStatus stepped else stepped
  else { s with sensor := { s.sensor with closings := s.sensor.closings + 1 } }

/-- The open context closed (R17): its record built, the reject run updated, the record queued, in that
order (R163), and the closing counted (R53). -/
def closeContext (s : State) : State :=
  match s.context with
  | none => s
  | some c =>
    let record := buildRecord s c
    let numbered :=
      { s with context := none, result := { s.result with sequence := s.result.sequence + 1 } }
    accrueDebt (queueRecord record (countReject record.reason numbered))

/-! ## Zeroing grants (R19, R49, R52) -/

/-- The grant becomes granted and a zeroing begins (R49). -/
def startZeroing (s : State) : State :=
  { s with
    cycle := { s.cycle with grant := .granted }
    sensor := { s.sensor with zeroing := .collecting s.clock, zeroSamples := [] } }

/-- The grant ended early: a running zeroing is abandoned and its sample list cleared (R52). -/
def endGrant (s : State) : State :=
  { s with
    cycle := { s.cycle with grant := .none }
    sensor :=
      match s.sensor.zeroing with
      | .idle => s.sensor
      | .collecting _ => { s.sensor with zeroing := .idle, zeroSamples := [] } }

/-- The grant of a PASS pocket: given at once when VENT has been on for 20 ms, else waiting (R19). -/
def grantPassPocket (s : State) : State :=
  if s.ventOn && decide (s.gas.ventSince + Config.ventTime * Config.ticksPerMs ≤ s.clock) then
    startZeroing s
  else { s with cycle := { s.cycle with grant := .waitingForVent } }

end Sys2Proof.Machine
end

