-- ==== Sys2Proof/Machine/Claims.lean ====
section
/-!
DEFINITION. The Draw Unit's operations (07): the count of non-SELF entries (R124), the admission test and
its outcomes (R127 to R131), the claim request, its cancellation (R134, R135), the SELF entry (R125,
R133, R136 to R138) and the entries of other stations (R139 to R143).
-/

namespace Sys2Proof.Machine

/-- The four phantom slots as a list, lowest number first. -/
def phantomList (p : Phantoms) : List (Option Nat) := [p.first, p.second, p.third, p.fourth]

/-- The PHANTOM entries held. -/
def phantomCount (p : Phantoms) : Nat := (phantomList p).countP Option.isSome

/-- The number of non-SELF entries: PEER, STUCK and PHANTOM together (R124). -/
def State.nonSelf (s : State) : Nat := s.draw.keyed.length + phantomCount s.draw.phantoms

/-- The admission test (R127). -/
def State.admits (s : State) : Bool :=
  s.hold.table.isEmpty && decide (s.nonSelf < s.params.openLimit) && s.cycle.station == .run
    && s.gas.stage == .claim && !s.latched .lineDead

/-- The claim state set. -/
def setClaim (c : Claim) (s : State) : State := { s with draw := { s.draw with claim := c } }

/-- The admission test repeated (R128, R130): it is made while the claim is WAITING, or PLACED with the
OPEN slot PENDING, and the stage is CLAIM. -/
def retest (s : State) : State :=
  if s.gas.stage = .claim then
    match s.draw.claim with
    | .waiting => if s.admits then setClaim .placed (placeOpen s) else s
    | .placed =>
      if slotPending s.line.openSlot && !s.admits then
        addCondition .drawWait (setClaim .waiting (withdrawOpen s))
      else s
    | _ => s
  else s

/-- The claim request at the entry to CLAIM (R129). -/
def requestClaim (s : State) : State :=
  match s.draw.claim with
  | .none =>
    if s.admits then setClaim .placed (placeOpen s) else addCondition .drawWait (setClaim .waiting s)
  | .cancelled => { s with draw := { s.draw with requestHeld := true } }
  | _ => s

/-- A request held through a cancelled attempt is taken once that attempt has ended (R129). -/
def takeHeldRequest (s : State) : State :=
  if s.draw.requestHeld && s.gas.stage == .claim then
    requestClaim { s with draw := { s.draw with requestHeld := false } }
  else s

/-- The claim cancelled when the Gas Sequencer leaves CLAIM for a stage other than PULSE (R134). A claim request
held since the claim was CANCELLED (R129) is dropped with it: DESIGN CHOICE, log 37. -/
def cancelClaim (s : State) : State :=
  let s := { s with draw := { s.draw with requestHeld := false } }
  match s.draw.claim with
  | .waiting => setClaim .none s
  | .placed =>
    if slotOnLine s.line.openSlot then setClaim .cancelled s else setClaim .none (withdrawOpen s)
  | _ => s

/-! ## The SELF entry -/

/-- The SELF entry made at the own OPEN's completion (R133). -/
def addSelf (s : State) : State := { s with draw := { s.draw with self := some .driven } }

/-- GAS off: an open SELF entry is closing with 10 samples remaining; a stuck one stays (R125, R136). -/
def closeSelf (s : State) : State :=
  { s with
    draw :=
      { s.draw with
        self :=
          match s.draw.self with
          | some .driven => some (.closing Config.closingSamples)
          | other => other } }

/-- The valve reported closed to the Draw Unit (R137): SELF is removed and a SHUT with the last open count
queued; in LOADING nothing is queued. The clearing of the stuck flag places a STATUS (R146). -/
def reportClosed (s : State) : State :=
  let wasStuck := s.draw.self == some .stuck
  let s := { s with draw := { s.draw with self := none } }
  let s := if s.cycle.station = .loading then s else placeShut s.gas.lastOpen s
  if wasStuck then placeStatus s else s

/-- The stuck flag set on the SELF entry, which is added where there is none (R138, R146). -/
def stuckSelf (s : State) : State :=
  placeStatus { s with draw := { s.draw with self := some .stuck } }

/-- At the entry to a table-keeping state the Draw Unit reads the stuck episode (R138). -/
def readStuckEpisode (s : State) : State :=
  if s.gas.stuckEpisode && s.draw.self.isNone then stuckSelf s else s

/-! ## Entries of other stations -/

/-- A received OPEN (R139): a PEER entry with the clamped length plus G; a STUCK entry stays. -/
def peerOpens (sender : StationNo) (length : Half) (s : State) : State :=
  match tableGet sender.toNat s.draw.keyed with
  | some .stuck => s
  | _ =>
    { s with
      draw :=
        { s.draw with
          keyed :=
            tableSet sender.toNat (.peer (clampTo 1 400 length.toNat + s.params.guardTime))
              s.draw.keyed } }

/-- A keyed entry removed; the removal of a STUCK entry places a STATUS (R140, R142, R146). -/
def removeKeyed (sender : StationNo) (s : State) : State :=
  let removed :=
    { s with draw := { s.draw with keyed := tableErase sender.toNat s.draw.keyed } }
  if tableGet sender.toNat s.draw.keyed = some .stuck then placeStatus removed else removed

/-- A STUCK entry made for a sender, unless it holds one; the making places a STATUS (R141, R146). -/
def makeStuck (sender : StationNo) (s : State) : State :=
  if tableGet sender.toNat s.draw.keyed = some .stuck then s
  else
    placeStatus
      { s with draw := { s.draw with keyed := tableSet sender.toNat .stuck s.draw.keyed } }

/-- A received FAULT (R141): code VALVE_STUCK makes a STUCK entry, every other code changes nothing. -/
def peerFaults (sender : StationNo) (code : Byte) (s : State) : State :=
  if code = 0 then makeStuck sender s else s

/-- The station state a STATUS payload shows: bits 7..5 of byte 0 (section 12.4). -/
def statusStation (payload : List Byte) : Nat := (payload.getD 0 0).toNat / 32

/-- The own valve phase a STATUS payload shows: bits 7..6 of byte 4 (section 12.4). -/
def statusValvePhase (payload : List Byte) : Nat := (payload.getD 4 0).toNat / 64

/-- A received STATUS (R142, R144): only one showing LOADING, and only over an entry, acts, and in LOADING
no table is kept. -/
def peerStatus (sender : StationNo) (payload : List Byte) (s : State) : State :=
  if s.cycle.station = .loading then s
  else if statusStation payload = 0 then
    if statusValvePhase payload = 3 then
      match tableGet sender.toNat s.draw.keyed with
      | none => s
      | some _ => makeStuck sender s
    else removeKeyed sender s
  else s

/-- Whether a phantom slot with remaining `a` is set back before one with remaining `b` of a higher
number: among equal least values the lowest-numbered slot (R143). -/
def notAbove (a b : Option Nat) : Bool := decide (a.getD 0 ≤ b.getD 0)

/-- A phantom reserved (R143): the lowest-numbered empty slot, or the slot with the least remaining. -/
def reservePhantom (remaining : Nat) (p : Phantoms) : Phantoms :=
  if p.first.isNone then { p with first := some remaining }
  else if p.second.isNone then { p with second := some remaining }
  else if p.third.isNone then { p with third := some remaining }
  else if p.fourth.isNone then { p with fourth := some remaining }
  else if notAbove p.first p.second && notAbove p.first p.third && notAbove p.first p.fourth then
    { p with first := some remaining }
  else if notAbove p.second p.third && notAbove p.second p.fourth then
    { p with second := some remaining }
  else if notAbove p.third p.fourth then { p with third := some remaining }
  else { p with fourth := some remaining }

/-- A bad frame while the table is kept reserves a phantom of Nmax + G (R116, R143). -/
def phantomForBadFrame (s : State) : State :=
  if s.cycle.station = .loading then s
  else
    { s with
      draw :=
        { s.draw with
          phantoms := reservePhantom (s.params.longest + s.params.guardTime) s.draw.phantoms } }

/-! ## The countdown (R126) -/

/-- A remaining one sample later: none when it reaches 0. -/
def countOne (n : Nat) : Option Nat := if n ≤ 1 then none else some (n - 1)

/-- A keyed entry one sample later. -/
def countKeyed : KeyedEntry → Option KeyedEntry
  | .peer n => (countOne n).map .peer
  | .stuck => some .stuck

/-- The phantoms one sample later. -/
def countPhantoms (p : Phantoms) : Phantoms :=
  { first := p.first.bind countOne
    second := p.second.bind countOne
    third := p.third.bind countOne
    fourth := p.fourth.bind countOne }

/-- The SELF entry one sample later: only a closing one counts, and it is held at 0 (R125). -/
def countSelf : SelfEntry → SelfEntry
  | .closing n => .closing (n - 1)
  | other => other

/-- The draw table one sample later. -/
def countDraw (d : DrawUnit) : DrawUnit :=
  { d with
    self := d.self.map countSelf
    keyed := tableUpdate countKeyed d.keyed
    phantoms := countPhantoms d.phantoms }

end Sys2Proof.Machine
end

