-- ==== Sys2Proof/Machine/Gassing.lean ====
section
/-!
DEFINITION. The operations of the Dose Unit and the Gas Sequencer (04, 05): plans (R70, R79), the start and
the end of a pulse (R62, R82, R65, R85 to R88), crediting (R58 to R64), the end of gassing (R89, R90, R74),
window cuts (R93), abandonment (R95) and sensor loss (R98).
-/

namespace Sys2Proof.Machine

/-! ## Ends of gassing -/

/-- The comparison of the final M with Mt + Mtol (R74). -/
def compareDose (s : State) : State :=
  match s.gasPart with
  | none => s
  | some g =>
    if s.params.targetMass + s.params.tolerance < g.mass then addReason .highDose s else s

/-- The sequencer enters ENDED, no timer of a stage running, with the comparison of R74 made. -/
def enterEnded (s : State) : State :=
  compareDose
    { s with gas := { s.gas with stage := .ended, settleTimer := none, checkTimer := none } }

/-- The pocket advanced at a completion, from the phase R15's table names before it. -/
def advancePhase (before after : Phase) (s : State) : State :=
  if s.cycle.phase = before then { s with cycle := { s.cycle with phase := after } } else s

/-- Gassing ended and reported: the pocket goes from GAS to SEALED (R89, R15). -/
def endGassing (s : State) : State := advancePhase .gas .sealed (enterEnded s)

/-- The dose is complete (R90): CHECK when a check is configured, else the end of gassing. -/
def doseComplete (s : State) : State :=
  if s.params.checkInterval = 0 then endGassing s
  else
    let s := compareDose s
    let s :=
      onContext
        (fun c =>
          { c with
            check := some { pcAtStart := s.sensor.sample.pc, pcAtEnd := none, verdict := .pending } })
        s
    advancePhase .gas .check
      { s with
        gas := { s.gas with stage := .check, settleTimer := none, checkTimer := some s.clock } }

/-! ## Plans -/

/-- The Dose Unit's answer to a plan made now (R70). -/
def State.planAnswer (s : State) : PlanAnswer :=
  planFrom s.params s.mass s.dose.drive s.dose.rate

/-- NO_DRIVE is set by the plan that answers it (R70). -/
def noteNoDrive (a : PlanAnswer) (s : State) : State :=
  if a = .noDrive then addCondition .noDrive s else s

/-- The decision in PLAN on an answer (R79), completion and the pulse limit apart: a hold keeps the
sequencer in PLAN with HOLD_WAIT, no drive keeps it there, a length takes it to CLAIM. -/
def actOnAnswer (a : PlanAnswer) (s : State) : State :=
  match a with
  | .noReading => s
  | .pulse _ =>
    if s.hold.table.isEmpty then requestClaim { s with gas := { s.gas with stage := .claim } }
    else addCondition .holdWait s
  | _ => if s.hold.table.isEmpty then s else addCondition .holdWait s

/-- The plan asked for in PLAN and the sequencer's decision (R79), tested in R79's order. -/
def decideInPlan (s : State) : State :=
  let a := s.planAnswer
  if a = .complete then doseComplete s
  else
    let s := noteNoDrive a s
    if s.params.maxPulses ≤ s.pulses.length then
      endGassing (addCondition .maxPulses (addReason .lowDose s))
    else actOnAnswer a s

/-- PLAN entered, with a plan made at once from the latest sample (R78, R88). -/
def enterPlan (s : State) : State :=
  decideInPlan { s with gas := { s.gas with stage := .plan, settleTimer := none } }

/-! ## The valve -/

/-- The settle timer started at the valve-closed report in SETTLE; a T_settle of 0 enters PLAN (R87, R88). -/
def startSettle (s : State) : State :=
  if s.gas.stage = .settle then
    if s.params.settleTime = 0 then enterPlan s
    else { s with gas := { s.gas with settleTimer := some s.clock } }
  else s

/-- The valve seen closed while the close window runs (R87). -/
def valveClosed (s : State) : State :=
  startSettle (reportClosed { s with gas := { s.gas with closeWindow := none } })

/-- GAS off with the valve already showing closed: the close window ends at once (R87). -/
def closeIfShut (s : State) : State := if s.gasFb then s else valveClosed s

/-- GAS driven off (R65, R85, R87, R136): the Dose Unit ends the pulse, the entry gets the samples credited,
the Pc of the latest sample and its outcome, the last open count is set and the close window starts. The
caller sets the stage that follows. -/
def endPulse (o : PulseOutcome) (s : State) : State :=
  let s :=
    onLastPulse
      (fun p =>
        { p with
          credited := some s.dose.credited
          pcAtEnd := some s.sensor.sample.pc
          outcome := some o })
      s
  closeSelf
    { s with
      dose := { s.dose with running := false }
      gas :=
        { s.gas with
          feedbackWindow := none
          closeWindow := some s.clock
          lastOpen := s.dose.elapsed } }

/-- The take-back of a dead pulse: M and the remainder as at its start (R66). -/
def takeBack (s : State) : State :=
  onGasPart
    (fun g => { g with mass := s.dose.massAtStart, remainder := s.dose.remainderAtStart }) s

/-- The stage set. -/
def setStage (g : GasStage) (s : State) : State := { s with gas := { s.gas with stage := g } }

/-- A DEAD pulse (R86): taken back, one strike less, STRIKE set; the can is given up at 0 strikes. -/
def deadPulse (s : State) : State :=
  let s := takeBack (endPulse .dead s)
  let s := addCondition .strike (onGasPart (fun g => { g with strikes := g.strikes - 1 }) s)
  if 0 < (s.gasPart.map (·.strikes)).getD 0 then closeIfShut (setStage .settle s)
  else
    closeIfShut
      (endGassing (addReason (if s.gas.feedbackSeen then .stemBlocked else .valveFault) s))

/-- The Pc at the start of the running pulse (R82). -/
def State.pulseStartPc (s : State) : Nat := (s.pulses.getLast?.map (·.pcAtStart)).getD 0

/-- A pulse ended by a report is judged at that sample (R85). -/
def judgePulse (s : State) : State :=
  if pulseDead s.params s.pulseStartPc s.sensor.sample.pc s.gas.feedbackSeen then deadPulse s
  else closeIfShut (setStage .settle (endPulse .good s))

/-- The pulse begins at the completion of the own OPEN in CLAIM (R62, R82, R133): SELF is in the table
before GAS is driven on. GAS_FB shows closed here and the feedback window starts; a valve that shows open is seen
at once (R84), and a close window left from an earlier can ends (log 36). -/
def startPulse (s : State) : State :=
  let n := s.dose.attemptLength.getD 0
  let m := s.mass
  let r := (s.gasPart.map (·.remainder)).getD 0
  let s := addSelf (setClaim .none s)
  let s :=
    onGasPart
      (fun g =>
        { g with
          pulses :=
            g.pulses ++
              [{ planned := n, massAtStart := m, remainderAtStart := r
                 pcAtStart := s.sensor.sample.pc, credited := none, pcAtEnd := none
                 outcome := none }] })
      s
  { s with
    dose :=
      { s.dose with
        running := true, planned := n, elapsed := 0, credited := 0
        massAtStart := m, remainderAtStart := r, attemptLength := none }
    gas :=
      { s.gas with
        stage := .pulse, feedbackWindow := if s.gasFb then none else some s.clock
        feedbackSeen := s.gasFb, closeWindow := none } }

/-! ## Start, cut, loss and abandonment -/

/-- The leak check left without a judgement: verdict CUT, Pc at end absent (R91, R95, R98). -/
def cutCheckPart (s : State) : State := onCheckPart (fun k => { k with verdict := .cut }) s

/-- What the sequencer stops at a cut, a loss or an abandonment, by stage; `true` when GAS was driven off. -/
def stopStage (s : State) : State :=
  match s.gas.stage with
  | .pulse => endPulse .cut s
  | .claim => cancelClaim s
  | .check => cutCheckPart s
  | _ => s

/-- After GAS off the valve may already show closed; other stages leave the close window alone. -/
def closeAfter (before : GasStage) (s : State) : State :=
  if before = .pulse then closeIfShut s else s

/-- The sequencer abandons its work and returns to IDLE with VENT on (R95). -/
def abandonGas (s : State) : State :=
  if s.gas.stage = .idle then s
  else
    let stopped := compareDose (stopStage s)
    closeAfter s.gas.stage
      { stopped with
        gas :=
          { stopped.gas with
            stage := .idle, settleTimer := none, checkTimer := none, ventSince := s.clock } }

/-- The return to IDLE at a discharge: VENT goes on (R92). -/
def returnGas (s : State) : State :=
  if s.gas.stage = .idle then s
  else
    { s with
      gas :=
        { s.gas with
          stage := .idle, settleTimer := none, checkTimer := none, ventSince := s.clock } }

/-- The sequencer is started (R78): VENT off, the strikes and Pc at entry written, PLAN entered. A start
outside IDLE is an abandonment followed by the start. -/
def startGas (s : State) : State :=
  let s := abandonGas s
  let entry := if s.sensor.sample.bell = .valid then some s.sensor.sample.pc else none
  enterPlan
    (onGasPart
      (fun g => { g with strikes := s.params.strikes, pcAtEntry := entry, pulses := [] }) s)

/-- The pocket enters GAS: the gas part is created with M 0 and remainder 0 (R16) and the sequencer
started. -/
def enterGas (s : State) : State :=
  let s := { s with cycle := { s.cycle with phase := .gas } }
  startGas
    (onContext
      (fun c =>
        { c with
          gas := some { mass := 0, remainder := 0, strikes := 0, pcAtEntry := none, pulses := [] } })
      s)

/-- The reason of a window cut, decided by M (R93). -/
def cutReason (s : State) : State :=
  if s.mass = 0 then addReason .notGassed s
  else if s.mass + s.params.tolerance < s.params.targetMass then addReason .lowDose s
  else s

/-- The window cut in PLAN, CLAIM, PULSE or SETTLE (R93, R94); in the other stages the mark adds nothing. -/
def cutWindow (s : State) : State :=
  match s.gas.stage with
  | .plan => endGassing (cutReason (addCondition .windowCut s))
  | .claim => endGassing (cutReason (addCondition .windowCut (cancelClaim s)))
  | .pulse => closeIfShut (endGassing (cutReason (addCondition .windowCut (endPulse .cut s))))
  | .settle => endGassing (cutReason (addCondition .windowCut s))
  | _ => s

/-- The check cut by MK_GASCLOSE (R91). -/
def cutCheck (s : State) : State :=
  if s.gas.stage = .check then enterEnded (cutCheckPart s) else s

/-- A sample without a usable channel ends gassing (R98): SENSOR_LOST, ENDED, no report and no
WINDOW_CUT. -/
def loseSensor (s : State) : State :=
  closeAfter s.gas.stage (enterEnded (addReason .sensorLost (stopStage s)))

/-! ## A pressure sample -/

/-- The drive term and the predicted rate of the sample (R56, R68). In LOADING no recipe is read, and K is
the free value of log 9. -/
def formDrive (s : State) : State :=
  let p := s.sensor.sample
  if sampleUsable p then
    let f := driveTerm p.ph p.pc
    if s.cycle.station = .loading then
      { s with
        freeCount := s.freeCount + 1
        dose :=
          { s.dose with
            drive := some f
            rate := some (predictedRate (Config.coefficientWithoutRecipe s.freeCount).toNat f) } }
    else
      { s with
        dose := { s.dose with drive := some f, rate := some (predictedRate s.params.coefficient f) } }
  else { s with dose := { s.dose with drive := none, rate := none } }

/-- Whether the sample is credited (R58): a gas part, GAS driven on, GAS_FB open, both channels VALID. -/
def State.credits (s : State) : Bool :=
  s.gasPart.isSome && s.gasOn && s.gasFb && sampleUsable s.sensor.sample

/-- M after a credit, saturating at 50,000,000 µg (R60). -/
def massAfter (mass credit : Nat) : Nat := min Config.massLimit (mass + credit)

/-- The credit of a sample with drive term `f` (R59, R60). -/
def creditSample (f : Nat) (s : State) : State :=
  match s.gasPart with
  | none => s
  | some g =>
    let credit := creditOf s.params.coefficient f g.remainder
    let credited :=
      onGasPart
        (fun g =>
          { g with
            mass := massAfter g.mass credit
            remainder := remainderAfter s.params.coefficient f g.remainder })
        s
    if Config.massLimit ≤ g.mass + credit then addCondition .sat credited else credited

/-- The counting and crediting of a sample of a running pulse (R63). -/
def countSample (s : State) : State :=
  if s.dose.running then
    let counted := { s with dose := { s.dose with elapsed := s.dose.elapsed + 1 } }
    if s.credits then
      creditSample (s.dose.drive.getD 0)
        { counted with dose := { counted.dose with credited := counted.dose.credited + 1 } }
    else counted
  else s

/-- LENGTH_REACHED or TARGET_REACHED after the sample (R64). -/
def State.pulseReports (s : State) : Bool :=
  s.dose.running && (s.dose.elapsed == s.dose.planned || decide (s.params.targetMass ≤ s.mass))

/-- HOLD_WAIT set while the hold table holds an entry (R81). -/
def noteHold (s : State) : State := if s.hold.table.isEmpty then s else addCondition .holdWait s

/-- The Gas Sequencer takes the sample in its stage (R79, R81, R85, R98): in CLAIM every sample notes a hold, one
without a usable channel too. -/
def gasTakesSample (s : State) : State :=
  let usable := sampleUsable s.sensor.sample
  match s.gas.stage with
  | .plan => if usable then decideInPlan s else loseSensor s
  | .claim =>
    let s := noteHold s
    if usable then s else loseSensor s
  | .pulse => if usable then (if s.pulseReports then judgePulse s else s) else loseSensor s
  | .settle => if usable then s else loseSensor s
  | .check => if s.sensor.sample.bell = .valid then s else loseSensor s
  | _ => s

end Sys2Proof.Machine
end

