-- ==== Sys2Proof/Machine/Faults.lean ====
section
/-!
DEFINITION. The operations that move the station: the Hold Unit's assertion, release and stand-down (08),
the change of station state with its effect on every block (R2), the crimp's abandonment (R33), the entry
to FAULTED (R6), the report of a class F cause (R187), the stuck valve (R96, R138) and parking (R20).
-/

namespace Sys2Proof.Machine

/-! ## The Hold Unit's own assertion -/

/-- The own assertion set; each change places a STATUS (R161). -/
def setAsserted (b : Bool) (s : State) : State :=
  placeStatus { s with hold := { s.hold with asserted := b } }

/-- The own entry set to Q (R152 to R154). -/
def setOwnEntry (s : State) : State :=
  { s with hold := { s.hold with table := tableSet s.ownKey s.params.holdTime s.hold.table } }

/-- The own entry removed and the resend timer stopped. -/
def dropOwnEntry (s : State) : State :=
  { s with hold := { s.hold with table := tableErase s.ownKey s.hold.table, resend := none } }

/-- The hold released (R155): a HOLD with q = 0 placed, the own entry removed, the timer stopped,
NOT_ASSERTED, and the Draw Unit told. -/
def releaseHold (s : State) : State :=
  retest (setAsserted false (dropOwnEntry (placeHold 0 s)))

/-- The assertion ended without a release (R158). -/
def standDown (s : State) : State :=
  if s.hold.asserted then setAsserted false (dropOwnEntry s) else s

/-- The assertion test (R152). -/
def State.assertionPasses (s : State) : Bool :=
  !s.hold.asserted && (s.cycle.station == .ready || s.cycle.station == .run)
    && s.sensor.sample.header == .valid && decide (s.sensor.sample.ph < s.params.lowPressure)
    && s.hold.table.isEmpty

/-- The assertion test made; when it passes a HOLD with q = Q is placed, the own entry made, the station
ASSERTED and the Draw Unit told (R152). -/
def testAssertion (s : State) : State :=
  if s.assertionPasses then
    retest (setAsserted true (setOwnEntry (placeHold s.params.holdTime s)))
  else s

/-! ## Changes of station state -/

/-- What the Hold Unit does at a change of station state (R147, R158). -/
def holdAtMove (before after : Station) (s : State) : State :=
  match after with
  | .loading =>
    let cleared := { s with hold := { s.hold with table := [], resend := none } }
    if s.hold.asserted then setAsserted false cleared else cleared
  | .faulted => standDown s
  | .standby => if before = .run && s.hold.asserted then releaseHold s else s
  | _ => s

/-- What the Draw Unit does at a change of station state (R123, R138). -/
def drawAtMove (after : Station) (s : State) : State :=
  match after with
  | .loading => { s with draw := State.reset.draw }
  | .parked => s
  | _ => readStuckEpisode s

/-- What the Cycle Controller's own timers do at a change of station state: the silence timer restarts at
the entry to RUN (R4, R21) and stops in PARKED and FAULTED (R20, R6), and the time of an entry to LOADING is
kept (R8). A return-arc test pending does not outlive RUN (R19). -/
def cycleAtMove (after : Station) (s : State) : State :=
  let c := { s.cycle with zeroTest := none, silenceOver := false }
  match after with
  | .run => { s with cycle := { c with silence := some s.clock } }
  | .parked => { s with cycle := { c with silence := none } }
  | .faulted => { s with cycle := { c with silence := none } }
  | .loading => { s with cycle := { c with loadingSince := s.clock } }
  | _ => { s with cycle := c }

/-- The station moves to another state: every block takes the signal (R2), the scan is at SLOW rate from the entry
to PARKED and returns to FULL at the start of the next sample period after it (R41), and a STATUS is placed
(R8). -/
def moveTo (after : Station) (s : State) : State :=
  let before := s.cycle.station
  let s := { s with cycle := { s.cycle with station := after } }
  let s := cycleAtMove after s
  let s :=
    { s with sensor := { s.sensor with scan := if after = .parked then .slow else s.sensor.scan } }
  placeStatus (holdAtMove before after (drawAtMove after s))

/-! ## Crimp abandonment -/

/-- The crimp abandoned (R33): before DONE the outcome ABANDONED is written unless JAM stands, with the
peak held and the final depth fixed or last read; the sequencer returns to IDLE. -/
def abandonCrimp (s : State) : State :=
  let depth :=
    if s.crimp.state = .form ∨ s.crimp.state = .dwell then s.crimp.lastDepth else s.crimp.finalDepth
  let idle (s : State) : State :=
    { s with crimp := { s.crimp with state := .idle, finalDepth := depth, timer := .stopped } }
  match s.crimp.state with
  | .idle => s
  | .done => idle s
  | _ =>
    idle
      (onCrimpPart
        (fun p =>
          { outcome := if p.outcome = .jam then .jam else .abandoned
            peak := s.crimp.peak, depth := depth })
        s)

/-! ## FAULTED -/

/-- The work of an open context abandoned at the entry to FAULTED, and the context closed with
HEAD_FAULTED (R6). -/
def abandonContext (s : State) : State :=
  if s.context.isSome then closeContext (addReason .headFaulted (abandonGas (abandonCrimp s))) else s

/-- The station moves to FAULTED (R6). -/
def enterFaulted (s : State) : State :=
  let s := abandonContext (moveTo .faulted s)
  endGrant { s with cycle := { s.cycle with phase := .returning, stopPending := false } }

/-- Whether a class F cell moves the station: LOADING and FAULTED stay (R6, R187). -/
def movesToFaulted : Station → Bool
  | .ready => true
  | .run => true
  | .parked => true
  | .standby => true
  | .loading => false
  | .faulted => false

/-- The latching of LINE_DEAD repeats the admission test (R128). -/
def retestIfDead (c : Cell) (s : State) : State := if c = .lineDead then retest s else s

/-- A class F cause reported (R187): a clear cell is latched, a FAULT placed (R188), the station moved,
ALERT_N formed anew and a STATUS placed. A latched cell stays; a repeated VALVE_STUCK places its FAULT
again. -/
def reportF (c : Cell) (s : State) : State :=
  if s.latched c then (if c = .valveStuck then placeFault c s else s)
  else
    let s := placeFault c (retestIfDead c (latch c s))
    let s := if movesToFaulted s.cycle.station then enterFaulted s else s
    placeStatus (formAlert s)

/-! ## The stuck valve -/

/-- The stuck report as the Draw Unit takes it (R138, R146): no entry is made in LOADING, where the STATUS
shows the phase of itself, nor in PARKED. -/
def drawTakesStuck (s : State) : State :=
  match s.draw.self with
  | some _ => stuckSelf s
  | none =>
    match s.cycle.station with
    | .loading => placeStatus s
    | .parked => s
    | _ => stuckSelf s

/-- A valve open with GAS off and no close window (R96): reported once for the episode, to the Draw Unit
and then to the Fault Unit. -/
def findStuckValve (s : State) : State :=
  if s.gas.stuckEpisode then s
  else
    reportF .valveStuck
      (drawTakesStuck { s with gas := { s.gas with stuckEpisode := true } })

/-! ## Parking -/

/-- The park conditions (R20). -/
def State.mayPark (s : State) : Bool :=
  s.cycle.phase == .returning && s.cycle.grant == .none && s.draw.self.isNone
    && slotEmpty s.line.openSlot && slotEmpty s.line.shutSlot && slotEmpty s.line.holdSlot
    && !s.hold.asserted

/-- The park conditions tested while the silence limit stands reached in RUN (R20). -/
def parkTest (s : State) : State :=
  if s.cycle.station = .run ∧ s.cycle.silenceOver ∧ s.mayPark then moveTo .parked s else s

end Sys2Proof.Machine
end

