-- ==== Sys2Proof/Machine/Countdown.lean ====
section
/-!
DEFINITION. The countdowns of the draw table (R126) and of the hold table (R149, R157), and the resend of an own
HOLD (R154).
-/

namespace Sys2Proof.Machine

/-- Whether a sample period's end removed an entry of the draw table (R126). -/
def drawRemoved (before after : DrawUnit) : Bool :=
  decide (after.keyed.length + phantomCount after.phantoms
    < before.keyed.length + phantomCount before.phantoms)

/-- The end of a sample period as the Draw Unit takes it (R126, R128): a removal repeats the admission test. -/
def countDrawTable (s : State) : State :=
  let counted := { s with draw := countDraw s.draw }
  if drawRemoved s.draw counted.draw then retest counted else counted

/-- DRAW_COUNTDOWN (R126): in LOADING no table is kept. -/
def execDrawCountdown (s : State) : Host.Outcome State Fault Refusal :=
  .next (if s.cycle.station = .loading then s else countDrawTable s)

/-- The own entry gone from the hold table while the station is ASSERTED (R157). -/
def ownEntryExpired (s : State) : State :=
  testAssertion
    (retest (setAsserted false { s with hold := { s.hold with resend := none } }))

/-- Whether a quantum's end removed an entry of the hold table (R149). -/
def holdRemoved (before after : HoldUnit) : Bool := decide (after.table.length < before.table.length)

/-- A quantum's end as the Hold Unit takes it (R149, R157): the expiry of any entry repeats the admission test
(R128), and one that leaves the table empty brings the assertion test. -/
def countHoldTable (s : State) : State :=
  let counted := { s with hold := { s.hold with table := tableUpdate countOne s.hold.table } }
  if s.hold.asserted ∧ (tableGet s.ownKey s.hold.table).isSome
      ∧ tableGet s.ownKey counted.hold.table = none then
    ownEntryExpired counted
  else if holdRemoved s.hold counted.hold then
    if counted.hold.table.isEmpty then testAssertion (retest counted) else retest counted
  else counted

/-- HOLD_COUNTDOWN (R149, R157), with the park conditions tested again (R20); in LOADING no table is kept. -/
def execHoldCountdown (s : State) : Host.Outcome State Fault Refusal :=
  .next (if s.cycle.station = .loading then s else parkTest (countHoldTable s))

/-- A HOLD placed again by the resend timer (R154): the own entry set to Q and the timer stopped; the change to
the hold table repeats the admission test (R128). -/
def resendHold (s : State) : State :=
  let s := setOwnEntry (placeHold s.params.holdTime s)
  retest { s with hold := { s.hold with resend := none } }

/-- The resend interval in quanta (R154). -/
def resendInterval (p : Recipe) : Nat := max 1 (p.holdTime / 2)

/-- HOLD_RESEND (R154): a timer that does not run, or has not reached its limit, places nothing. -/
def execHoldResend (s : State) : Host.Outcome State Fault Refusal :=
  .next
    (if s.hold.asserted ∧ hasExpired s.clock s.hold.resend (resendInterval s.params) then resendHold s
    else s)

end Sys2Proof.Machine
end

