-- ==== Sys2Proof/Machine/Crimp.lean ====
section
/-!
DEFINITION. The Crimp Sequencer (02): its start, the crimp samples, its four timers and the verdict at DONE,
with the pocket's advance at the verdict (R15).
-/

namespace Sys2Proof.Machine

/-- The crimp state entered with its timer. -/
def setCrimp (c : CrimpState) (t : CrimpTimer) (s : State) : State :=
  { s with crimp := { s.crimp with state := c, timer := t } }

/-- The sequencer is started (R24): SEAT with CLOSE on, T_seat running. A start outside IDLE drops the old
crimp and writes nothing of it. -/
def startCrimp (s : State) : State :=
  onContext (fun c => { c with crimp := some { outcome := .pending, peak := 0, depth := 0 } })
    { s with
      crimp :=
        { state := .seat, peak := 0, finalDepth := 0, failure := .none, timer := .seat s.clock
          lastDepth := 0 } }

/-- The outcome a failure writes (R29, R35). -/
def failureOutcome : CrimpFailure → CrimpOutcome
  | .none => .pending
  | .noSeat => .noSeat
  | .overforce => .overforce
  | .timeout => .timeout

/-- The condition of a failure, set in the context (R29). -/
def addFailureCondition (f : CrimpFailure) (s : State) : State :=
  match f with
  | .none => s
  | .noSeat => addCondition .crimpNoSeat s
  | .overforce => addCondition .crimpOverforce s
  | .timeout => addCondition .crimpTimeout s

/-- RELEASE entered with the final depth fixed and T_rel started (R28, R29). -/
def enterRelease (s : State) : State :=
  let s := onCrimpPart (fun p => { p with depth := s.crimp.lastDepth }) s
  { s with
    crimp :=
      { s.crimp with
        state := .release, finalDepth := s.crimp.lastDepth, timer := .release s.clock } }

/-- A failure in SEAT or FORM (R29). -/
def failCrimp (f : CrimpFailure) (s : State) : State :=
  let s := { s with crimp := { s.crimp with failure := f } }
  let s := onCrimpPart (fun p => { p with outcome := failureOutcome f }) s
  enterRelease (addReason .crimpBad (addFailureCondition f s))

/-- DWELL entered (R28): with T_dwell 0 its expiry falls at the entry. -/
def enterDwell (s : State) : State :=
  if s.params.dwellTime = 0 then enterRelease s else setCrimp .dwell (.dwell s.clock) s

/-- The force of a sample in FORM or DWELL enters the peak force, and the part holds it (R26, R28, R35); the
depth is the depth last read. -/
def readCrimpSample (force depth : Nat) (s : State) : State :=
  let peak := max s.crimp.peak force
  onCrimpPart (fun p => { p with peak := peak })
    { s with crimp := { s.crimp with peak := peak, lastDepth := depth } }

/-- The window test of R31. -/
def windowGood (p : Recipe) (peak depth : Nat) : Bool :=
  decide (p.minDepth ≤ depth ∧ depth ≤ p.maxDepth ∧ p.minForce ≤ peak ∧ peak ≤ p.maxForce)

/-- The verdict reported to the Cycle Controller (R15): a good crimp goes to GAS or WAIT_WINDOW unless
gas-close was taken; otherwise the pocket is SEALED. -/
def crimpVerdict (good : Bool) (s : State) : State :=
  if s.cycle.phase = .crimp then
    match s.context with
    | some c =>
      if good && !c.gasCloseTaken then
        if c.gasOpenTaken then enterGas s
        else { s with cycle := { s.cycle with phase := .waitWindow } }
      else { s with cycle := { s.cycle with phase := .sealed } }
    | none => { s with cycle := { s.cycle with phase := .sealed } }
  else s

/-- DONE entered and the crimp judged (R31). -/
def enterDone (s : State) : State :=
  let s := setCrimp .done .stopped s
  if s.crimp.failure = .none then
    if windowGood s.params s.crimp.peak s.crimp.finalDepth then
      crimpVerdict true (onCrimpPart (fun p => { p with outcome := .good }) s)
    else
      crimpVerdict false
        (addReason .crimpBad
          (addCondition .crimpWindow (onCrimpPart (fun p => { p with outcome := .window }) s)))
  else
    crimpVerdict false
      (onCrimpPart (fun p => { p with outcome := failureOutcome s.crimp.failure }) s)

/-- A sample in FORM: the force first, then the depth (R26). -/
def sampleInForm (force depth : Nat) (s : State) : State :=
  let s := readCrimpSample force depth s
  if s.params.maxForce ≤ force then failCrimp .overforce s
  else if s.params.targetDepth ≤ depth then enterDwell s
  else s

/-- A sample taken once, in the crimp state current when it completes (R23). -/
def takeCrimpSample (force depth : Nat) (s : State) : State :=
  match s.crimp.state with
  | .idle => s
  | .seat => if s.params.seatForce ≤ force then setCrimp .form (.form s.clock) s else s
  | .form => sampleInForm force depth s
  | .dwell => readCrimpSample force depth s
  | .release => if depth ≤ s.params.openDepth then enterDone s else s
  | .done => s

/-- CRIMP_SAMPLE (R23, R25, R26, R28, R30, R31). -/
def execCrimpSample (force depth : Int) (s : State) : Host.Outcome State Fault Refusal :=
  .next (takeCrimpSample (forceReading force) (depthReading depth) s)

/-- Whether the crimp timer has reached its limit in the state it runs in (R25, R27, R28, R30, R37). -/
def State.crimpExpires (s : State) (c : CrimpState) : Bool :=
  s.crimp.state == c
    && (match c, s.crimp.timer with
        | .seat, .seat since => reached s.clock since s.params.seatTime
        | .form, .form since => reached s.clock since s.params.formTime
        | .dwell, .dwell since => reached s.clock since s.params.dwellTime
        | .release, .release since => reached s.clock since s.params.releaseTime
        | _, _ => false)

/-- T_SEAT_EXPIRY (R25): in SEAT the crimp fails with NO_SEAT; a T_seat that does not run, or has not reached
its limit, does not expire (R37). -/
def execTSeatExpiry (s : State) : Host.Outcome State Fault Refusal :=
  .next (if s.crimpExpires .seat then failCrimp .noSeat s else s)

/-- T_FORM_EXPIRY (R27): in FORM the crimp fails with TIMEOUT; a T_form that does not run, or has not reached
its limit, does not expire (R37). -/
def execTFormExpiry (s : State) : Host.Outcome State Fault Refusal :=
  .next (if s.crimpExpires .form then failCrimp .timeout s else s)

/-- T_DWELL_EXPIRY (R28): in DWELL the final depth is fixed and RELEASE entered; a T_dwell that does not run, or
has not reached its limit, does not expire (R37). -/
def execTDwellExpiry (s : State) : Host.Outcome State Fault Refusal :=
  .next (if s.crimpExpires .dwell then enterRelease s else s)

/-- The jam of the collet (R30): outcome JAM, CRIMP_BAD and the condition of an earlier failure are written
before CRIMP_JAM is reported. -/
def jamCrimp (s : State) : State :=
  let s :=
    onCrimpPart
      (fun _ => { outcome := .jam, peak := s.crimp.peak, depth := s.crimp.finalDepth })
      { s with crimp := { s.crimp with timer := .stopped } }
  reportF .crimpJam (addReason .crimpBad (addFailureCondition s.crimp.failure s))

/-- T_REL_EXPIRY (R30): in RELEASE the collet has jammed; a T_rel that does not run, or has not reached its
limit, does not expire (R37). -/
def execTRelExpiry (s : State) : Host.Outcome State Fault Refusal :=
  .next (if s.crimpExpires .release then jamCrimp s else s)

end Sys2Proof.Machine
end

