-- ==== Sys2Proof/Machine/Cycle.lean ====
section
/-!
DEFINITION. The Cycle Controller (01): reset, the four cam marks, zeroing time, the silence limit and the
STATUS timer of LOADING.
-/

namespace Sys2Proof.Machine

/-! ## Reset -/

/-- RESET (R1 and every block's reset rule): the state after reset with the straps as read (R101, R122). The
queue, the level of GAS_FB and the count of the free value are no state of the part and stay (log 6, 8). A
valve that shows open is reported stuck at once (R77, R96). The command is the moment at which reset ends: for
RESET_N its release, so that ALERT_N is released while it is held low (R186). DESIGN CHOICE, log 40. -/
def execReset (straps : StationNo) (s : State) : Host.Outcome State Fault Refusal :=
  let fresh :=
    { State.reset with
      pending := s.pending
      freeCount := s.freeCount
      gasFb := s.gasFb
      line := { State.reset.line with station := straps } }
  .next (if s.gasFb then findStuckValve fresh else fresh)

/-! ## Opening a can context (R16) -/

/-- A fresh context: no parts, no conditions but ZERO_OVERDUE at a debt of 2 or more, and the reasons
given. -/
def freshContext (s : State) (canPresent : Bool) (reasons : List Reason) : CanContext :=
  { cycle := s.cycle.counter, openedIn := s.cycle.station, canPresent := canPresent
    zeroDebt := s.sensor.zeroDebt, gasOpenTaken := false, gasCloseTaken := false
    crimp := none, gas := none, check := none, reasons := reasons
    conditions := if 2 ≤ s.sensor.zeroDebt then setCondition .zeroOverdue 0 else 0 }

/-- The cycle counter incremented (R18) and a context opened (R16). -/
def openContext (canPresent : Bool) (reasons : List Reason) (s : State) : State :=
  let s := { s with cycle := { s.cycle with counter := s.cycle.counter + 1 } }
  { s with context := some (freshContext s canPresent reasons) }

/-! ## MK_INFEED -/

/-- An interval in whole milliseconds from clock readings (R18). -/
def wholeMs (since now : Nat) : Nat := (now - since) / Config.ticksPerMs

/-- The period measured at a mark (R18). -/
def periodAfter (c : CycleUnit) (now : Nat) : Option Nat :=
  match c.infeedRef with
  | none => c.period
  | some since =>
    if 100 ≤ wholeMs since now ∧ wholeMs since now ≤ 10000 then some (wholeMs since now)
    else c.period

/-- The measured turret period and the INFEED reference updated at a mark (R18). -/
def measurePeriod (s : State) : State :=
  { s with
    cycle := { s.cycle with period := periodAfter s.cycle s.clock, infeedRef := some s.clock } }

/-- A pocket that is not processed (R9): PASS, its context closed at once with its reason. -/
def passPocket (canPresent : Bool) (r : Reason) (s : State) : State :=
  let s := openContext canPresent [r] s
  closeContext { s with cycle := { s.cycle with phase := .pass } }

/-- The pocket decided from the zero debt and CAN_PRESENT, each as read at the mark (R9). -/
def decidePocket (canPresent : Bool) (s : State) : State :=
  let debt := s.sensor.zeroDebt
  if 4 ≤ debt then grantPassPocket (passPocket canPresent .skippedZero s)
  else if canPresent then
    let s := openContext canPresent [] s
    startCrimp { s with cycle := { s.cycle with phase := .crimp } }
  else if 1 ≤ debt then grantPassPocket (passPocket canPresent .noCan s)
  else passPocket canPresent .noCan s

/-- An INFEED in RETURN (R9), the period apart: the silence timer restarts and any grant ends. -/
def startCycle (canPresent : Bool) (s : State) : State :=
  decidePocket canPresent
    (endGrant
      { s with
        cycle := { s.cycle with silence := some s.clock, silenceOver := false, zeroTest := none } })

/-- An INFEED in STANDBY or FAULTED (R11): one record, and nothing of the pocket. -/
def recordStopped (canPresent : Bool) (r : Reason) (s : State) : State :=
  closeContext (openContext canPresent [r] s)

/-- The open context of an out-of-order INFEED closed as if at discharge, with MARK_ERROR (R10). -/
def closeOutOfOrder (s : State) : State :=
  if s.context.isSome then closeContext (addReason .markError (abandonGas (abandonCrimp s))) else s

/-- The move to STANDBY at the closing of the context while a stop is pending (R5). -/
def completeStop (s : State) : State :=
  if s.cycle.stopPending then
    moveTo .standby { s with cycle := { s.cycle with stopPending := false } }
  else s

/-- The second handling of an out-of-order mark, in the station state now current (R10). -/
def handleAgain (canPresent : Bool) (s : State) : State :=
  if s.cycle.station = .standby then recordStopped canPresent .headStopped s
  else startCycle canPresent s

/-- An INFEED in a working phase or PASS (R10): MARK_ORDER reported, the period measured, the context closed,
the phase RETURN and any grant ended, a pending stop completed, and the mark handled once more. -/
def infeedOutOfOrder (canPresent : Bool) (s : State) : State :=
  let s := closeOutOfOrder (measurePeriod (reportA .markOrder s))
  let s := endGrant { s with cycle := { s.cycle with phase := .returning } }
  handleAgain canPresent (completeStop s)

/-- An INFEED in PARKED wakes the head (R21): to RUN, the reference set without a period, then R9. -/
def wake (canPresent : Bool) (s : State) : State :=
  let s := moveTo .run s
  startCycle canPresent { s with cycle := { s.cycle with infeedRef := some s.clock } }

/-- MK_INFEED (R2, R9, R10, R11, R21). -/
def execMkInfeed (canPresent : Bool) (s : State) : Host.Outcome State Fault Refusal :=
  match s.cycle.station with
  | .loading => .next s
  | .ready => .next s
  | .standby => .next (recordStopped canPresent .headStopped s)
  | .faulted => .next (recordStopped canPresent .headFaulted s)
  | .parked => .next (wake canPresent s)
  | .run =>
    if s.cycle.phase = .returning then .next (startCycle canPresent (measurePeriod s))
    else .next (infeedOutOfOrder canPresent s)

/-! ## MK_GASOPEN, MK_GASCLOSE and MK_DISCHARGE -/

/-- MK_GASOPEN taken in RUN (R12). -/
def takeGasOpen (s : State) : State :=
  match s.cycle.phase with
  | .crimp => addCondition .markLate (onContext (fun c => { c with gasOpenTaken := true }) s)
  | .waitWindow => enterGas s
  | _ => s

/-- MK_GASOPEN (R2, R12). -/
def execMkGasopen (s : State) : Host.Outcome State Fault Refusal :=
  .next (if s.cycle.station = .run then takeGasOpen s else s)

/-- The phase set. -/
def setPhase (p : Phase) (s : State) : State := { s with cycle := { s.cycle with phase := p } }

/-- MK_GASCLOSE taken in RUN (R13). -/
def takeGasClose (s : State) : State :=
  match s.cycle.phase with
  | .crimp => addReason .lateCrimp (onContext (fun c => { c with gasCloseTaken := true }) s)
  | .waitWindow => setPhase .sealed (addCondition .windowCut (addReason .notGassed s))
  | .gas => setPhase .sealed (cutWindow s)
  | .check => setPhase .sealed (addCondition .checkCut (cutCheck s))
  | _ => s

/-- MK_GASCLOSE (R2, R13). -/
def execMkGasclose (s : State) : Host.Outcome State Fault Refusal :=
  .next (if s.cycle.station = .run then takeGasClose s else s)

/-- The crimp told to return to IDLE at a discharge; CLOSE goes off (R32). -/
def returnCrimp (s : State) : State :=
  { s with crimp := { s.crimp with state := .idle, timer := .stopped } }

/-- The return-arc zeroing test begun when the zero debt is 1..4 (R14). -/
def beginZeroTest (s : State) : State :=
  if 1 ≤ s.sensor.zeroDebt then { s with cycle := { s.cycle with zeroTest := some s.clock } } else s

/-- The end of the working arc (R14): outputs off and VENT on by the sequencers' return to IDLE, the context
closed, the phase RETURN, then a pending stop completed or the zeroing test begun. -/
def discharge (s : State) : State :=
  let s := setPhase .returning (closeContext (returnGas (returnCrimp s)))
  if s.cycle.stopPending then completeStop s else beginZeroTest s

/-- An early discharge (R14): first as MK_GASCLOSE, a crimp abandoned, then MARK_ERROR, the discharge, and
MARK_ORDER reported. -/
def dischargeEarly (s : State) : State :=
  let crimping := s.cycle.phase = .crimp
  let s := takeGasClose s
  let s := if crimping then abandonCrimp s else s
  reportA .markOrder (discharge (addReason .markError s))

/-- MK_DISCHARGE taken in RUN (R14). -/
def takeDischarge (s : State) : State :=
  match s.cycle.phase with
  | .returning => s
  | .pass => setPhase .returning s
  | .sealed => discharge s
  | _ => dischargeEarly s

/-- MK_DISCHARGE (R2, R14), with the park conditions tested again (R20). -/
def execMkDischarge (s : State) : Host.Outcome State Fault Refusal :=
  .next (if s.cycle.station = .run then parkTest (takeDischarge s) else s)

/-! ## Zeroing time (R19) -/

/-- The return-arc test (R19): RUN, RETURN, VENT on since the discharge, a debt of 1..4, a measured period,
and a remaining arc of at least Tz + 10 ms. -/
def State.zeroTestPasses (s : State) (dischargedAt : Nat) : Bool :=
  s.cycle.station == .run && s.cycle.phase == .returning && s.ventOn
    && decide (s.gas.ventSince ≤ dischargedAt) && decide (1 ≤ s.sensor.zeroDebt)
    && (match s.cycle.period, s.cycle.infeedRef with
        | some period, some infeed =>
          decide
            ((dischargedAt - infeed)
                + (Config.ventTime + s.params.zeroingTime + Config.zeroingMargin) * Config.ticksPerMs
              ≤ period * Config.ticksPerMs)
        | _, _ => false)

/-- The return-arc test made once (R19), after a discharge at `dischargedAt`. -/
def makeZeroTest (dischargedAt : Nat) (s : State) : State :=
  let tested := { s with cycle := { s.cycle with zeroTest := none } }
  if s.zeroTestPasses dischargedAt then startZeroing tested else tested

/-- ZEROING_TEST (R19): made if one is pending, 20 ms after its discharge. -/
def execZeroingTest (s : State) : Host.Outcome State Fault Refusal :=
  match s.cycle.zeroTest with
  | none => .next s
  | some dischargedAt =>
    .next (if reached s.clock dischargedAt Config.ventTime then makeZeroTest dischargedAt s else s)

/-- GRANT_VENT_WAIT_EXPIRY (R19, R49): a waiting grant becomes granted once VENT has been on for 20 ms. -/
def execGrantVentWaitExpiry (s : State) : Host.Outcome State Fault Refusal :=
  .next
    (if s.cycle.grant = .waitingForVent ∧ s.ventOn ∧ reached s.clock s.gas.ventSince Config.ventTime then
      startZeroing s
    else s)

/-! ## Silence and STATUS timers -/

/-- The silence limit in ms (R20). -/
def silenceLimit (c : CycleUnit) : Nat :=
  match c.period with
  | some p => 2 * p
  | none => Config.silenceWithoutPeriod

/-- SILENCE_LIMIT (R20): in RUN with the silence timer at its limit, the limit stands reached and the park
conditions are tested. -/
def execSilenceLimit (s : State) : Host.Outcome State Fault Refusal :=
  .next
    (if s.cycle.station = .run ∧ hasExpired s.clock s.cycle.silence (silenceLimit s.cycle) then
      parkTest { s with cycle := { s.cycle with silenceOver := true } }
    else s)

/-- Whether a whole number of 500 ms has passed since the entry to LOADING (R8). -/
def State.loadingStatusDue (s : State) : Bool :=
  s.cycle.station == .loading && decide (s.cycle.loadingSince < s.clock)
    && (s.clock - s.cycle.loadingSince)
          % (Config.loadingStatusInterval * Config.ticksPerMs) == 0

/-- LOADING_STATUS_TIMER (R8): in LOADING a STATUS is placed every 500 ms after the entry. -/
def execLoadingStatusTimer (s : State) : Host.Outcome State Fault Refusal :=
  .next (if s.loadingStatusDue then placeStatus s else s)

end Sys2Proof.Machine
end

