-- ==== Sys2Proof/Machine/Formats.lean ====
section
/-!
DEFINITION. The formats of 12_formats.md: the frame as bits on the line (R103, R193), its check (R194), the
judgement of a received frame (R114), the claim field and what arbitration makes of it (R102, R106), and the
payloads a head sends (R195). On the line `true` is recessive (1) and `false` dominant (0).
-/

namespace Sys2Proof.Machine

/-! ## Bits -/

/-- The `width` low bits of a number, most significant first (R103). -/
def bitsOf (v : Nat) : Nat → List Bool
  | 0 => []
  | width + 1 => v.testBit width :: bitsOf v width

/-- A number from its bits, most significant first. -/
def numberOf (bits : List Bool) : Nat := bits.foldl (fun n b => 2 * n + b.toNat) 0

/-- Bytes as bits, in their order (R103). -/
def byteBits : List Byte → List Bool
  | [] => []
  | b :: rest => bitsOf b.toNat 8 ++ byteBits rest

/-- `count` bytes taken from bits. -/
def bytesOf (bits : List Bool) : Nat → List Byte
  | 0 => []
  | count + 1 => BitVec.ofNat 8 (numberOf (bits.take 8)) :: bytesOf (bits.drop 8) count

/-! ## The check (R194) -/

/-- One bit taken into the check register: generator x^16 + x^12 + x^5 + 1. -/
def crcBit (register : BitVec 16) (bit : Bool) : BitVec 16 :=
  if register.msb != bit then (register <<< 1) ^^^ 0x1021 else register <<< 1

/-- The check over the bits in the order sent, from 0xFFFF, without a final inversion. -/
def crc (bits : List Bool) : BitVec 16 := bits.foldl crcBit 0xFFFF

/-! ## Frames (12_formats.md, section 12.1) -/

/-- The fields of a frame. -/
structure Frame where
  frameClass : BitVec 2
  sender : StationNo
  kind : BitVec 4
  target : StationNo
  payload : List Byte
  deriving DecidableEq, Repr

/-- The kinds of frame, the code of each in `kindCode`. -/
inductive FrameKind where
  | fault | hold | stop | shut | opening | result | status | load | loadEnd | start | clear | unknown
  deriving DecidableEq, Repr

/-- The kind a code names (section 12.1). -/
def kindOf (code : BitVec 4) : FrameKind :=
  match code.toNat with
  | 1 => .fault
  | 2 => .hold
  | 3 => .stop
  | 4 => .shut
  | 5 => .opening
  | 6 => .result
  | 7 => .status
  | 8 => .load
  | 9 => .loadEnd
  | 10 => .start
  | 11 => .clear
  | _ => .unknown

/-- The code of a kind a head or the line station sends (section 12.1). -/
def kindCode : FrameKind → BitVec 4
  | .fault => 1
  | .hold => 2
  | .stop => 3
  | .shut => 4
  | .opening => 5
  | .result => 6
  | .status => 7
  | .load => 8
  | .loadEnd => 9
  | .start => 10
  | .clear => 11
  | .unknown => 0

/-- The class of a kind; a code that names no kind has none (section 12.1). -/
def classOfKind : FrameKind → Option (BitVec 2)
  | .fault => some 0
  | .hold => some 0
  | .stop => some 0
  | .shut => some 1
  | .opening => some 2
  | .unknown => none
  | _ => some 3

/-- Whether a kind allows a payload of `n` bytes (section 12.1). -/
def lengthAllowed (k : FrameKind) (n : Nat) : Bool :=
  match k with
  | .fault => n == 3
  | .hold => n == 2
  | .stop => n == 0
  | .shut => n == 3
  | .opening => n == 3
  | .result => n == 15
  | .status => n == 15
  | .load => decide (2 ≤ n ∧ n ≤ 15)
  | .loadEnd => n == 2
  | .start => n == 0
  | .clear => n == 2
  | .unknown => true

/-- The claim field: class, then sender (R103). -/
def claimOf (c : BitVec 2) (sender : StationNo) : ClaimField := c ++ sender

/-- The bits the check is formed over: kind, target, length, payload (R103, R194). -/
def checkedBits (f : Frame) : List Bool :=
  bitsOf f.kind.toNat 4 ++ bitsOf f.target.toNat 5 ++ bitsOf f.payload.length 4 ++ byteBits f.payload

/-- A frame as the line carries it: start bit, claim, fields, check and end mark (R103). -/
def frameBits (f : Frame) : List Bool :=
  false :: bitsOf (claimOf f.frameClass f.sender).toNat 7 ++ checkedBits f
    ++ bitsOf (crc (checkedBits f)).toNat 16 ++ [true, true, true, true]

/-- The class, sender and length tests of R114; a code that names no kind is judged on its check and end
mark alone (R193; log 20). -/
def fieldsGood (f : Frame) : Bool :=
  match classOfKind (kindOf f.kind) with
  | none => true
  | some c =>
    f.frameClass == c && f.sender != everyStation && lengthAllowed (kindOf f.kind) f.payload.length

/-- The judgement of a received frame from the bits the line showed, start bit first (R114): the frame
when it is good, none when it is bad. -/
def judgeBits (bits : List Bool) : Option Frame :=
  let length := numberOf ((bits.drop 17).take 4)
  let checked := (bits.drop 8).take (13 + 8 * length)
  let check := (bits.drop (21 + 8 * length)).take 16
  let mark := (bits.drop (37 + 8 * length)).take 4
  let f : Frame :=
    { frameClass := BitVec.ofNat 2 (numberOf ((bits.drop 1).take 2))
      sender := BitVec.ofNat 5 (numberOf ((bits.drop 3).take 5))
      kind := BitVec.ofNat 4 (numberOf ((bits.drop 8).take 4))
      target := BitVec.ofNat 5 (numberOf ((bits.drop 12).take 5))
      payload := bytesOf (bits.drop 21) length }
  if bits.length = 41 + 8 * length ∧ check = bitsOf (crc checked).toNat 16
      ∧ mark = [true, true, true, true] ∧ fieldsGood f then
    some f
  else none

/-- A two-byte field of a payload, high byte first (R193). -/
def halfAt (payload : List Byte) (i : Nat) : Half :=
  (payload.getD i 0 ++ payload.getD (i + 1) 0 : BitVec 16)

/-- The command a good received frame is: the row of the table for its kind. -/
def frameCommand (f : Frame) : Instr :=
  let byte (i : Nat) : Byte := f.payload.getD i 0
  match kindOf f.kind with
  | .fault => .receivedFault f.sender f.target (byte 0) (byte 1) (byte 2)
  | .hold => .receivedHold f.sender f.target (byte 0) (byte 1)
  | .stop => .stop f.sender f.target
  | .shut => .receivedShut f.sender f.target (byte 0) (halfAt f.payload 1)
  | .opening => .receivedOpen f.sender f.target (byte 0) (halfAt f.payload 1)
  | .result => .receivedResult f.sender f.target f.payload
  | .status => .receivedStatus f.sender f.target f.payload
  | .load => .load f.sender f.target (byte 0) (f.payload.drop 1)
  | .loadEnd => .loadEnd f.sender f.target (halfAt f.payload 0)
  | .start => .start f.sender f.target
  | .clear => .clear f.sender f.target (halfAt f.payload 0)
  | .unknown => .unknownKindFrame f.sender f.target f.kind f.payload

/-- The command the judgement of the line's bits is: a received frame, or BAD_FRAME. -/
def receptionCommand (bits : List Bool) : Instr :=
  match judgeBits bits with
  | some f => frameCommand f
  | none => .badFrame

/-! ## Arbitration (R102, R106) -/

/-- What a transmitter makes of one bit it sends and reads back. -/
inductive BitVerdict where
  | good | arbitrationLoss | bitError
  deriving DecidableEq, Repr

/-- R102: a recessive bit read back as dominant within the claim field, positions 2 to 8, is an arbitration
loss; every other mismatch is a bit error. -/
def judgeBit (position : Nat) (sent read : Bool) : BitVerdict :=
  if sent = read then .good
  else if sent ∧ 2 ≤ position ∧ position ≤ 8 then .arbitrationLoss
  else .bitError

/-- The position at which a transmitter with claim bits `own` loses to claim bits `other` on the wired-AND
line: the first at which it sends recessive and the other dominant, if no earlier bit has taken the other
out (R106). -/
def lossAt : Nat → List Bool → List Bool → Option Nat
  | position, a :: own, b :: other =>
    if a = b then lossAt (position + 1) own other else if a then some position else none
  | _, _, _ => none

/-- Whether the station with claim `own` loses the arbitration to claim `other`. -/
def losesTo (own other : ClaimField) : Bool :=
  (lossAt 2 (bitsOf own.toNat 7) (bitsOf other.toNat 7)).isSome

/-! ## Payloads sent (R195) -/

/-- One byte of a payload. -/
def byteOf (n : Nat) : Byte := BitVec.ofNat 8 n

/-- Codes of section 12.2. -/
def stationCode : Station → Nat
  | .loading => 0
  | .ready => 1
  | .run => 2
  | .parked => 3
  | .standby => 4
  | .faulted => 5

/-- Codes of section 12.2. -/
def phaseCode : Phase → Nat
  | .returning => 0
  | .crimp => 1
  | .waitWindow => 2
  | .gas => 3
  | .check => 4
  | .sealed => 5
  | .pass => 6

/-- Codes of section 12.2. -/
def validityCode : Validity → Nat
  | .notYet => 0
  | .valid => 1
  | .stale => 2

/-- Codes of section 12.2. -/
def claimCode : Claim → Nat
  | .none => 0
  | .waiting => 1
  | .placed => 2
  | .cancelled => 3

/-- Codes of section 12.2. -/
def loadResultCode : LoadResult → Nat
  | .none => 0
  | .accepted => 1
  | .refused => 2

/-- Codes of section 12.2. -/
def refusalCode : RefusalCause → Nat
  | .none => 0
  | .length => 1
  | .check => 2
  | .version => 3
  | .offset => 4
  | .body => 5
  | .repeated => 6
  | .short => 7
  | .missing => 8

/-- Codes of section 12.2. -/
def startRefusalCode : StartRefusal → Nat
  | .none => 0
  | .cellsLatched => 1

/-- The own valve phase and the remaining of a closing SELF (R146): in LOADING, where no table is kept,
STUCK while the stuck episode lasts. -/
def State.valvePhase (s : State) : Nat × Nat :=
  if s.cycle.station = .loading then (if s.gas.stuckEpisode then (3, 0) else (0, 0))
  else
    match s.draw.self with
    | none => (0, 0)
    | some .driven => (1, 0)
    | some (.closing n) => (2, n)
    | some .stuck => (3, 0)

/-- Whether a keyed entry is a PEER. -/
def isPeer : KeyedEntry → Bool
  | .peer _ => true
  | .stuck => false

/-- The PEER entries held. -/
def State.peerCount (s : State) : Nat := s.draw.keyed.countP (fun e => isPeer e.2)

/-- The STUCK entries held. -/
def State.stuckCount (s : State) : Nat := s.draw.keyed.countP (fun e => !isPeer e.2)

/-- The enables of cells 6..9 in bits 13..10 of the status field, cell 6 in bit 13 (section 12.4; log 18). -/
def enableField (enables : BitVec 4) : Nat :=
  (if enables.getLsbD 0 then 8 else 0) + (if enables.getLsbD 1 then 4 else 0)
    + (if enables.getLsbD 2 then 2 else 0) + (if enables.getLsbD 3 then 1 else 0)

/-- The STATUS payload formed from the state of the moment (section 12.4, R195). -/
def statusPayload (s : State) : List Byte :=
  let valve := s.valvePhase
  [byteOf
      (stationCode s.cycle.station * 32 + phaseCode s.cycle.phase * 4 + s.cycle.stopPending.toNat * 2
        + startRefusalCode s.cycle.startRefusal),
    byteOf
      (validityCode s.sensor.header.validity * 64 + validityCode s.sensor.bell.validity * 16
        + s.sensor.zeroDebt * 2 + s.hold.asserted.toNat),
    byteOf (s.peerCount * 8 + phantomCount s.draw.phantoms),
    byteOf (s.stuckCount * 8 + claimCode s.draw.claim * 2 + s.fault.alert.toNat),
    byteOf (valve.1 * 64 + valve.2 * 4 + loadResultCode s.recipe.loadResult),
    byteOf
      (s.hold.table.length * 8 + s.recipe.clampFlag.toNat * 4 + s.recipe.unknownFlag.toNat * 2
        + s.sensor.zeroOffset / 256),
    byteOf s.sensor.zeroOffset,
    byteOf (refusalCode s.recipe.refusal * 16 + s.result.queue.length),
    byteOf
      ((s.recipe.loadedLength / 256) * 128 + enableField s.fault.enables * 4
        + s.fault.latched.toNat / 256),
    byteOf s.fault.latched.toNat,
    byteOf s.recipe.loadedLength,
    byteOf (s.recipe.checkResult.toNat / 256),
    byteOf s.recipe.checkResult.toNat,
    byteOf s.result.dropCount,
    byteOf s.result.sequence.toNat]

/-- The RESULT payload of a record with the dropped figure of the attempt (section 12.3, R169, R195). -/
def resultPayload (r : Record) (dropped : Nat) : List Byte :=
  [byteOf r.sequence.toNat, byteOf (r.cycle.toNat / 256), byteOf r.cycle.toNat,
    byteOf (reasonCode r.reason), byteOf (r.conditions.toNat / 256), byteOf r.conditions.toNat,
    byteOf (r.depth / 256), byteOf r.depth, byteOf (r.peak / 256), byteOf r.peak,
    byteOf (r.mass / 65536), byteOf (r.mass / 256), byteOf r.mass,
    byteOf (r.pulses * 8 + r.strikesUsed), byteOf dropped]

/-- The frame a slot holds, PENDING or on the line. -/
def slotFrame {α : Type} (t : Slot α) : Option α :=
  match t.body with
  | .empty => none
  | .pending f => some f
  | .onLine f => some f

/-- The payload of the frame in a slot, formed at the start of an attempt (R105). -/
def slotPayload (k : SlotKind) (s : State) : List Byte :=
  match k with
  | .faultSlot =>
    match slotFrame s.line.faultSlot with
    | some f => [byteOf (cellNumber f.cell), f.zone, byteOf f.valveOpen.toNat]
    | none => []
  | .holdSlot =>
    match slotFrame s.line.holdSlot with
    | some f => [f.zone, byteOf f.q]
    | none => []
  | .shutSlot =>
    match slotFrame s.line.shutSlot with
    | some f => [f.zone, byteOf (f.samples / 256), byteOf f.samples]
    | none => []
  | .openSlot =>
    match slotFrame s.line.openSlot with
    | some f =>
      [f.zone, byteOf (s.dose.attemptLength.getD 0 / 256), byteOf (s.dose.attemptLength.getD 0)]
    | none => []
  | .statusSlot => statusPayload s
  | .resultSlot =>
    match s.result.queue with
    | r :: _ => resultPayload r s.result.dropCount
    | [] => []

/-- The kind of the frames of a slot (06, section 6.4). -/
def slotFrameKind : SlotKind → FrameKind
  | .faultSlot => .fault
  | .holdSlot => .hold
  | .shutSlot => .shut
  | .openSlot => .opening
  | .statusSlot => .status
  | .resultSlot => .result

/-- The frame of the attempt on the line, with the own number as sender and target 31 (06, section 6.4). -/
def attemptFrame (s : State) (a : Attempt) : Frame :=
  { frameClass := (classOfKind (slotFrameKind a.slot)).getD 0
    sender := s.line.station
    kind := kindCode (slotFrameKind a.slot)
    target := everyStation
    payload := a.payload }

end Sys2Proof.Machine
end

