-- ==== Sys2Proof/Machine/Line.lean ====
section
/-!
DEFINITION. The Line Interface's commands as a transmitter (06): the choice of a frame at a line idle (R105,
R112, R131), arbitration loss (R106), bit error and the end of its abort mark (R107, R109), completion (R108)
and the stuck line (R110), with what each slot's owner does (R132, R133, R135, R153, R169, R170).
-/

namespace Sys2Proof.Machine

/-! ## The slots by kind -/

/-- Whether the slot of a kind holds a PENDING frame. -/
def State.slotWaits (s : State) : SlotKind → Bool
  | .faultSlot => slotPending s.line.faultSlot
  | .holdSlot => slotPending s.line.holdSlot
  | .shutSlot => slotPending s.line.shutSlot
  | .openSlot => slotPending s.line.openSlot
  | .statusSlot => slotPending s.line.statusSlot
  | .resultSlot => slotPending s.line.resultSlot

/-- The failure count of a slot. -/
def State.slotFailures (s : State) : SlotKind → Nat
  | .faultSlot => s.line.faultSlot.failures
  | .holdSlot => s.line.holdSlot.failures
  | .shutSlot => s.line.shutSlot.failures
  | .openSlot => s.line.openSlot.failures
  | .statusSlot => s.line.statusSlot.failures
  | .resultSlot => s.line.resultSlot.failures

/-- The slot of a kind changed: the FAULT slot by `f`, the others by `g`. -/
def onSlot (k : SlotKind) (f : Slot FaultFrame → Slot FaultFrame)
    (g : {α : Type} → Slot α → Slot α) (s : State) : State :=
  match k with
  | .faultSlot => { s with line := { s.line with faultSlot := f s.line.faultSlot } }
  | .holdSlot => { s with line := { s.line with holdSlot := g s.line.holdSlot } }
  | .shutSlot => { s with line := { s.line with shutSlot := g s.line.shutSlot } }
  | .openSlot => { s with line := { s.line with openSlot := g s.line.openSlot } }
  | .statusSlot => { s with line := { s.line with statusSlot := g s.line.statusSlot } }
  | .resultSlot => { s with line := { s.line with resultSlot := g s.line.resultSlot } }

/-- The failure count of a slot raised by 1 (R107). -/
def slotFail {α : Type} (t : Slot α) : Slot α := { t with failures := t.failures + 1 }

/-- A slot emptied: frame and next frame dropped, failure count 0 (R109, R113). -/
def slotDrop {α : Type} (_ : Slot α) : Slot α := Slot.vacant

/-! ## LINE_IDLE -/

/-- R112's offer order. -/
def offerOrder : List SlotKind :=
  [.faultSlot, .holdSlot, .shutSlot, .openSlot, .statusSlot, .resultSlot]

/-- An attempt begun (R105): the slot on the line, its payload formed, the dropped figure of a RESULT kept
(R169), and the line BUSY with the recessive run at 0 (R104). Its start bit is sent in the bit time that begins at
the clock's reading. -/
def beginAttempt (k : SlotKind) (s : State) : State :=
  let payload := slotPayload k s
  let s := onSlot k slotStart slotStart s
  { s with
    line :=
      { s.line with
        attempt := some { slot := k, payload := payload, since := s.clock }, condition := .busy
        recessiveRun := 0 }
    result :=
      { s.result with carried := if k = .resultSlot then s.result.dropCount else s.result.carried } }

/-- The Gas Sequencer's return from CLAIM to PLAN when the plan of an attempt answers without a length (R73,
R131, R134). -/
def returnToPlan (s : State) : State := cancelClaim (setStage .plan s)

/-- Whether the pending OPEN may go now (R131): the admission test, then the plan for the attempt length. The
state it leaves has the length, or the OPEN withdrawn. -/
def offerOpen (s : State) : Bool × State :=
  if s.admits then
    match s.planAnswer with
    | .pulse n => (true, { s with dose := { s.dose with attemptLength := some n } })
    | a => (false, returnToPlan (noteNoDrive a s))
  else (false, retest s)

/-- The slots taken in the offer order; the first frame that may go is the frame of the attempt (R105). -/
def offerSlots : List SlotKind → State → State
  | [], s => s
  | k :: rest, s =>
    if s.slotWaits k then
      if k = .openSlot then
        match offerOpen s with
        | (true, s') => beginAttempt k s'
        | (false, s') => offerSlots rest s'
      else beginAttempt k s
    else offerSlots rest s

/-- Whether the recessive run stands at 11 with no frame in progress (R104). -/
def State.lineQuiet (s : State) : Bool :=
  s.line.condition != .stuck && s.line.attempt.isNone && s.line.receiving.isNone
    && decide (Config.idleRun ≤ s.line.recessiveRun)

/-- LINE_IDLE (R104, R105, R112, R122): with the recessive run at 11 and no frame in progress the line is IDLE and,
when the straps gave a number, the pending frames are offered. Before that there is no line idle (log 3). -/
def execLineIdle (s : State) : Host.Outcome State Fault Refusal :=
  if s.lineQuiet then
    let idle := { s with line := { s.line with condition := .idle } }
    .next (if s.strapsValid then offerSlots offerOrder idle else idle)
  else .next s

/-! ## The position in an attempt (R103) -/

/-- The position of the last end mark bit of an attempt's frame (R103). -/
def Attempt.lastPosition (a : Attempt) : Nat := 41 + 8 * a.payload.length

/-- The position of the last bit of an attempt that has been sent and read back by the clock's reading; 0 before the
start bit's (R102, R103). -/
def State.position (s : State) (a : Attempt) : Nat := s.clock - a.since

/-! ## ARBITRATION_LOSS -/

/-- The claim state after an own OPEN whose claim was CANCELLED has left the line: NONE, and a held request is
taken (R129, R135). -/
def endCancelled (s : State) : State := takeHeldRequest (setClaim .none s)

/-- An OPEN back in its slot after a loss or a failure, its attempt length dropped; one whose claim was
CANCELLED is not offered again (R106, R113, R132, R135). -/
def openReturns (s : State) : State :=
  if s.draw.claim = .cancelled then endCancelled (withdrawOpen s)
  else
    { s with
      line := { s.line with openSlot := slotReturn s.line.openSlot }
      dose := { s.dose with attemptLength := none } }

/-- The slot of an attempt that did not complete goes back to PENDING (R106, R107, R111). -/
def slotReturns (k : SlotKind) (s : State) : State :=
  if k = .openSlot then openReturns s else onSlot k faultReturn slotReturn s

/-- The bits of the start bit and the claim field as the loser of an arbitration reads them (R106). -/
def claimRead (claim : ClaimField) : List Bool := false :: bitsOf claim.toNat 7

/-- ARBITRATION_LOSS (R106): in the claim field, positions 2 to 8, the slot is PENDING again with its failure count
unchanged, and the station receives the frame on the line from the bits it has read so far. Without an own attempt
in its claim field there is nothing to lose (log 3). -/
def execArbitrationLoss (claim : ClaimField) (s : State) : Host.Outcome State Fault Refusal :=
  match s.line.attempt, s.line.abort with
  | some a, .none =>
    if 2 ≤ s.position a ∧ s.position a ≤ 8 then
      let lost :=
        { s with
          line :=
            { s.line with
              attempt := none, receiving := some ((claimRead claim).take (s.position a)) } }
      .next (parkTest (slotReturns a.slot lost))
    else .next s
  | _, _ => .next s

/-! ## BIT_ERROR and ABORT_MARK_END -/

/-- LINE_WAIT at a bit error of an own OPEN, when the context has a gas part (R121). -/
def noteLineWait (k : SlotKind) (s : State) : State :=
  if k = .openSlot ∧ s.gasPart.isSome then addCondition .lineWait s else s

/-- BIT_ERROR (R107, R121): the abort mark is sent and the failure count raised, or the failure is the fourth
(R109; log 16). Without an own attempt that has sent a bit of its frame there is none to read back (log 3). -/
def execBitError (s : State) : Host.Outcome State Fault Refusal :=
  match s.line.attempt, s.line.abort with
  | some a, .none =>
    if 1 ≤ s.position a ∧ s.position a ≤ a.lastPosition then
      let noted := noteLineWait a.slot s
      let noted := { noted with dose := { noted.dose with attemptLength := none } }
      if s.slotFailures a.slot < 3 then
        let failed := onSlot a.slot slotFail slotFail noted
        .next (parkTest { failed with line := { failed.line with abort := .short } })
      else .next (parkTest { noted with line := { noted.line with abort := .fourth } })
    else .next s
  | _, _ => .next s

/-- The head record leaves the queue (R169, R170). -/
def dropHead (s : State) : State :=
  syncResult { s with result := { s.result with queue := s.result.queue.drop 1 } }

/-- What a slot's owner does when its frame was not sent after four failures (R109): a RESULT's record is
dropped and counted (R170), an OPEN's claim waits or ends (R132, R135); the Hold, Fault and Draw Units place
nothing (R159). -/
def ownerNotSent (k : SlotKind) (s : State) : State :=
  match k with
  | .resultSlot =>
    dropHead
      { s with result := { s.result with dropCount := oneMoreDropped s.result.dropCount } }
  | .openSlot =>
    if s.draw.claim = .cancelled then endCancelled s
    else if s.draw.claim = .placed then
      setClaim (if s.gas.stage = .claim then .waiting else .none) s
    else s
  | _ => s

/-- The fourth failure (R109): the slot emptied, its owner told, LINE_DEAD reported. That the owner is told before
the report is DESIGN CHOICE, log 39. -/
def fourthFailure (k : SlotKind) (s : State) : State :=
  reportF .lineDead (ownerNotSent k (onSlot k slotDrop slotDrop s))

/-- The line released at the end of an abort mark: no frame is in progress and the run begins again (R104, R107). -/
def releaseLine (s : State) : State :=
  { s with line := { s.line with attempt := none, abort := .none, recessiveRun := 0, condition := .busy } }

/-- ABORT_MARK_END (R107, R104): at position 165 the line is released and the run begins again; the slot goes back to
PENDING, or is emptied at the fourth failure. Without an abort mark, or before that position, there is none to end
(log 3). -/
def execAbortMarkEnd (s : State) : Host.Outcome State Fault Refusal :=
  match s.line.attempt with
  | none => .next s
  | some a =>
    if Config.abortPosition ≤ s.position a then
      match s.line.abort with
      | .none => .next s
      | .short => .next (parkTest (slotReturns a.slot (releaseLine s)))
      | .fourth => .next (parkTest (fourthFailure a.slot (releaseLine s)))
    else .next s

/-! ## FRAME_COMPLETION -/

/-- The completion of an own HOLD (R153): with q above 0 and the station ASSERTED the own entry is set to Q and
the resend timer started. -/
def holdCompleted (q : Nat) (s : State) : State :=
  if 0 < q ∧ s.hold.asserted then
    let s := setOwnEntry s
    { s with hold := { s.hold with resend := some s.clock } }
  else s

/-- The completion of an own OPEN (R82, R94, R108, R133, R135): with the claim PLACED and the stage CLAIM the
pulse starts; otherwise a SHUT of 0 samples is queued. -/
def openCompleted (s : State) : State :=
  if s.draw.claim = .placed ∧ s.gas.stage = .claim then startPulse s
  else
    endCancelled (placeShut 0 { s with dose := { s.dose with attemptLength := none } })

/-- The completion of a RESULT (R169): the drop count reduced by the figure carried, the head record gone. -/
def resultCompleted (s : State) : State :=
  dropHead
    { s with
      result := { s.result with dropCount := s.result.dropCount - s.result.carried, carried := 0 } }

/-- What the slot's owner does at the completion (R108). `before` is the state in which the frame was still in
its slot. -/
def ownerCompleted (k : SlotKind) (before s : State) : State :=
  match k with
  | .holdSlot => holdCompleted ((slotFrame before.line.holdSlot).map (·.q) |>.getD 0) s
  | .openSlot => openCompleted s
  | .resultSlot => resultCompleted s
  | _ => s

/-- FRAME_COMPLETION (R108, R104): once the last end mark bit has been sent and read back the slot empties or takes
its next frame, the run restarts, and the owner acts. Without an own attempt, or before that bit, nothing completes
(log 3). -/
def execFrameCompletion (s : State) : Host.Outcome State Fault Refusal :=
  match s.line.attempt, s.line.abort with
  | some a, .none =>
    if a.lastPosition ≤ s.position a then
      let sent := onSlot a.slot slotComplete slotComplete s
      let sent :=
        { sent with
          line :=
            { sent.line with attempt := none, recessiveRun := 0, dominantRun := 0, condition := .busy } }
      .next (parkTest (ownerCompleted a.slot s sent))
    else .next s
  | _, _ => .next s

/-! ## The stuck line and the start bit -/

/-- LINE_STUCK (R110): the dominant run, which stands at its 200, has been exceeded and the stuck time starts. A
line that is STUCK already, or a shorter run, has none to exceed (log 3). -/
def execLineStuck (s : State) : Host.Outcome State Fault Refusal :=
  if s.line.condition ≠ .stuck ∧ Config.stuckRun ≤ s.line.dominantRun then
    .next
      { s with
        line :=
          { s.line with
            condition := .stuck, recessiveRun := 0, stuckSince := some s.clock
            stuckReported := false } }
  else .next s

/-- STUCK_TIMEOUT (R110): at 50 ms of stuck time LINE_DEAD is reported, once for the episode. -/
def execStuckTimeout (s : State) : Host.Outcome State Fault Refusal :=
  if s.line.condition = .stuck ∧ s.line.stuckReported = false
      ∧ hasExpired s.clock s.line.stuckSince Config.stuckLimit then
    .next (reportF .lineDead { s with line := { s.line with stuckReported := true } })
  else .next s

/-- STUCK_END (R110): the first recessive bit ends STUCK; the stuck time returns to 0 and the line is BUSY. -/
def execStuckEnd (s : State) : Host.Outcome State Fault Refusal :=
  if s.line.condition = .stuck then
    .next
      { s with
        line :=
          { s.line with
            condition := .busy, dominantRun := 0, recessiveRun := 1
            stuckSince := none, stuckReported := false } }
  else .next s

/-- START_BIT (R104, R114): while IDLE a dominant bit starts another station's frame and the station receives
it; while BUSY with no frame in progress the dominant bit only sets the recessive run to 0. The bit is the one the
last tick has counted into the dominant run, which is 1 or more after it (R110; log 30). -/
def execStartBit (s : State) : Host.Outcome State Fault Refusal :=
  match s.line.condition with
  | .idle =>
    .next
      { s with
        line :=
          { s.line with
            condition := .busy, recessiveRun := 0, dominantRun := 1, receiving := some [false] } }
  | .busy =>
    .next
      { s with
        line := { s.line with recessiveRun := 0, dominantRun := max 1 s.line.dominantRun } }
  | .stuck => .next s

end Sys2Proof.Machine
end

