-- ==== Sys2Proof/Machine/RecipeStore.lean ====
section
/-!
DEFINITION. The Recipe Store (10): writing the image (R175, R176), the tests of LOAD_END (R178 to R180), the
values taken, their defaults and their clamps (R181, R182, R196), acceptance and refusal (R178).
-/

namespace Sys2Proof.Machine

/-! ## The check (R179) -/

/-- One addition of 16-bit ones'-complement arithmetic (R179). -/
def onesAdd (a b : Nat) : Nat := if 0xFFFF < a + b then a + b - 0x10000 + 1 else a + b

/-- The word at an even position: a position at or past the length gives the 0 that pads an odd image. -/
def checkWord (image : List Host.Cell) (length position : Nat) : Nat :=
  (readByte image position).toNat * 256
    + (if position + 1 < length then (readByte image (position + 1)).toNat else 0)

/-- The sum of `count` words from `position`, added to `sum`. -/
def checkFrom (image : List Host.Cell) (length : Nat) : Nat → Nat → Nat → Nat
  | 0, _, sum => sum
  | count + 1, position, sum =>
    checkFrom image length count (position + 2) (onesAdd sum (checkWord image length position))

/-- The check result of the image's first `length` bytes (R179). -/
def checkSum (image : List Host.Cell) (length : Nat) : Nat :=
  checkFrom image length ((length + 1) / 2) 0 0

/-! ## The chain walk (R180) -/

/-- The five known kinds of section (R180). -/
inductive SectionKind where
  | gas | crimp | zone | check | zero
  deriving DecidableEq, Repr

/-- The kind a kind byte names; 0 and 6..255 are unknown (R180). -/
def sectionKind (byte : Nat) : Option SectionKind :=
  match byte with
  | 1 => some .gas
  | 2 => some .crimp
  | 3 => some .zone
  | 4 => some .check
  | 5 => some .zero
  | _ => none

/-- The body length a kind needs (R180). -/
def bodyNeeded : SectionKind → Nat
  | .gas => 17
  | .crimp => 21
  | .zone => 8
  | .check => 6
  | .zero => 2

/-- What a walk has found: the position of each known section's body, and whether an unknown one was met. -/
structure Sections where
  gas : Option Nat
  crimp : Option Nat
  zone : Option Nat
  check : Option Nat
  zero : Option Nat
  unknown : Bool
  deriving DecidableEq, Repr

/-- A walk that has found nothing yet. -/
def noSections : Sections :=
  { gas := none, crimp := none, zone := none, check := none, zero := none, unknown := false }

/-- The body of a kind already found. -/
def sectionFound (k : SectionKind) (w : Sections) : Option Nat :=
  match k with
  | .gas => w.gas
  | .crimp => w.crimp
  | .zone => w.zone
  | .check => w.check
  | .zero => w.zero

/-- A known section noted with the position of its body. -/
def noteSection (k : SectionKind) (body : Nat) (w : Sections) : Sections :=
  match k with
  | .gas => { w with gas := some body }
  | .crimp => { w with crimp := some body }
  | .zone => { w with zone := some body }
  | .check => { w with check := some body }
  | .zero => { w with zero := some body }

/-- The walk from a link, with the lowest position it may take and the end of the section area (R180): tests 4
to 7 on each section in turn. The fuel bounds the links tested: the area holds at most 84 sections of three
bytes, so the 85th link is 0 or fails, and the fuel of `judgeImage` never runs out. -/
def walkChain (image : List Host.Cell) (area : Nat) :
    Nat → Nat → Nat → Sections → Except RefusalCause Sections
  | 0, _, _, w => .ok w
  | fuel + 1, link, lowest, w =>
    if link = 0 then .ok w
    else if link < lowest ∨ area < link + 3 then .error .offset
    else
      let kind := (readByte image link).toNat
      let body := (readByte image (link + 1)).toNat
      let next := (readByte image (link + 2)).toNat
      if area < link + 3 + body then .error .body
      else
        match sectionKind kind with
        | none => walkChain image area fuel next (link + 3 + body) { w with unknown := true }
        | some k =>
          if (sectionFound k w).isSome then .error .repeated
          else if body < bodyNeeded k then .error .short
          else walkChain image area fuel next (link + 3 + body) (noteSection k (link + 3) w)

/-! ## Values, defaults and clamping (R181, R182, 12_formats.md section 12.5) -/

/-- The fields of the known sections as the image holds them, the defaults of an absent CHECK or ZERO in
their place (R181, R196). -/
def rawRecipe (image : List Host.Cell) (gas crimp zone : Nat) (check zero : Option Nat) : Recipe :=
  let field (body offset width : Nat) : Nat := readField image (body + offset) width
  let fromCheck (default offset width : Nat) : Nat :=
    match check with
    | some body => field body offset width
    | none => default
  let fromZero (default offset width : Nat) : Nat :=
    match zero with
    | some body => field body offset width
    | none => default
  { targetMass := field gas 0 4
    tolerance := field gas 4 4
    coefficient := field gas 8 2
    shortest := field gas 10 1
    longest := field gas 11 2
    maxPulses := field gas 13 1
    strikes := field gas 14 1
    leastRise := field gas 15 1
    settleTime := field gas 16 1
    seatForce := field crimp 0 2
    maxForce := field crimp 2 2
    targetDepth := field crimp 4 2
    minDepth := field crimp 6 2
    maxDepth := field crimp 8 2
    minForce := field crimp 10 2
    openDepth := field crimp 12 2
    seatTime := field crimp 14 2
    formTime := field crimp 16 2
    dwellTime := field crimp 18 1
    releaseTime := field crimp 19 2
    zone := field zone 0 1
    openLimit := field zone 1 1
    guardTime := field zone 2 1
    lowPressure := field zone 3 2
    highPressure := field zone 5 2
    holdTime := field zone 7 1
    checkInterval := fromCheck 0 0 2
    leakFall := fromCheck 1 2 2
    rejectLimit := fromCheck 0 4 1
    alertEnables := BitVec.ofNat 4 (fromCheck 15 5 1)
    closingsPerStep := fromZero 16 0 1
    zeroingTime := fromZero 40 1 1 }

/-- Every field clamped to its range, each after the field that bounds it (R182). -/
def clampRecipe (p : Recipe) : Recipe :=
  let shortest := clampTo 2 100 p.shortest
  let maxForce := clampTo 500 20000 p.maxForce
  let targetDepth := clampTo 500 8000 p.targetDepth
  let highPressure := clampTo 210 4000 p.highPressure
  { targetMass := clampTo 100000 20000000 p.targetMass
    tolerance := clampTo 1000 1000000 p.tolerance
    coefficient := clampTo 1 65535 p.coefficient
    shortest := shortest
    longest := clampTo shortest 400 p.longest
    maxPulses := clampTo 1 16 p.maxPulses
    strikes := clampTo 1 7 p.strikes
    leastRise := clampTo 1 200 p.leastRise
    settleTime := clampTo 0 250 p.settleTime
    seatForce := clampTo 50 5000 p.seatForce
    maxForce := maxForce
    targetDepth := targetDepth
    minDepth := clampTo 0 targetDepth p.minDepth
    maxDepth := clampTo targetDepth 8000 p.maxDepth
    minForce := clampTo 0 maxForce p.minForce
    openDepth := clampTo 0 4000 p.openDepth
    seatTime := clampTo 5 500 p.seatTime
    formTime := clampTo 5 500 p.formTime
    dwellTime := clampTo 0 200 p.dwellTime
    releaseTime := clampTo 5 500 p.releaseTime
    zone := clampTo 0 3 p.zone
    openLimit := clampTo 1 15 p.openLimit
    guardTime := clampTo 0 100 p.guardTime
    lowPressure := clampTo 200 (highPressure - 10) p.lowPressure
    highPressure := highPressure
    holdTime := clampTo 1 255 p.holdTime
    checkInterval := clampTo 0 500 p.checkInterval
    leakFall := clampTo 1 1000 p.leakFall
    rejectLimit := clampTo 0 15 p.rejectLimit
    alertEnables := p.alertEnables
    closingsPerStep := clampTo 1 64 p.closingsPerStep
    zeroingTime := clampTo 20 200 p.zeroingTime }

/-! ## The judgement of LOAD_END (R178) -/

/-- What the eight tests make of the image (R178): the raw recipe with the unknown flag, or the cause of the
first test that fails. -/
def judgeImage (image : List Host.Cell) (length : Nat) : Except RefusalCause (Recipe × Bool) :=
  if length < 8 ∨ 256 < length then .error .length
  else if checkSum image length ≠ 0xFFFF then .error .check
  else if readByte image 0 ≠ 1 then .error .version
  else
    match walkChain image (length - 2) 85 (readByte image 1).toNat 2 noSections with
    | .error cause => .error cause
    | .ok w =>
      match w.gas, w.crimp, w.zone with
      | some gas, some crimp, some zone =>
        .ok (rawRecipe image gas crimp zone w.check w.zero, w.unknown)
      | _, _, _ => .error .missing

/-- The check result after a LOAD_END of the length: the sum when the check was formed, the result kept when
the length refused the image before it (R178, R179; log 19). -/
def checkResultAfter (u : RecipeUnit) (length : Nat) : BitVec 16 :=
  if length < 8 ∨ 256 < length then u.checkResult
  else BitVec.ofNat 16 (checkSum u.image length)

/-- The class A enables set anew, ALERT_N formed, and a STATUS placed when that changed it (R186, R189,
R190). -/
def setEnables (e : BitVec 4) (s : State) : State :=
  let before := s.fault.alert
  let s := formAlert { s with fault := { s.fault with enables := e } }
  if s.fault.alert = before then s else placeStatus s

/-- The first latched class F cell, VALVE_STUCK before the others, which stand in the order of the cell table
(R188). -/
def firstLatchedF (s : State) : Option Cell :=
  allCells.find? (fun c => classF c && s.latched c)

/-- The station leaves LOADING (R3, R178): to READY, or to FAULTED while a class F cell is latched, with one
FAULT frame of the new own zone (R188). -/
def leaveLoading (s : State) : State :=
  if s.anyF then
    let s := enterFaulted s
    match firstLatchedF s with
    | some c => placeFault c s
    | none => s
  else moveTo .ready s

/-- The recipe accepted (R178, R181, R182). -/
def acceptRecipe (raw : Recipe) (unknown : Bool) (s : State) : State :=
  let p := clampRecipe raw
  leaveLoading
    (setEnables p.alertEnables
      { s with
        recipe :=
          { s.recipe with
            recipe := some p, loadResult := .accepted, refusal := .none
            clampFlag := decide (p ≠ raw), unknownFlag := unknown } })

/-- The recipe refused (R178): the image and the loaded length are kept. -/
def refuseRecipe (cause : RefusalCause) (s : State) : State :=
  placeStatus
    { s with
      recipe :=
        { s.recipe with
          recipe := none, loadResult := .refused, refusal := cause
          clampFlag := false, unknownFlag := false } }

/-- LOAD_END as the Recipe Store takes it (R178, R183). -/
def takeLoadEnd (length : Half) (s : State) : State :=
  match s.cycle.station with
  | .loading =>
    let checked :=
      { s with
        recipe := { s.recipe with checkResult := checkResultAfter s.recipe length.toNat } }
    match judgeImage s.recipe.image length.toNat with
    | .error cause => refuseRecipe cause checked
    | .ok (raw, unknown) => acceptRecipe raw unknown checked
  | .ready => placeStatus s
  | _ => s

/-! ## LOAD (R175, R176) -/

/-- One byte written; a position past 255 is dropped, and a position written for the first time adds 1 to the
loaded length (R175). -/
def writeImage (position : Nat) (value : Byte) (u : RecipeUnit) : RecipeUnit :=
  if position < 256 then
    { u with
      image := writeByte position value u.image
      written := u.written ||| BitVec.twoPow 256 position
      loadedLength := if u.written.getLsbD position then u.loadedLength else u.loadedLength + 1 }
  else u

/-- Data bytes written in order from an offset (R175). -/
def writeBytes : Nat → List Byte → RecipeUnit → RecipeUnit
  | _, [], u => u
  | position, value :: rest, u => writeBytes (position + 1) rest (writeImage position value u)

/-- A new image begun (R176): the station moves to LOADING, the Recipe Store is as at reset and the class A
enables return to set (R186). -/
def newImage (s : State) : State :=
  let s := moveTo .loading s
  setEnables 15 { s with recipe := State.reset.recipe }

/-- LOAD as the Recipe Store takes it (R175, R176). -/
def takeLoad (offset : Byte) (data : List Byte) (s : State) : State :=
  let write (s : State) : State :=
    { s with recipe := writeBytes offset.toNat data s.recipe }
  match s.cycle.station with
  | .loading => write s
  | .ready => write (newImage s)
  | _ => s

end Sys2Proof.Machine
end

