-- ==== Sys2Proof/Machine/Receive.lean ====
section
/-!
DEFINITION. Reception (06): the end of a received frame, the bad frame (R116), the acceptance filter (R115,
R117, R118, R122), and what the owner of each kind does (R119): the Draw Unit (R139 to R144), the Hold Unit
(R150, R156), the Recipe Store (R175 to R183), the Cycle Controller (R3 to R5) and the Fault Unit (R191).
-/

namespace Sys2Proof.Machine

/-! ## The end of a reception -/

/-- The last end mark bit of a received frame (R104): no frame is in progress and the run begins again. -/
def endReception (s : State) : State :=
  { s with
    line :=
      { s.line with
        receiving := none, recessiveRun := 0
        condition := if s.line.condition = .stuck then .stuck else .busy } }

/-- The end of a good frame: its end mark was recessive, so the dominant run is 0 (R110, R114). -/
def endGoodReception (s : State) : State :=
  let s := endReception s
  if s.line.condition = .stuck then s else { s with line := { s.line with dominantRun := 0 } }

/-- A bad frame counted (R116): LINE_NOISY is reported when the count reaches 16. -/
def countBad (s : State) : State :=
  if s.line.badCount < Config.noisyLimit then
    let counted := { s with line := { s.line with badCount := s.line.badCount + 1 } }
    if s.line.badCount + 1 = Config.noisyLimit then reportA .lineNoisy counted else counted
  else s

/-- A frame judged bad (R115 step 1, R116, R143, R145): it is counted, a phantom is reserved where a table is
kept, and the admission test is repeated. -/
def badFrame (s : State) : State := retest (phantomForBadFrame (countBad s))

/-! ## The acceptance filter -/

/-- Whether a kind is admitted in a station state (R118). -/
def admitted (k : FrameKind) (st : Station) : Bool :=
  match k with
  | .load => st == .loading || st == .ready
  | .loadEnd => st == .loading || st == .ready
  | .start => st != .loading && st != .faulted
  | .stop => st != .loading && st != .faulted
  | .clear => st != .loading
  | .opening => st != .loading
  | .shut => st != .loading
  | .hold => st != .loading
  | .fault => st != .loading
  | .status => true
  | .result => false
  | .unknown => false

/-- Whether a frame's target is this station or every station (R115 step 3). -/
def State.addressed (s : State) (target : StationNo) : Bool :=
  target == s.line.station || target == everyStation

/-- Whether the zone a frame carries is the own zone, 0..3 (R115 step 5); a kind that carries none passes. -/
def State.zonePasses (s : State) (zone : Option Byte) : Bool :=
  match zone with
  | none => true
  | some z => decide (z.toNat < 4) && decide (z.toNat = s.params.zone)

/-- Steps 3 to 5 of the filter: whether a good frame of another sender is dispatched (R115). -/
def State.dispatches (s : State) (k : FrameKind) (target : StationNo) (zone : Option Byte) : Bool :=
  s.addressed target && admitted k s.cycle.station && s.zonePasses zone

/-- The filter's steps 2 to 6 on a good frame, which sets the bad count to 0 (R115, R117, R122). -/
def filterGood (k : FrameKind) (sender target : StationNo) (zone : Option Byte) (act : State → State)
    (s : State) : State :=
  let s := { s with line := { s.line with badCount := 0 } }
  if s.strapsValid then
    if sender = s.line.station then reportF .duplicate s
    else if s.dispatches k target zone then act s
    else s
  else s

/-- A received frame at its judgement (R114, R115, R145): `good` says whether its sender and length pass, its
check and end mark being good; the admission test is repeated once its owner has acted. -/
def receive (k : FrameKind) (sender target : StationNo) (zone : Option Byte) (good : Bool)
    (act : State → State) (s : State) : State :=
  if good then retest (filterGood k sender target zone act (endGoodReception s))
  else badFrame (endReception s)

/-- The sender test and the length test of R114 for a kind with a class. -/
def frameGood (k : FrameKind) (sender : StationNo) (length : Nat) : Bool :=
  sender != everyStation && lengthAllowed k length

/-- BAD_FRAME (R114 to R116, R143). -/
def execBadFrame (s : State) : Host.Outcome State Fault Refusal :=
  .next (badFrame (endReception s))

/-! ## Frames of the Draw Unit -/

/-- RECEIVED_OPEN (R139). -/
def execReceivedOpen (sender target : StationNo) (zone : Byte) (length : Half) (s : State) :
    Host.Outcome State Fault Refusal :=
  .next
    (receive .opening sender target (some zone) (frameGood .opening sender 3)
      (peerOpens sender length) s)

/-- RECEIVED_SHUT (R140); the samples figure is not read. -/
def execReceivedShut (sender target : StationNo) (zone : Byte) (_samples : Half) (s : State) :
    Host.Outcome State Fault Refusal :=
  .next
    (receive .shut sender target (some zone) (frameGood .shut sender 3) (removeKeyed sender) s)

/-- RECEIVED_FAULT (R141); the valve state is not read. -/
def execReceivedFault (sender target : StationNo) (code zone _valve : Byte) (s : State) :
    Host.Outcome State Fault Refusal :=
  .next
    (receive .fault sender target (some zone) (frameGood .fault sender 3) (peerFaults sender code) s)

/-- RECEIVED_STATUS (R142, R144). -/
def execReceivedStatus (sender target : StationNo) (payload : List Byte) (s : State) :
    Host.Outcome State Fault Refusal :=
  .next
    (receive .status sender target none (frameGood .status sender payload.length)
      (peerStatus sender payload) s)

/-- RECEIVED_RESULT (R118): admitted in no state. -/
def execReceivedResult (sender target : StationNo) (payload : List Byte) (s : State) :
    Host.Outcome State Fault Refusal :=
  .next
    (receive .result sender target none (frameGood .result sender payload.length) id s)

/-- UNKNOWN_KIND_FRAME (R114, R118, R193): good, and admitted in no state. -/
def execUnknownKindFrame (sender target : StationNo) (_kind : BitVec 4) (_payload : List Byte)
    (s : State) : Host.Outcome State Fault Refusal :=
  .next (receive .unknown sender target none true id s)

/-! ## Frames of the Hold Unit -/

/-- Whether the HOLD slot holds a PENDING own HOLD with q above 0 (R156). -/
def State.holdPending (s : State) : Bool :=
  match s.line.holdSlot.body with
  | .pending f => decide (0 < f.q)
  | _ => false

/-- The suppression of the own HOLD (R156): a release replaces the pending frame, and an assertion ends. -/
def suppressHold (s : State) : State :=
  let s := placeHold 0 s
  if s.hold.asserted then setAsserted false (dropOwnEntry s) else s

/-- A received HOLD with q above 0 (R150, R156). -/
def peerHolds (sender : StationNo) (q : Nat) (s : State) : State :=
  let s := { s with hold := { s.hold with table := tableSet sender.toNat q s.hold.table } }
  if s.holdPending then suppressHold s else s

/-- A received release (R150): one that leaves the table empty leads to the assertion test. -/
def peerReleases (sender : StationNo) (s : State) : State :=
  match tableGet sender.toNat s.hold.table with
  | none => s
  | some _ =>
    let s := { s with hold := { s.hold with table := tableErase sender.toNat s.hold.table } }
    if s.hold.table.isEmpty then testAssertion s else s

/-- RECEIVED_HOLD (R150, R156; log 31). -/
def execReceivedHold (sender target : StationNo) (zone q : Byte) (s : State) :
    Host.Outcome State Fault Refusal :=
  .next
    (receive .hold sender target (some zone) (frameGood .hold sender 2)
      (fun s => if 0 < q.toNat then peerHolds sender q.toNat s else peerReleases sender s) s)

/-! ## Frames of the Recipe Store -/

/-- LOAD (R175 to R177). -/
def execLoad (sender target : StationNo) (offset : Byte) (data : List Byte) (s : State) :
    Host.Outcome State Fault Refusal :=
  .next
    (receive .load sender target none (frameGood .load sender (data.length + 1))
      (takeLoad offset data) s)

/-- LOAD_END (R177, R178, R183). -/
def execLoadEnd (sender target : StationNo) (length : Half) (s : State) :
    Host.Outcome State Fault Refusal :=
  .next
    (receive .loadEnd sender target none (frameGood .loadEnd sender 2) (takeLoadEnd length) s)

/-! ## Frames of the Cycle Controller -/

/-- The entry to RUN at a START (R4). -/
def enterRun (s : State) : State :=
  moveTo .run
    { s with
      cycle :=
        { s.cycle with
          phase := .returning, period := none, infeedRef := none, startRefusal := .none
          stopPending := false } }

/-- A START refused (R4). -/
def refuseStart (s : State) : State :=
  placeStatus { s with cycle := { s.cycle with startRefusal := .cellsLatched } }

/-- START as the Cycle Controller takes it (R4). -/
def takeStart (s : State) : State :=
  match s.cycle.station with
  | .ready => enterRun s
  | .standby => if s.fault.latched = 0 then enterRun s else refuseStart s
  | .run =>
    if s.cycle.stopPending then placeStatus { s with cycle := { s.cycle with stopPending := false } }
    else s
  | _ => s

/-- START (R4). -/
def execStart (sender target : StationNo) (s : State) : Host.Outcome State Fault Refusal :=
  .next (receive .start sender target none (frameGood .start sender 0) takeStart s)

/-- A STOP in a working phase (R5): the stop is pending; a second STOP has no effect. -/
def pendStop (s : State) : State :=
  if s.cycle.stopPending then s
  else placeStatus { s with cycle := { s.cycle with stopPending := true } }

/-- A STOP in RETURN or PASS (R5): to STANDBY at once, a grant ended. -/
def stopNow (s : State) : State :=
  let s := endGrant s
  moveTo .standby { s with cycle := { s.cycle with phase := .returning } }

/-- STOP as the Cycle Controller takes it (R3, R5). -/
def takeStop (s : State) : State :=
  match s.cycle.station with
  | .run =>
    if s.cycle.phase = .returning ∨ s.cycle.phase = .pass then stopNow s else pendStop s
  | .parked => moveTo .standby s
  | _ => s

/-- STOP (R5). -/
def execStop (sender target : StationNo) (s : State) : Host.Outcome State Fault Refusal :=
  .next (receive .stop sender target none (frameGood .stop sender 0) takeStop s)

/-! ## CLEAR -/

/-- Whether the cause of a cell holds (11, cell table). -/
def State.causeHolds (s : State) (c : Cell) : Bool :=
  match c with
  | .valveStuck => s.gasFb
  | .headerLost => s.sensor.header.validity == .stale
  | .bellLost => s.sensor.bell.validity == .stale
  | .lineDead => s.line.condition == .stuck
  | .crimpJam => false
  | .duplicate => false
  | .markOrder => false
  | .zeroDrift => false
  | .lineNoisy => false
  | .rejectRun => false

/-- One cell taken at a CLEAR (R191): cleared when it is named and its cause does not hold. -/
def clearOne (cells : Half) (s : State) (c : Cell) : State :=
  if cells.getLsbD (cellNumber c) && !s.causeHolds c then
    { s with fault := { s.fault with latched := clearCell c s.fault.latched } }
  else s

/-- CLEAR as the Fault Unit takes it (R191, R7): the named cells, ALERT_N, a STATUS, and the move to READY of a
FAULTED station without a class F cell. -/
def takeClear (cells : Half) (s : State) : State :=
  let s := placeStatus (formAlert (allCells.foldl (clearOne cells) s))
  if s.cycle.station = .faulted ∧ s.anyF = false then moveTo .ready s else s

/-- CLEAR (R191). -/
def execClear (sender target : StationNo) (cells : Half) (s : State) :
    Host.Outcome State Fault Refusal :=
  .next (receive .clear sender target none (frameGood .clear sender 2) (takeClear cells) s)

end Sys2Proof.Machine
end

