-- ==== Sys2Proof/Machine/Sensor.lean ====
section
/-!
DEFINITION. The Sensor Port's commands (03): the end of a sensor transaction with the pressure sample it may
complete, and the end of a zeroing.
-/

namespace Sys2Proof.Machine

/-! ## The sample's readers -/

/-- PC_CLAMPED set at a sample with a clamped Pc, the bell channel VALID and a gas part present (R48). -/
def noteClamped (s : State) : State :=
  if s.gasPart.isSome ∧ s.sensor.sample.bell = .valid ∧ s.sensor.sample.pcClamped ≠ .no then
    addCondition .pcClamped s
  else s

/-- The watermark tests at a sample (R151, R158): a STALE header ends the assertion, a VALID one is tested in
READY and RUN. -/
def watermarkTest (s : State) : State :=
  let p := s.sensor.sample
  match p.header with
  | .notYet => s
  | .stale => standDown s
  | .valid =>
    if s.cycle.station = .ready ∨ s.cycle.station = .run then
      if s.hold.asserted then (if s.params.highPressure ≤ p.ph then releaseHold s else s)
      else if p.ph < s.params.lowPressure then testAssertion s
      else s
    else s

/-- A sample handed to its readers: the Dose Unit, the Gas Sequencer, the Hold Unit (R40; log 12). -/
def handSample (s : State) : State :=
  let s := { s with sensor := { s.sensor with sample := formSample s.sensor } }
  watermarkTest (gasTakesSample (countSample (formDrive (noteClamped s))))

/-! ## Transactions -/

/-- A change of a channel's validity places a STATUS (R45). -/
def statusIfChanged (before after : Validity) (s : State) : State :=
  if before = after then s else placeStatus s

/-- The header channel after its transaction; an entry to STALE is reported after the sample (R44). -/
def endHeaderTransaction (r : SensorReply) (s : State) : State :=
  let after := channelAfter r s.sensor.header
  let lost : Bool := s.sensor.header.validity != .stale && after.validity == .stale
  statusIfChanged s.sensor.header.validity after.validity
    { s with
      sensor :=
        { s.sensor with header := after, headerLostDue := s.sensor.headerLostDue || lost } }

/-- The last 16 of a list with one more reading (R49). -/
def keepReadings (samples : List (BitVec 12)) (reading : BitVec 12) : List (BitVec 12) :=
  let longer := samples ++ [reading]
  longer.drop (longer.length - Config.zeroingReadings)

/-- A good bell reading joins the sample list of a running zeroing (R49). -/
def collectReading (r : SensorReply) (s : State) : State :=
  match s.sensor.zeroing with
  | .idle => s
  | .collecting _ =>
    if replyGood r then
      { s with
        sensor := { s.sensor with zeroSamples := keepReadings s.sensor.zeroSamples (replyReading r) } }
    else s

/-- HEADER_LOST reported once the sample has been handed over (R44). -/
def reportHeaderLost (s : State) : State :=
  if s.sensor.headerLostDue then
    reportF .headerLost { s with sensor := { s.sensor with headerLostDue := false } }
  else s

/-- The bell channel after its transaction, which completes the pressure sample (R40, R44). -/
def endBellTransaction (r : SensorReply) (s : State) : State :=
  let before := s.sensor.bell.validity
  let after := channelAfter r s.sensor.bell
  let lost : Bool := before != .stale && after.validity == .stale
  let s :=
    statusIfChanged before after.validity { s with sensor := { s.sensor with bell := after } }
  let s := reportHeaderLost (handSample (collectReading r s))
  if lost then reportF .bellLost s else s

/-- The transaction of a channel ended, when it is the one in progress: its outcome is taken once (R40), and is a miss
where its start could not be made (R39). -/
def endTransaction (c : Channel) (reply : SensorReply) (s : State) : State :=
  match s.sensor.transaction with
  | none => s
  | some x =>
    if x.channel = c then
      let r := takenReply x.startMade reply
      let s := { s with sensor := { s.sensor with transaction := none } }
      match c with
      | .header => endHeaderTransaction r s
      | .bell => parkTest (endBellTransaction r s)
    else s

/-- SENSOR_TRANSACTION_END (R40 to R48, R56 to R64, R85, R98, R151), with the park conditions tested again
(R20). Where that channel has no transaction in progress, one dropped by a reset among them (R38), there is no
outcome to take (log 3). -/
def execSensorTransactionEnd (channel : Channel) (r : SensorReply) (s : State) :
    Host.Outcome State Fault Refusal :=
  .next (endTransaction channel r s)

/-! ## The end of a zeroing -/

/-- The sum of a list of readings. -/
def readingSum : List (BitVec 12) → Nat
  | [] => 0
  | r :: rest => r.toNat + readingSum rest

/-- The mean of the 16 readings, rounded down (R50). -/
def readingMean (samples : List (BitVec 12)) : Nat := readingSum samples / Config.zeroingReadings

/-- The grant ended at the report of the zeroing, which returns to IDLE (R50, R51); the sample list is then empty
(03, section 3.6; log 28). -/
def finishZeroing (s : State) : State :=
  { s with
    cycle := { s.cycle with grant := .none }
    sensor := { s.sensor with zeroing := .idle, zeroSamples := [] } }

/-- The zeroing completed with effect (R50): the offset replaced, a mean above +200 kPa clamped with
ZERO_DRIFT reported, one unit of debt repaid, and a STATUS for the changes (R45). -/
def applyZeroing (s : State) : State :=
  let mean := readingMean s.sensor.zeroSamples
  let offset := min Config.maxOffset mean
  let changed : Bool := offset != s.sensor.zeroOffset || decide (0 < s.sensor.zeroDebt)
  let s := if Config.maxOffset < mean then reportA .zeroDrift s else s
  let s :=
    finishZeroing
      { s with sensor := { s.sensor with zeroOffset := offset, zeroDebt := s.sensor.zeroDebt - 1 } }
  if changed then placeStatus s else s

/-- The zeroing at its Tz (R50, R51): with 16 readings it takes effect, with fewer it ends without. -/
def endZeroing (s : State) : State :=
  if Config.zeroingReadings ≤ s.sensor.zeroSamples.length then applyZeroing s else finishZeroing s

/-- Whether a zeroing runs and its timer has reached Tz (R50, R52). -/
def State.zeroingExpires (s : State) : Bool :=
  match s.sensor.zeroing with
  | .idle => false
  | .collecting since => reached s.clock since s.params.zeroingTime

/-- ZEROING_TIMER_EXPIRY (R50 to R52), with the park conditions tested again (R20). The timer of a zeroing that
was abandoned does not expire, and one begun since has its own Tz to reach. -/
def execZeroingTimerExpiry (s : State) : Host.Outcome State Fault Refusal :=
  .next (if s.zeroingExpires then parkTest (endZeroing s) else s)

end Sys2Proof.Machine
end

