-- ==== Sys2Proof/Machine/Valve.lean ====
section
/-!
DEFINITION. The Gas Sequencer's commands (05): the GAS_FB edges, the feedback and close windows, and the settle
and check timers.
-/

namespace Sys2Proof.Machine

/-- FEEDBACK_WINDOW_LAPSE (R84): at 5 ms the window becomes none and feedback seen stays no; a window that does
not run, or has not reached 5 ms, cannot lapse. -/
def execFeedbackWindowLapse (s : State) : Host.Outcome State Fault Refusal :=
  .next
    (if hasExpired s.clock s.gas.feedbackWindow Config.feedbackWindow then
      { s with gas := { s.gas with feedbackWindow := none } }
    else s)

/-- GAS_FB open while GAS is on: inside the feedback window the feedback is seen (R84). -/
def seeFeedback (s : State) : State :=
  match s.gas.feedbackWindow with
  | some _ => { s with gas := { s.gas with feedbackWindow := none, feedbackSeen := true } }
  | none => s

/-- GAS_FB_OPENS (R84, R96): inside a pulse the feedback is looked for; with GAS off a valve that opens outside
a close window is stuck. -/
def execGasFbOpens (s : State) : Host.Outcome State Fault Refusal :=
  let s := { s with gasFb := true }
  if s.gasOn then .next (seeFeedback s)
  else if s.gas.closeWindow.isSome then .next s
  else .next (findStuckValve s)

/-- The end of a stuck episode (R97): the valve is reported closed; in LOADING the STATUS shows the change
(R146). -/
def endStuckEpisode (s : State) : State :=
  let s := reportClosed { s with gas := { s.gas with stuckEpisode := false } }
  if s.cycle.station = .loading then placeStatus s else s

/-- GAS_FB showing closed, as the close window or the stuck episode takes it (R87, R97). -/
def takeValveClosed (s : State) : State :=
  if s.gas.closeWindow.isSome then valveClosed s
  else if s.gas.stuckEpisode then endStuckEpisode s
  else s

/-- GAS_FB_CLOSES (R87, R97), with the park conditions tested again (R20). -/
def execGasFbCloses (s : State) : Host.Outcome State Fault Refusal :=
  .next (parkTest (takeValveClosed { s with gasFb := false }))

/-- The close window at its end (R87, R96): with GAS off and GAS_FB still open the valve is stuck. -/
def endCloseWindow (s : State) : State :=
  let ended := { s with gas := { s.gas with closeWindow := none } }
  if s.gasFb && !s.gasOn then findStuckValve ended else ended

/-- CLOSE_WINDOW_EXPIRY (R87, R96): a window that does not run, or has not reached 5 ms, cannot expire. -/
def execCloseWindowExpiry (s : State) : Host.Outcome State Fault Refusal :=
  .next (if hasExpired s.clock s.gas.closeWindow Config.closeWindow then endCloseWindow s else s)

/-- SETTLE_TIMER_EXPIRY (R88): PLAN is entered with a plan made at once; a timer that does not run, or has not
reached T_settle, cannot expire. -/
def execSettleTimerExpiry (s : State) : Host.Outcome State Fault Refusal :=
  .next
    (if s.gas.stage = .settle ∧ hasExpired s.clock s.gas.settleTimer s.params.settleTime then enterPlan s
    else s)

/-- The seal judged at the end of the check (R91). -/
def judgeSeal (s : State) : State :=
  let pcEnd := s.sensor.sample.pc
  let entry := s.gasPart.bind (·.pcAtEntry)
  let pcStart := ((s.context.bind (·.check)).map (·.pcAtStart)).getD 0
  let verdict := leakVerdict s.params pcStart pcEnd entry
  let s := onCheckPart (fun k => { k with pcAtEnd := some pcEnd, verdict := verdict }) s
  let s := if verdict = .leak then addReason .leak s else s
  advancePhase .check .sealed (enterEnded s)

/-- CHECK_TIMER_EXPIRY (R91): in CHECK the seal is judged; a timer that does not run, or has not reached the
check interval, cannot expire. -/
def execCheckTimerExpiry (s : State) : Host.Outcome State Fault Refusal :=
  .next
    (if s.gas.stage = .check ∧ hasExpired s.clock s.gas.checkTimer s.params.checkInterval then judgeSeal s
    else s)

end Sys2Proof.Machine
end

