-- ==== Sys2Proof/Machine/Dispatch.lean ====
section
/-!
DEFINITION. The effect of each command on everything but the queue: one arm per row of the table.
-/

namespace Sys2Proof.Machine

/-- The effect of a command. -/
def exec (i : Instr) (s : State) : Host.Outcome State Fault Refusal :=
  match i with
  | .reset straps => Sys2Proof.Machine.execReset straps s
  | .mkInfeed canPresent => Sys2Proof.Machine.execMkInfeed canPresent s
  | .mkGasopen => Sys2Proof.Machine.execMkGasopen s
  | .mkGasclose => Sys2Proof.Machine.execMkGasclose s
  | .mkDischarge => Sys2Proof.Machine.execMkDischarge s
  | .crimpSample force depth => Sys2Proof.Machine.execCrimpSample force depth s
  | .tSeatExpiry => Sys2Proof.Machine.execTSeatExpiry s
  | .tFormExpiry => Sys2Proof.Machine.execTFormExpiry s
  | .tDwellExpiry => Sys2Proof.Machine.execTDwellExpiry s
  | .tRelExpiry => Sys2Proof.Machine.execTRelExpiry s
  | .sensorTransactionEnd channel reply => Sys2Proof.Machine.execSensorTransactionEnd channel reply s
  | .zeroingTimerExpiry => Sys2Proof.Machine.execZeroingTimerExpiry s
  | .zeroingTest => Sys2Proof.Machine.execZeroingTest s
  | .grantVentWaitExpiry => Sys2Proof.Machine.execGrantVentWaitExpiry s
  | .silenceLimit => Sys2Proof.Machine.execSilenceLimit s
  | .loadingStatusTimer => Sys2Proof.Machine.execLoadingStatusTimer s
  | .feedbackWindowLapse => Sys2Proof.Machine.execFeedbackWindowLapse s
  | .gasFbOpens => Sys2Proof.Machine.execGasFbOpens s
  | .gasFbCloses => Sys2Proof.Machine.execGasFbCloses s
  | .closeWindowExpiry => Sys2Proof.Machine.execCloseWindowExpiry s
  | .settleTimerExpiry => Sys2Proof.Machine.execSettleTimerExpiry s
  | .checkTimerExpiry => Sys2Proof.Machine.execCheckTimerExpiry s
  | .lineIdle => Sys2Proof.Machine.execLineIdle s
  | .arbitrationLoss claim => Sys2Proof.Machine.execArbitrationLoss claim s
  | .bitError => Sys2Proof.Machine.execBitError s
  | .frameCompletion => Sys2Proof.Machine.execFrameCompletion s
  | .badFrame => Sys2Proof.Machine.execBadFrame s
  | .lineStuck => Sys2Proof.Machine.execLineStuck s
  | .stuckTimeout => Sys2Proof.Machine.execStuckTimeout s
  | .stuckEnd => Sys2Proof.Machine.execStuckEnd s
  | .receivedOpen sender target zone length => Sys2Proof.Machine.execReceivedOpen sender target zone length s
  | .receivedShut sender target zone samples => Sys2Proof.Machine.execReceivedShut sender target zone samples s
  | .receivedFault sender target code zone valve => Sys2Proof.Machine.execReceivedFault sender target code zone valve s
  | .receivedStatus sender target payload => Sys2Proof.Machine.execReceivedStatus sender target payload s
  | .receivedHold sender target zone q => Sys2Proof.Machine.execReceivedHold sender target zone q s
  | .receivedResult sender target payload => Sys2Proof.Machine.execReceivedResult sender target payload s
  | .load sender target offset data => Sys2Proof.Machine.execLoad sender target offset data s
  | .loadEnd sender target length => Sys2Proof.Machine.execLoadEnd sender target length s
  | .start sender target => Sys2Proof.Machine.execStart sender target s
  | .stop sender target => Sys2Proof.Machine.execStop sender target s
  | .clear sender target cells => Sys2Proof.Machine.execClear sender target cells s
  | .drawCountdown => Sys2Proof.Machine.execDrawCountdown s
  | .holdCountdown => Sys2Proof.Machine.execHoldCountdown s
  | .holdResend => Sys2Proof.Machine.execHoldResend s
  | .unknownKindFrame sender target kind payload => Sys2Proof.Machine.execUnknownKindFrame sender target kind payload s
  | .startBit => Sys2Proof.Machine.execStartBit s
  | .abortMarkEnd => Sys2Proof.Machine.execAbortMarkEnd s

end Sys2Proof.Machine
end

