-- ==== Sys2Proof/Machine/Scan.lean ====
section
/-!
DEFINITION. The scan of the two transducers (R38, R40, R41): when the port begins its transactions, and what it
drives on the sensor link during one (R39). On the link `true` is high for SCL_S and released for SDA_S.
-/

namespace Sys2Proof.Machine

/-! ## The schedule (R40, R41) -/

/-- Whether a sample period starts at the clock's reading; periods are counted from reset (R38, R149). -/
def State.periodStarts (s : State) : Bool := s.clock % Config.ticksPerSample == 0

/-- Whether the port makes its pair of transactions in the period that starts now (R40, R41): in every period at
FULL rate; in PARKED once in 8 ms, counted from the last period with a pair. -/
def State.pairBegins (s : State) : Bool :=
  s.periodStarts
    && (s.cycle.station != .parked
      || (match s.sensor.lastPair with
          | none => true
          | some t => decide (t + Config.slowInterval ≤ s.clock)))

/-- Whether the bell transaction of the pair begins now, 0.25 ms after the header's (R40). -/
def State.bellBegins (s : State) : Bool :=
  match s.sensor.lastPair with
  | none => false
  | some t => s.clock == t + Config.bellDelay

/-- The scan rate at the clock's reading: a head that has left PARKED is at FULL rate from the start of the next
sample period (R41). -/
def State.rateNow (s : State) : ScanRate :=
  if s.cycle.station = .parked then .slow else if s.periodStarts then .full else s.sensor.scan

/-- The transaction of a channel that begins now: the port first reads SDA_S, and where it reads low no start is
made (R39; the level is the free value of log 27). -/
def State.beginTransaction (s : State) (c : Channel) : Transaction :=
  { channel := c, since := s.clock, startMade := Config.sdaReadsHigh s.clock }

/-- What the scan begins at the clock's reading (R38, R40, R41). -/
def startScan (s : State) : State :=
  let p := { s.sensor with scan := s.rateNow }
  { s with
    sensor :=
      if s.pairBegins then
        { p with
          transaction := some (s.beginTransaction .header), lastPair := some s.clock }
      else if s.bellBegins then
        { p with transaction := some (s.beginTransaction .bell) }
      else p }

/-- What the link has shown when no reply was complete within 0.2 ms: a miss (R42). -/
def overdueReply : SensorReply :=
  { startMade := true, acknowledged := false, complete := false, stopMade := false, word := 0 }

/-- The end of the transaction in progress once it has taken 0.2 ms (R40, R42). -/
def transactionDue (s : State) : List Instr :=
  match s.sensor.transaction with
  | none => []
  | some x =>
    if s.clock == x.since + Config.transactionLimit then
      [.sensorTransactionEnd x.channel overdueReply]
    else []

/-! ## The link (R39) -/

/-- What the port drives on the link for one phase of 2.5 µs. -/
structure LinkPhase where
  scl : Bool
  sda : Bool
  deriving DecidableEq, Repr

/-- The link at rest: SCL_S high and SDA_S released. -/
def linkIdle : LinkPhase := { scl := true, sda := true }

/-- The link addresses of the transducers. -/
def linkAddress : Channel → Nat
  | .header => 1
  | .bell => 2

/-- What the port drives on SDA_S in the 27 clocks: the address and the read request, released for the
acknowledgement and for the first reply byte, low to acknowledge it, released for the second and after it. -/
def portBits (c : Channel) : List Bool :=
  bitsOf (linkAddress c) 7 ++ [true] ++ [true] ++ List.replicate 8 true ++ [false]
    ++ List.replicate 8 true ++ [true]

/-- One clock: SDA_S changes while SCL_S is low and holds while it is high. -/
def clockPhases (b : Bool) : List LinkPhase := [{ scl := false, sda := b }, { scl := true, sda := b }]

/-- What the port drives from the start to the stop: SDA_S driven low while SCL_S is high, the 27 clocks, and
SDA_S low for its release while SCL_S is high. -/
def portPhases (c : Channel) : List LinkPhase :=
  [{ scl := true, sda := false }] ++ (portBits c).flatMap clockPhases ++ clockPhases false

/-- What the port drives at the clock's reading: at rest without a transaction, after a reset too (R38), and in one
whose start could not be made, since SDA_S read low (R39). Five ticks of 2 µs are four phases. -/
def State.linkDrive (s : State) : LinkPhase :=
  match s.sensor.transaction with
  | none => linkIdle
  | some x =>
    if x.startMade then (portPhases x.channel).getD ((s.clock - x.since) * 4 / 5) linkIdle
    else linkIdle

/-- What a transducer that is addressed drives on SDA_S in the 27 clocks for a reply of two bytes. -/
def transducerBits (word : BitVec 16) : List Bool :=
  List.replicate 8 true ++ [false] ++ (bitsOf word.toNat 16).take 8 ++ [true]
    ++ (bitsOf word.toNat 16).drop 8 ++ [true]

/-- The levels of SDA_S: low while either side drives it low. -/
def linkLevels (port other : List Bool) : List Bool := List.zipWith (fun a b => a && b) port other

/-- The outcome the port reads (R39, R42): SDA_S before the start, its levels at the rising edges of the clocks
that were made in time, and SDA_S after the stop. -/
def readLink (before : Bool) (levels : List Bool) (after : Bool) : SensorReply :=
  { startMade := before
    acknowledged := !(levels.getD 8 true)
    complete := decide (27 ≤ levels.length)
    stopMade := after
    word := BitVec.ofNat 16 (numberOf ((levels.drop 9).take 8 ++ (levels.drop 18).take 8)) }

end Sys2Proof.Machine
end

