-- ==== Sys2Proof/Machine/Wire.lean ====
section
/-!
DEFINITION. The bits of TL (06, sections 6.1 to 6.3): what the head drives in a bit time (R103, R107), how the bit it
reads is counted (R104, R110) and received (R114), and the table's events that the bit brings about (R102, R104,
R106 to R108, R110, R114). On the line `true` is recessive (1) and `false` dominant (0).
-/

namespace Sys2Proof.Machine

/-! ## What the head drives -/

/-- What the head drives in the bit time at the clock's reading: the bits of its attempt's frame (R103), dominant
through position 165 once the abort mark has begun (R107), and nothing without an attempt. -/
def State.lineDrive (s : State) : Bool :=
  match s.line.attempt with
  | none => true
  | some a =>
    if s.line.abort = .none then (frameBits (attemptFrame s a)).getD (s.position a) true
    else decide (Config.abortPosition ≤ s.position a)

/-! ## What it counts -/

/-- One bit taken into the runs (R104, R110) and into the frame being received (R114). The recessive run stands at
its 11 and the dominant run at its 200. -/
def readBit (recessive : Bool) (l : LineUnit) : LineUnit :=
  { l with
    recessiveRun := if recessive then min Config.idleRun (l.recessiveRun + 1) else 0
    dominantRun := if recessive then 0 else min Config.stuckRun (l.dominantRun + 1)
    receiving := l.receiving.map (fun bits => bits ++ [recessive]) }

/-! ## The events of a bit -/

/-- The claim field as read at an arbitration loss: the own one with the bit that was lost dominant (R106). -/
def claimAtLoss (own : ClaimField) (position : Nat) : ClaimField :=
  BitVec.ofNat 7 (numberOf ((bitsOf own.toNat 7).set (position - 2) false))

/-- What a transmitter makes of the bit it reads (R102, R106 to R108): the end of its abort mark at position 165,
a lost arbitration, a bit error, or the completion at the last end mark bit. -/
def sendEvents (s : State) (a : Attempt) (recessive : Bool) : List Instr :=
  let position := s.position a + 1
  let f := attemptFrame s a
  if s.line.abort ≠ .none then whenDue (position == Config.abortPosition) .abortMarkEnd
  else if position ≤ a.lastPosition then
    match judgeBit position ((frameBits f).getD (position - 1) true) recessive with
    | .good => whenDue (position == a.lastPosition) .frameCompletion
    | .arbitrationLoss => [.arbitrationLoss (claimAtLoss (claimOf f.frameClass f.sender) position)]
    | .bitError => [.bitError]
  else []

/-- Whether the bits received reach the last end mark bit: the length field says how many there are (R103, R114). -/
def frameRead (bits : List Bool) : Bool := bits.length == 41 + 8 * numberOf ((bits.drop 17).take 4)

/-- A frame being received is judged at its last end mark bit (R114): the command is the one its bits spell. -/
def receiveEvents (bits : List Bool) : List Instr := whenDue (frameRead bits) (receptionCommand bits)

/-- Whether a frame waits that the head may offer (R105, R122). -/
def State.frameWaits (s : State) : Bool := s.strapsValid && offerOrder.any s.slotWaits

/-- A bit with no frame in progress (R104): the eleventh recessive bit is a line idle, and so is each further one
while a frame placed since waits (log 15); a dominant bit while IDLE is a start bit. -/
def quietEvents (s : State) (recessive : Bool) : List Instr :=
  if recessive then
    whenDue
      (decide (Config.idleRun ≤ s.line.recessiveRun + 1)
        && (s.line.condition == .busy || (s.line.condition == .idle && s.frameWaits)))
      .lineIdle
  else whenDue (s.line.condition == .idle) .startBit

/-- A bit against the stuck line (R110): the first recessive bit ends STUCK, and a dominant bit past a run of 200
begins it. -/
def stuckEvents (l : LineUnit) (recessive : Bool) : List Instr :=
  if recessive then whenDue (l.condition == .stuck) .stuckEnd
  else whenDue (l.condition != .stuck && decide (Config.stuckRun ≤ l.dominantRun)) .lineStuck

/-- The table's events that the bit brings about, in the state before it is read. -/
def lineEvents (recessive : Bool) (s : State) : List Instr :=
  stuckEvents s.line recessive
    ++ (match s.line.attempt, s.line.receiving with
      | some a, _ => sendEvents s a recessive
      | none, some bits => receiveEvents (bits ++ [recessive])
      | none, none => quietEvents s recessive)

end Sys2Proof.Machine
end

