-- ==== Sys2Proof/Machine/Timers.lean ====
section
/-!
DEFINITION. The clock (log 1, log 2): which of the table's timer events fall due at a clock reading, and the
tick, which is what a step does on an empty queue.
-/

namespace Sys2Proof.Machine

/-- Whether a timer started at `since` reaches `limit` ms at this reading of the clock. -/
def expiresNow (clock : Nat) (since : Option Nat) (limit : Nat) : Bool :=
  match since with
  | some t => dueAt clock t limit
  | none => false

/-- The crimp timer's expiry (R25, R27, R28, R30). -/
def crimpDue (s : State) : List Instr :=
  match s.crimp.timer with
  | .stopped => []
  | .seat since => whenDue (dueAt s.clock since s.params.seatTime) .tSeatExpiry
  | .form since => whenDue (dueAt s.clock since s.params.formTime) .tFormExpiry
  | .dwell since => whenDue (dueAt s.clock since s.params.dwellTime) .tDwellExpiry
  | .release since => whenDue (dueAt s.clock since s.params.releaseTime) .tRelExpiry

/-- The zeroing timer's expiry (R49, R50). -/
def zeroingDue (s : State) : List Instr :=
  match s.sensor.zeroing with
  | .idle => []
  | .collecting since => whenDue (dueAt s.clock since s.params.zeroingTime) .zeroingTimerExpiry

/-- The Cycle Controller's timed events: the return-arc test and the wait for vent (R19), the silence limit
(R20) and the STATUS of LOADING (R8). -/
def cycleDue (s : State) : List Instr :=
  whenDue (expiresNow s.clock s.cycle.zeroTest Config.ventTime) .zeroingTest
    ++ whenDue
        (s.cycle.grant == .waitingForVent && dueAt s.clock s.gas.ventSince Config.ventTime)
        .grantVentWaitExpiry
    ++ whenDue
        (s.cycle.station == .run && expiresNow s.clock s.cycle.silence (silenceLimit s.cycle))
        .silenceLimit
    ++ whenDue s.loadingStatusDue .loadingStatusTimer

/-- The Gas Sequencer's timed events (R84, R87, R88, R91). -/
def gasDue (s : State) : List Instr :=
  whenDue (expiresNow s.clock s.gas.feedbackWindow Config.feedbackWindow) .feedbackWindowLapse
    ++ whenDue (expiresNow s.clock s.gas.closeWindow Config.closeWindow) .closeWindowExpiry
    ++ whenDue (expiresNow s.clock s.gas.settleTimer s.params.settleTime) .settleTimerExpiry
    ++ whenDue (expiresNow s.clock s.gas.checkTimer s.params.checkInterval) .checkTimerExpiry

/-- The countdowns and the resend (R126, R149, R154). -/
def countdownDue (s : State) : List Instr :=
  whenDue (s.clock % Config.ticksPerSample == 0) .drawCountdown
    ++ whenDue (s.clock % Config.ticksPerMs == 0) .holdCountdown
    ++ whenDue (expiresNow s.clock s.hold.resend (resendInterval s.params)) .holdResend

/-- The events due at the clock's reading, in the order the model takes them (log 2). A CRIMP_SAMPLE is none of
them: when within its sample period a conversion completes R23 leaves open, and the model takes the command at any
clock reading (DESIGN CHOICE, log 38). -/
def dueEvents (s : State) : List Instr :=
  countdownDue s ++ crimpDue s ++ gasDue s ++ zeroingDue s ++ cycleDue s
    ++ whenDue
        (!s.line.stuckReported && expiresNow s.clock s.line.stuckSince Config.stuckLimit)
        .stuckTimeout
    ++ transactionDue s

/-- One bit time of 2 µs: the scan begins what begins now (R40, R41), the bit of TL is read (R104, R110), the clock
advances and the events that fall due are put into the queue, those of the line last (log 1, log 2). -/
def tick (s : State) : State :=
  let recessive := Config.lineReadsRecessive s.clock
  let t := { startScan s with clock := s.clock + 1, line := readBit recessive s.line }
  { t with pending := s.pending ++ dueEvents t ++ lineEvents recessive s }

end Sys2Proof.Machine
end

