-- ==== Sys2Proof/Machine/Step.lean ====
section
/-!
DEFINITION. One step of the head: the command at the front of the queue, or, on an empty queue, one tick of the
clock (log 1). `withFetchWord` puts the command a word spells at the front of the queue.
-/

namespace Sys2Proof.Machine

/-- One step. -/
def step (s : State) : Host.Outcome State Fault Refusal :=
  match s.pending with
  | c :: rest => exec c { s with pending := rest }
  | [] => .next (tick s)

/-- The state with the command a word spells at the front of its queue; no word spells one. -/
def State.withFetchWord (s : State) (nbits w : Nat) : State :=
  match decodeTableWord nbits w with
  | some c => { s with pending := c :: s.pending }
  | none => s

end Sys2Proof.Machine
end

