-- ==== Sys2Proof/Safety.lean ====
section
/-!
DEFINITION. What holds of the head at every step: the laws the chapters state of the whole machine, as
predicates over a state.
-/

namespace Sys2Proof.Machine

/-! ## Faults and the station -/

/-- ALERT_N agrees with the cells and the enables (R189). -/
def AlertAgrees (s : State) : Prop := s.fault.alert = alertOf s.fault.latched s.fault.enables

/-- A latched class F cell keeps the station in LOADING or FAULTED (R3, R6). -/
def FaultsHold (s : State) : Prop :=
  s.anyF = true → s.cycle.station = .loading ∨ s.cycle.station = .faulted

/-! ## The recipe -/

/-- Every field of a recipe lies in its range (R182). -/
structure InRange (p : Recipe) : Prop where
  targetMass : 100000 ≤ p.targetMass ∧ p.targetMass ≤ 20000000
  tolerance : 1000 ≤ p.tolerance ∧ p.tolerance ≤ 1000000
  coefficient : 1 ≤ p.coefficient ∧ p.coefficient ≤ 65535
  shortest : 2 ≤ p.shortest ∧ p.shortest ≤ 100
  longest : p.shortest ≤ p.longest ∧ p.longest ≤ 400
  maxPulses : 1 ≤ p.maxPulses ∧ p.maxPulses ≤ 16
  strikes : 1 ≤ p.strikes ∧ p.strikes ≤ 7
  leastRise : 1 ≤ p.leastRise ∧ p.leastRise ≤ 200
  settleTime : p.settleTime ≤ 250
  seatForce : 50 ≤ p.seatForce ∧ p.seatForce ≤ 5000
  maxForce : 500 ≤ p.maxForce ∧ p.maxForce ≤ 20000
  minForce : p.minForce ≤ p.maxForce
  targetDepth : 500 ≤ p.targetDepth ∧ p.targetDepth ≤ 8000
  minDepth : p.minDepth ≤ p.targetDepth
  maxDepth : p.targetDepth ≤ p.maxDepth ∧ p.maxDepth ≤ 8000
  openDepth : p.openDepth ≤ 4000
  seatTime : 5 ≤ p.seatTime ∧ p.seatTime ≤ 500
  formTime : 5 ≤ p.formTime ∧ p.formTime ≤ 500
  releaseTime : 5 ≤ p.releaseTime ∧ p.releaseTime ≤ 500
  dwellTime : p.dwellTime ≤ 200
  zone : p.zone ≤ 3
  openLimit : 1 ≤ p.openLimit ∧ p.openLimit ≤ 15
  guardTime : p.guardTime ≤ 100
  highPressure : 210 ≤ p.highPressure ∧ p.highPressure ≤ 4000
  lowPressure : 200 ≤ p.lowPressure ∧ p.lowPressure + 10 ≤ p.highPressure
  holdTime : 1 ≤ p.holdTime ∧ p.holdTime ≤ 255
  checkInterval : p.checkInterval ≤ 500
  leakFall : 1 ≤ p.leakFall ∧ p.leakFall ≤ 1000
  rejectLimit : p.rejectLimit ≤ 15
  closingsPerStep : 1 ≤ p.closingsPerStep ∧ p.closingsPerStep ≤ 64
  zeroingTime : 20 ≤ p.zeroingTime ∧ p.zeroingTime ≤ 200

/-- The recipe is present outside LOADING and absent in it (R174, R184), and in its ranges (R182). -/
structure RecipeLaw (s : State) : Prop where
  held : s.cycle.station = .loading ↔ s.recipe.recipe = none
  ranges : ∀ p, s.recipe.recipe = some p → InRange p

/-- The image is in its canonical form. -/
def ImageLaw (s : State) : Prop := Memory.wf s.recipe.image = true

/-! ## Tables -/

/-- Every key of a table is a station number, 0..30. -/
def keysBelow31 {α : Type} : List (Nat × α) → Bool
  | [] => true
  | (k, _) :: rest => decide (k < 31) && keysBelow31 rest

/-- A keyed entry's remaining lies in its range (R125). -/
def entryInRange : KeyedEntry → Bool
  | .peer n => decide (1 ≤ n ∧ n ≤ 500)
  | .stuck => true

/-- A phantom's remaining lies in its range (R125). -/
def phantomInRange : Option Nat → Bool
  | none => true
  | some n => decide (1 ≤ n ∧ n ≤ 500)

/-- The draw table (R124, R125): one entry for a station number, none of them the own number's, each remaining
in its range. -/
structure DrawLaw (s : State) : Prop where
  recipe : RecipeLaw s
  form : tableWf s.draw.keyed = true
  keys : keysBelow31 s.draw.keyed = true
  own : tableGet s.ownKey s.draw.keyed = none
  entries : s.draw.keyed.all (fun e => entryInRange e.2) = true
  phantoms : (phantomList s.draw.phantoms).all phantomInRange = true

/-- The hold table (R148): one entry for a sender, 1..255 quanta each; the own entry stands just while the
station is ASSERTED, which it is in READY and RUN alone (R151 to R158). -/
structure HoldLaw (s : State) : Prop where
  recipe : RecipeLaw s
  form : tableWf s.hold.table = true
  keys : s.strapsValid = true → keysBelow31 s.hold.table = true
  entries : s.hold.table.all (fun e => decide (1 ≤ e.2 ∧ e.2 ≤ 255)) = true
  own : s.hold.asserted = (tableGet s.ownKey s.hold.table).isSome
  states : s.hold.asserted = true → s.cycle.station = .ready ∨ s.cycle.station = .run

/-! ## Bounds -/

/-- The Sensor Port's bounds: the zero offset 0..200 kPa, the zero debt 0..4, the miss counts 0..3 and the
sample list of 0..16 readings (03, state table; R43, R49, R50, R53). -/
structure SensorLaw (s : State) : Prop where
  offset : s.sensor.zeroOffset ≤ 200
  debt : s.sensor.zeroDebt ≤ 4
  header : s.sensor.header.misses ≤ 3
  bell : s.sensor.bell.misses ≤ 3
  samples : s.sensor.zeroSamples.length ≤ 16

/-- The Result Unit's bounds: at most 8 records, a drop count of 0..255 (R168). -/
structure QueueLaw (s : State) : Prop where
  records : s.result.queue.length ≤ 8
  drops : s.result.dropCount ≤ 255

/-- The Line Interface's bounds: the recessive run 0..11, the dominant run 0..200 and the consecutive-bad count 0..16
(06, state table; R104, R110, R116). -/
structure LineLaw (s : State) : Prop where
  recessive : s.line.recessiveRun ≤ 11
  dominant : s.line.dominantRun ≤ 200
  bad : s.line.badCount ≤ 16

/-- M of the open context, and the value a take-back would restore, lie in 0..50,000,000 µg (R60, R66). -/
structure MassLaw (s : State) : Prop where
  mass : s.mass ≤ 50000000
  start : s.dose.massAtStart ≤ 50000000

/-! ## The pocket and the shot valve -/

/-- The stages that gassing passes through while the pocket phase is GAS (05, section 5.1). -/
def gassingStage (g : GasStage) : Prop := g = .plan ∨ g = .claim ∨ g = .pulse ∨ g = .settle

/-- How the station state, the pocket phase, the can context and the sequencers' states agree (01, sections
1.1 and 1.2; R2, R15, R16, R83), and what a stuck episode rests on (R96, R97, R191). -/
structure PocketLaw (s : State) : Prop where
  faults : FaultsHold s
  working : s.cycle.station ≠ .run → s.cycle.phase = .returning
  contextOpen : s.context = none ↔ s.cycle.phase = .returning ∨ s.cycle.phase = .pass
  quiet : s.context = none → s.gas.stage = .idle ∧ s.crimp.state = .idle
  beforeGas : s.cycle.phase = .crimp ∨ s.cycle.phase = .waitWindow → s.gas.stage = .idle
  gassing : gassingStage s.gas.stage → s.cycle.phase = .gas
  checking : s.gas.stage = .check → s.cycle.phase = .check
  driven : s.gas.stage = .pulse ↔ s.draw.self = some .driven
  window : s.gas.stage = .pulse → s.gas.closeWindow = none
  stuck : s.gas.stuckEpisode = true →
    s.gasFb = true ∧ s.latched .valveStuck = true ∧ s.gas.closeWindow = none

/-- What R83 lets be seen: GAS is on only in RUN, with the pocket phase GAS in stage PULSE, and with the SELF
entry held. -/
def GasSafe (s : State) : Prop :=
  s.gasOn = true →
    s.cycle.station = .run ∧ s.cycle.phase = .gas ∧ s.gas.stage = .pulse ∧ s.draw.self.isSome = true

/-- The outputs at rest: GAS, FORM and CLOSE off and VENT on in every station state but RUN (R2, 01 section
1.1). -/
def OutputsRest (s : State) : Prop :=
  s.cycle.station ≠ .run →
    s.gasOn = false ∧ s.formOn = false ∧ s.closeOn = false ∧ s.ventOn = true

/-! ## What the statements speak of -/

/-- Record `r` joins the result queue between `s` and `t` (R168): a queue of 8 first loses its oldest record
that is not on the line, and the drop count rises, up to 255. -/
def RecordJoins (r : Record) (s t : State) : Prop :=
  if s.result.queue.length < 8 then
    t.result.queue = s.result.queue ++ [r] ∧ t.result.dropCount = s.result.dropCount
  else
    t.result.queue =
        (if slotOnLine s.line.resultSlot then s.result.queue.take 1 ++ s.result.queue.drop 2
          else s.result.queue.drop 1) ++ [r]
      ∧ t.result.dropCount = min 255 (s.result.dropCount + 1)

/-- A closing counted towards the zero debt between `s` and `t` (R53). -/
def ClosingCounted (s t : State) : Prop :=
  if s.params.closingsPerStep ≤ s.sensor.closings + 1 then
    t.sensor.closings = 0 ∧ t.sensor.zeroDebt = min 4 (s.sensor.zeroDebt + 1)
  else t.sensor.closings = s.sensor.closings + 1 ∧ t.sensor.zeroDebt = s.sensor.zeroDebt

/-- The four park conditions (R20). -/
def ParkConditions (s : State) : Prop :=
  s.cycle.phase = .returning ∧ s.cycle.grant = .none ∧ s.draw.self = none
    ∧ s.line.openSlot.body = .empty ∧ s.line.shutSlot.body = .empty ∧ s.line.holdSlot.body = .empty
    ∧ s.hold.asserted = false

/-- The STATUS slot after a STATUS was placed: every STATUS is the same request (R111). -/
def statusPlaced (l : LineUnit) : LineUnit := { l with statusSlot := slotPlace () l.statusSlot }

/-- A held claim request taken in CLAIM once the cancelled attempt has ended (R129, R135): an OPEN placed when the
admission test passes (R127), else the claim WAITING with DRAW_WAIT. Without one nothing changes. -/
def heldRequestTaken (s : State) : State :=
  if s.draw.requestHeld = true ∧ s.gas.stage = .claim then
    if s.hold.table = [] ∧ s.nonSelf < s.params.openLimit ∧ s.cycle.station = .run
        ∧ s.latched .lineDead = false then
      { s with
        line := { s.line with openSlot := slotPlace { zone := s.zoneByte } s.line.openSlot }
        draw := { s.draw with claim := .placed, requestHeld := false } }
    else
      { s with
        context :=
          s.context.map (fun c => { c with conditions := setCondition .drawWait c.conditions })
        draw := { s.draw with claim := .waiting, requestHeld := false } }
  else s

/-- A head that has moved from RUN to PARKED (R8, R20, R41): SLOW scan, the silence timer stopped, a STATUS
placed, and the marks of a limit reached and of a pending test gone (log 22). -/
def parkedFrom (s : State) : State :=
  { s with
    cycle :=
      { s.cycle with station := .parked, silence := none, silenceOver := false, zeroTest := none }
    sensor := { s.sensor with scan := .slow }
    line := statusPlaced s.line }

/-- The reject-run count after a record with reason `r` (R171): 0 after GOOD, unchanged after the four reasons that
say nothing of a can, else one more, and 0 when that reaches the limit or the limit is 0. -/
def rejectRunAfter (r : Reason) (s : State) : Nat :=
  if r = .good then 0
  else if r = .noCan ∨ r = .skippedZero ∨ r = .headStopped ∨ r = .headFaulted then s.result.rejectRun
  else if s.params.rejectLimit ≤ s.result.rejectRun + 1 then 0
  else s.result.rejectRun + 1

/-- What neither the end of a pocket nor a move of the station between READY, RUN, PARKED, STANDBY and FAULTED
touches (R2, R5, R6, R17, R33, R95): everything but the context, the station with its phase, stop, silence,
grant and test bookkeeping, the sequencers' states and timers, the zeroing and its debt, the scan rate, the
slots, the own entry and claim, the own hold, the result queue and the latched cells. -/
structure HeadFrame (s t : State) : Prop where
  pending : t.pending = s.pending
  clock : t.clock = s.clock
  freeCount : t.freeCount = s.freeCount
  gasFb : t.gasFb = s.gasFb
  counter : t.cycle.counter = s.cycle.counter
  period : t.cycle.period = s.cycle.period
  infeedRef : t.cycle.infeedRef = s.cycle.infeedRef
  startRefusal : t.cycle.startRefusal = s.cycle.startRefusal
  loadingSince : t.cycle.loadingSince = s.cycle.loadingSince
  peak : t.crimp.peak = s.crimp.peak
  failure : t.crimp.failure = s.crimp.failure
  lastDepth : t.crimp.lastDepth = s.crimp.lastDepth
  transaction : t.sensor.transaction = s.sensor.transaction
  lastPair : t.sensor.lastPair = s.sensor.lastPair
  header : t.sensor.header = s.sensor.header
  bell : t.sensor.bell = s.sensor.bell
  zeroOffset : t.sensor.zeroOffset = s.sensor.zeroOffset
  sample : t.sensor.sample = s.sensor.sample
  headerLostDue : t.sensor.headerLostDue = s.sensor.headerLostDue
  drive : t.dose.drive = s.dose.drive
  rate : t.dose.rate = s.dose.rate
  planned : t.dose.planned = s.dose.planned
  elapsed : t.dose.elapsed = s.dose.elapsed
  credited : t.dose.credited = s.dose.credited
  massAtStart : t.dose.massAtStart = s.dose.massAtStart
  remainderAtStart : t.dose.remainderAtStart = s.dose.remainderAtStart
  feedbackSeen : t.gas.feedbackSeen = s.gas.feedbackSeen
  stuckEpisode : t.gas.stuckEpisode = s.gas.stuckEpisode
  straps : t.line.station = s.line.station
  condition : t.line.condition = s.line.condition
  recessiveRun : t.line.recessiveRun = s.line.recessiveRun
  dominantRun : t.line.dominantRun = s.line.dominantRun
  stuckSince : t.line.stuckSince = s.line.stuckSince
  stuckReported : t.line.stuckReported = s.line.stuckReported
  attempt : t.line.attempt = s.line.attempt
  abort : t.line.abort = s.line.abort
  receiving : t.line.receiving = s.line.receiving
  badCount : t.line.badCount = s.line.badCount
  keyed : t.draw.keyed = s.draw.keyed
  phantoms : t.draw.phantoms = s.draw.phantoms
  rejectRun : t.result.rejectRun = s.result.rejectRun
  carried : t.result.carried = s.result.carried
  recipe : t.recipe = s.recipe
  enables : t.fault.enables = s.fault.enables

/-- The record of a context without parts (R163): no crimp figures, no mass, no pulses, no strikes. -/
def bareRecord (s : State) (cycle : BitVec 16) (r : Reason) : Record :=
  { sequence := s.result.sequence, cycle := cycle, reason := r
    conditions := if 2 ≤ s.sensor.zeroDebt then setCondition .zeroOverdue 0 else 0
    depth := 0, peak := 0, mass := 0, pulses := 0, strikesUsed := 0 }

/-- A good frame of another station reaches the filter's later steps: valid straps, and a sender that is
neither 31 nor the own number (R114, R115, R122). -/
def State.hears (s : State) (sender : StationNo) : Prop :=
  s.strapsValid = true ∧ sender ≠ everyStation ∧ sender ≠ s.line.station

/-- The line after a good frame has been received (R104, R110, R115): no reception in progress, both runs at 0,
the line BUSY, and the consecutive-bad count 0; a line that is STUCK stays so with its dominant run. -/
def lineAfterGood (s : State) : LineUnit :=
  { s.line with
    receiving := none, recessiveRun := 0, badCount := 0
    dominantRun := if s.line.condition = .stuck then s.line.dominantRun else 0
    condition := if s.line.condition = .stuck then .stuck else .busy }

/-! ## The recipe image as the chain of its sections (R180) -/

/-- The byte of an image at a position, as a number. -/
def byteAt (image : List Host.Cell) (p : Nat) : Nat := (readByte image p).toNat

/-- The link that follows the sections at the positions `os`: byte 1 of the image for the first, and the last
section's own for a later one (R180). -/
def linkAfter (image : List Host.Cell) (os : List Nat) : Nat :=
  match os.getLast? with
  | none => byteAt image 1
  | some o => byteAt image (o + 2)

/-- The lowest position that link may take: 2, or the position just after the last section's body (R180). -/
def lowestAfter (image : List Host.Cell) (os : List Nat) : Nat :=
  match os.getLast? with
  | none => 2
  | some o => o + 3 + byteAt image (o + 1)

/-- The body lengths that the kinds 1 to 5 need (R180). -/
def lengthNeeded (kind : Nat) : Nat := [0, 17, 21, 8, 6, 2].getD kind 0

/-- The walk reaches sections at the positions `os`, in that order, and each passes the tests 4 to 7 (R180);
`area` is the end of the section area. -/
def Walked (image : List Host.Cell) (area : Nat) (os : List Nat) : Prop :=
  ∀ i, i < os.length →
    let o := os.getD i 0
    let earlier := os.take i
    let kind := byteAt image o
    o = linkAfter image earlier ∧ lowestAfter image earlier ≤ o
      ∧ o + 3 + byteAt image (o + 1) ≤ area
      ∧ (1 ≤ kind → kind ≤ 5 →
          (∀ p ∈ earlier, byteAt image p ≠ kind) ∧ lengthNeeded kind ≤ byteAt image (o + 1))

end Sys2Proof.Machine
end

