-- ==== Sys2Proof/Certificates/Slice0/Obligations.lean ====
section
/-!
DEFINITION. The statements for the provers: one `def Obligations.<Name> : Prop` for each entry of
OBLIGATIONS.json, in its order.
-/

open Sys2Proof Sys2Proof.Machine

/-- For every command c, every queue rest and every state s: step of s with c at the front of its queue and rest
behind it is exec of c on s with the queue rest. -/
def Obligations.StepRunsTheFrontCommand : Prop :=
  ∀ (c : Instr) (rest : List Instr) (s : State),
    step { s with pending := c :: rest } = exec c { s with pending := rest }

/-- The MODEL'S CHOICE (log 1, DESIGN CHOICE): on an empty queue a step advances the clock by one bit time of 2 µs
and reads one bit of TL, whose level is a free value of the clock reading (log 14; the clauses hold for either
level). A recessive bit adds 1 to the recessive run, up to 11, and sets the dominant run to 0; a dominant bit
sets the recessive run to 0 and adds 1 to the dominant run, up to 200, in every line condition, with a frame in
progress or without (R104, R110). A frame being received takes the bit (R114). The queue holds exactly the timer
events due at the new reading and then the line's events of the bit (that order is log 2, the model's choice);
the sensor scan is another statement's, and every other field is unchanged. On the model's clock (log 1, DESIGN
CHOICE: 500 ticks are 1 ms), each timer event is among the events due at a state's clock reading just when its
timer reaches its limit there: the four crimp timers, the feedback and close windows at 5 ms, the settle and
check timers, the zeroing timer at Tz, the return-arc test 20 ms after the discharge, a waiting grant when VENT
has been on for 20 ms, the silence limit at twice the period or 2000 ms in RUN, the STATUS of LOADING every 500
ms after the entry, the draw countdown every 0.5 ms, the hold countdown every 1 ms, the resend at max(1,
floor(Q/2)) quanta, the stuck timeout at 50 ms unless it was reported, and the end of a sensor transaction still
in progress 0.2 ms after its start, with a reply that is not complete. -/
def Obligations.EmptyQueueTicksAndTimersFallDue : Prop :=
  (∀ s : State, ∃ t, step { s with pending := [] } = .next t
    ∧ t.pending =
        dueEvents { t with pending := [] } ++ lineEvents (Config.lineReadsRecessive s.clock) s
    ∧ (∀ recessive, recessive = Config.lineReadsRecessive s.clock →
        t.line =
          { s.line with
            recessiveRun := if recessive then min 11 (s.line.recessiveRun + 1) else 0
            dominantRun := if recessive then 0 else min 200 (s.line.dominantRun + 1)
            receiving := s.line.receiving.map (· ++ [recessive]) })
    ∧ t = { s with
        clock := s.clock + 1, pending := t.pending, line := t.line
        sensor :=
          { s.sensor with
            scan := t.sensor.scan, transaction := t.sensor.transaction
            lastPair := t.sensor.lastPair } })
  ∧ (∀ s : State,
    (.tSeatExpiry ∈ dueEvents s ↔
      ∃ t, s.crimp.timer = .seat t ∧ s.clock = t + s.params.seatTime * 500)
    ∧ (.tFormExpiry ∈ dueEvents s ↔
      ∃ t, s.crimp.timer = .form t ∧ s.clock = t + s.params.formTime * 500)
    ∧ (.tDwellExpiry ∈ dueEvents s ↔
      ∃ t, s.crimp.timer = .dwell t ∧ s.clock = t + s.params.dwellTime * 500)
    ∧ (.tRelExpiry ∈ dueEvents s ↔
      ∃ t, s.crimp.timer = .release t ∧ s.clock = t + s.params.releaseTime * 500)
    ∧ (.feedbackWindowLapse ∈ dueEvents s ↔
      ∃ t, s.gas.feedbackWindow = some t ∧ s.clock = t + 5 * 500)
    ∧ (.closeWindowExpiry ∈ dueEvents s ↔
      ∃ t, s.gas.closeWindow = some t ∧ s.clock = t + 5 * 500)
    ∧ (.settleTimerExpiry ∈ dueEvents s ↔
      ∃ t, s.gas.settleTimer = some t ∧ s.clock = t + s.params.settleTime * 500)
    ∧ (.checkTimerExpiry ∈ dueEvents s ↔
      ∃ t, s.gas.checkTimer = some t ∧ s.clock = t + s.params.checkInterval * 500)
    ∧ (.zeroingTimerExpiry ∈ dueEvents s ↔
      ∃ t, s.sensor.zeroing = .collecting t ∧ s.clock = t + s.params.zeroingTime * 500)
    ∧ (.zeroingTest ∈ dueEvents s ↔
      ∃ t, s.cycle.zeroTest = some t ∧ s.clock = t + 20 * 500)
    ∧ (.grantVentWaitExpiry ∈ dueEvents s ↔
      s.cycle.grant = .waitingForVent ∧ s.clock = s.gas.ventSince + 20 * 500)
    ∧ (.silenceLimit ∈ dueEvents s ↔
      s.cycle.station = .run ∧ ∃ t, s.cycle.silence = some t
        ∧ s.clock = t + (match s.cycle.period with | some p => 2 * p | none => 2000) * 500)
    ∧ (.loadingStatusTimer ∈ dueEvents s ↔
      s.cycle.station = .loading ∧ ∃ n, 1 ≤ n ∧ s.clock = s.cycle.loadingSince + n * (500 * 500))
    ∧ (.drawCountdown ∈ dueEvents s ↔ 250 ∣ s.clock)
    ∧ (.holdCountdown ∈ dueEvents s ↔ 500 ∣ s.clock)
    ∧ (.holdResend ∈ dueEvents s ↔
      ∃ t, s.hold.resend = some t ∧ s.clock = t + max 1 (s.params.holdTime / 2) * 500)
    ∧ (.stuckTimeout ∈ dueEvents s ↔
      s.line.stuckReported = false ∧ ∃ t, s.line.stuckSince = some t ∧ s.clock = t + 50 * 500)
    ∧ (∀ ch, (∃ r, .sensorTransactionEnd ch r ∈ dueEvents s) ↔
      ∃ x, s.sensor.transaction = some x ∧ x.channel = ch ∧ s.clock = x.since + 100)
    ∧ (∀ ch r, .sensorTransactionEnd ch r ∈ dueEvents s → r.complete = false))

/-- On the model's clock (log 1; 250 ticks are a sample period, counted from reset, log 26): a tick at the start of
a period begins a header transaction and keeps that start, in PARKED only when 8 ms have passed since the start
of the last period with a pair, or no pair was made. Else a tick 0.25 ms after the last pair's start begins its
bell transaction, in every station state. Whether SDA_S then reads high, so that the start is made, is a free
value of the clock reading (log 27), kept in the transaction, and no clause rests on it. At every other tick the
transaction in progress and the last pair's start stay. The scan rate is SLOW at a tick in PARKED, FULL at the
start of a period in any other state, and else stays. RESET leaves no transaction in progress and no pair made,
and SENSOR_TRANSACTION_END of its channel ends the one in progress. -/
def Obligations.ScanMakesItsPairs : Prop :=
  ∀ s : State,
    let pair : Prop :=
      250 ∣ s.clock
        ∧ (s.cycle.station = .parked → ∀ p, s.sensor.lastPair = some p → p + 16 * 250 ≤ s.clock)
    (∃ t, step { s with pending := [] } = .next t
      ∧ (pair →
          t.sensor.transaction =
              some { channel := .header, since := s.clock, startMade := Config.sdaReadsHigh s.clock }
            ∧ t.sensor.lastPair = some s.clock)
      ∧ (¬pair → t.sensor.lastPair = s.sensor.lastPair)
      ∧ (¬pair → ∀ p, s.sensor.lastPair = some p → s.clock = p + 125 →
          t.sensor.transaction =
            some { channel := .bell, since := s.clock, startMade := Config.sdaReadsHigh s.clock })
      ∧ (¬pair → (∀ p, s.sensor.lastPair = some p → s.clock ≠ p + 125) →
          t.sensor.transaction = s.sensor.transaction)
      ∧ (s.cycle.station = .parked → t.sensor.scan = .slow)
      ∧ (s.cycle.station ≠ .parked →
          t.sensor.scan = if s.clock % 250 = 0 then .full else s.sensor.scan))
    ∧ (∀ straps, ∃ t, exec (.reset straps) s = .next t ∧ t.clock = 0
        ∧ t.sensor.transaction = none ∧ t.sensor.lastPair = none)
    ∧ (∀ ch b made r,
      s.sensor.transaction = some { channel := ch, since := b, startMade := made } →
        ∃ t, exec (.sensorTransactionEnd ch r) s = .next t ∧ t.sensor.transaction = none
          ∧ t.sensor.lastPair = s.sensor.lastPair)

/-- In a transaction whose start was made the port drives on SDA_S, over 27 clocks, the link address (1 header, 2
bell) top bit first, the read request 1, released for the acknowledge and the first byte, low for one clock,
released for the second byte and after it. With the start before and the stop after them these are 57 phases of
2.5 µs, SDA_S changing only while SCL_S is low but for the start and the stop; at a clock reading d ticks of 2
µs after the start the port drives phase floor(4d/5), and idle levels after the last. THE MODEL'S CHOICE (log
27, the two rows marked DEDUCED): the layout of the 57 phases with SDA_S driven low in the clock before the
stop, and the phase floor(4d/5) of the 2.5 µs grid. Without a transaction, so after RESET, and in one whose
start could not be made because SDA_S read low, SCL_S is high and SDA_S released; the latter ends as a miss
whatever reply its SENSOR_TRANSACTION_END carries: the reading stays and a miss is counted, up to 3. A
transducer's acknowledge and two bytes, wired-AND with the port's levels, read back as a reply made and complete
with that word, every word. A start that cannot be made, a ninth clock read high, fewer than 27 clocks in time,
and a stop read low are each a miss. -/
def Obligations.LinkBitsReadBack : Prop :=
  (∀ ch : Channel,
    portBits ch =
        (List.range 7).map
            (fun i => ((match ch with | .header => 1 | .bell => 2) : BitVec 7).getMsbD i)
          ++ [true, true] ++ List.replicate 8 true ++ [false] ++ List.replicate 8 true ++ [true]
      ∧ (portPhases ch).length = 57
      ∧ (portPhases ch).head? = some { scl := true, sda := false }
      ∧ (portPhases ch).getLast? = some { scl := true, sda := false }
      ∧ (∀ i, i < 27 →
          (portPhases ch)[2 * i + 1]? = ((portBits ch)[i]?).map (fun b => { scl := false, sda := b })
            ∧ (portPhases ch)[2 * i + 2]? =
                ((portBits ch)[i]?).map (fun b => { scl := true, sda := b })))
  ∧ (∀ (ch : Channel) (word : BitVec 16),
    readLink true (linkLevels (portBits ch) (transducerBits word)) true =
      { startMade := true, acknowledged := true, complete := true, stopMade := true, word := word })
  ∧ (∀ (before after : Bool) (levels : List Bool),
    before = false ∨ levels.getD 8 true = true ∨ levels.length < 27 ∨ after = false →
      replyGood (readLink before levels after) = false)
  ∧ (∀ s : State,
    (s.sensor.transaction = none → s.linkDrive = { scl := true, sda := true })
    ∧ (∀ ch b d, s.sensor.transaction = some { channel := ch, since := b, startMade := true } →
        s.clock = b + d →
        s.linkDrive = ((portPhases ch)[4 * d / 5]?).getD { scl := true, sda := true })
    ∧ (∀ ch b, s.sensor.transaction = some { channel := ch, since := b, startMade := false } →
        s.linkDrive = { scl := true, sda := true })
    ∧ (∀ ch b reply, s.sensor.transaction = some { channel := ch, since := b, startMade := false } →
        let read (u : State) : ChannelState :=
          match ch with
          | .header => u.sensor.header
          | .bell => u.sensor.bell
        ∃ t, exec (.sensorTransactionEnd ch reply) s = .next t
          ∧ (read t).reading = (read s).reading ∧ (read t).misses = min 3 ((read s).misses + 1))
    ∧ (∀ straps, ∃ t, exec (.reset straps) s = .next t
        ∧ t.linkDrive = { scl := true, sda := true }))

/-- For every command and every state, exec answers a next state, and the queue of waiting commands is the same in
it: the part has no halt and no exception entry, and a command acts on everything but the queue. -/
def Obligations.EveryCommandIsTakenAndKeepsTheQueue : Prop :=
  ∀ (c : Instr) (s : State), ∃ t, exec c s = .next t ∧ t.pending = s.pending

/-- For every straps value and every state: with GAS_FB closed RESET leaves every field of every block at the value
its reset rule gives, the station number as strapped, and a STATUS pending (R8, R101). RESET is the moment at
which reset ends, for RESET_N its release (log 40, the model's choice). With GAS_FB open it leaves the same
state but for the stuck valve (R77, R96): the episode begun, VALVE_STUCK latched, ALERT_N asserted, a FAULT with
no-zone value 255 and the valve open placed. No sensor transaction is in progress. The model's own fields (the
queue, the free counter) and the level of GAS_FB stay, its clock starts at 0, and the fields without a reset
value in the spec are as logs 4 to 8 and 11 say (DESIGN CHOICE). -/
def Obligations.ResetStartsTheHeadAfresh : Prop :=
  ∀ (straps : StationNo) (s : State),
    let fresh : State :=
      { pending := s.pending, clock := 0, freeCount := s.freeCount, gasFb := s.gasFb, context := none
        cycle :=
          { station := .loading, phase := .returning, stopPending := false, counter := 0
            period := none, infeedRef := none, silence := none, silenceOver := false
            grant := .none, startRefusal := .none, zeroTest := none, loadingSince := 0 }
        crimp :=
          { state := .idle, peak := 0, finalDepth := 0, failure := .none, timer := .stopped
            lastDepth := 0 }
        sensor :=
          { header := { reading := 0, validity := .notYet, misses := 0 }
            bell := { reading := 0, validity := .notYet, misses := 0 }
            scan := .full, transaction := none, lastPair := none, zeroOffset := 0, zeroing := .idle
            zeroSamples := [], zeroDebt := 1, closings := 0
            sample :=
              { ph := 101, pc := 101, header := .notYet, bell := .notYet, pcClamped := .no }
            headerLostDue := false }
        dose :=
          { drive := none, rate := none, running := false, planned := 2, elapsed := 0
            credited := 0, massAtStart := 0, remainderAtStart := 0, attemptLength := none }
        gas :=
          { stage := .idle, feedbackWindow := none, feedbackSeen := false, closeWindow := none
            stuckEpisode := false, lastOpen := 0, settleTimer := none, checkTimer := none
            ventSince := 0 }
        line :=
          { station := straps, condition := .busy, recessiveRun := 0, dominantRun := 0
            stuckSince := none, stuckReported := false
            faultSlot := { body := .empty, next := none, failures := 0 }
            holdSlot := { body := .empty, next := none, failures := 0 }
            shutSlot := { body := .empty, next := none, failures := 0 }
            openSlot := { body := .empty, next := none, failures := 0 }
            statusSlot := { body := .pending (), next := none, failures := 0 }
            resultSlot := { body := .empty, next := none, failures := 0 }
            attempt := none, abort := .none, receiving := none, badCount := 0 }
        draw :=
          { self := none, keyed := []
            phantoms := { first := none, second := none, third := none, fourth := none }
            claim := .none, requestHeld := false }
        hold := { table := [], asserted := false, resend := none }
        result := { queue := [], sequence := 0, dropCount := 0, rejectRun := 0, carried := 0 }
        recipe :=
          { image := [], written := 0, loadedLength := 0, loadResult := .none, refusal := .none
            checkResult := 0, recipe := none, clampFlag := false, unknownFlag := false }
        fault := { latched := 0, enables := 15, alert := false } }
    exec (.reset straps) s =
      .next
        (if s.gasFb then
          { fresh with
            gas := { fresh.gas with stuckEpisode := true }
            line :=
              { fresh.line with
                faultSlot :=
                  { body := .pending { cell := .valveStuck, zone := 255, valveOpen := true }
                    next := none, failures := 0 } }
            fault := { latched := 1, enables := 15, alert := true } }
        else fresh)

/-- In RUN with phase RETURN, CAN_PRESENT high and a zero debt below 4, MK_INFEED advances the cycle counter,
measures the period when the interval from the reference lies in 100..10,000 whole ms, sets the reference,
restarts the silence timer, ends any grant with a running zeroing abandoned, opens a context (its crimp part
PENDING with 0 and 0, ZERO_OVERDUE at a debt of 2 or more, no reasons), enters CRIMP and starts T_seat in SEAT.
Every other field is unchanged. THE MODEL'S CHOICE: an interval is taken in whole milliseconds, rounded down
(log 23, DESIGN CHOICE); its marks for a limit reached and a test pending are cleared (log 22), and the crimp's
last depth starts at 0 (log 24). -/
def Obligations.InfeedSendsACanToTheCrimp : Prop :=
  ∀ s : State, s.cycle.station = .run → s.cycle.phase = .returning → s.sensor.zeroDebt < 4 →
    exec (.mkInfeed true) s =
      .next
        { s with
          context :=
            some
              { cycle := s.cycle.counter + 1, openedIn := .run, canPresent := true
                zeroDebt := s.sensor.zeroDebt, gasOpenTaken := false, gasCloseTaken := false
                crimp := some { outcome := .pending, peak := 0, depth := 0 }
                gas := none, check := none, reasons := []
                conditions := if 2 ≤ s.sensor.zeroDebt then setCondition .zeroOverdue 0 else 0 }
          cycle :=
            { s.cycle with
              phase := .crimp, counter := s.cycle.counter + 1
              period :=
                match s.cycle.infeedRef with
                | some t =>
                  if 100 ≤ (s.clock - t) / 500 ∧ (s.clock - t) / 500 ≤ 10000 then
                    some ((s.clock - t) / 500)
                  else s.cycle.period
                | none => s.cycle.period
              infeedRef := some s.clock, silence := some s.clock, silenceOver := false
              grant := .none, zeroTest := none }
          crimp :=
            { state := .seat, peak := 0, finalDepth := 0, failure := .none, timer := .seat s.clock
              lastDepth := 0 }
          sensor :=
            { s.sensor with
              zeroing := .idle
              zeroSamples :=
                if s.sensor.zeroing = .idle then s.sensor.zeroSamples else [] } }

/-- In RUN with phase RETURN and either a zero debt of 4 or more or CAN_PRESENT low, MK_INFEED leaves the phase
PASS, no context open, the cycle counter advanced, the period measured when the interval from the reference lies
in 100..10,000 whole ms (rounded down: log 23, DESIGN CHOICE), the reference set, the silence timer restarted,
the marks for a limit reached and a test pending cleared (log 22, the model's choice), and one record without
parts in the queue, numbered by the sequence number, with reason SKIPPED_ZERO at the debt of 4 and NO_CAN
otherwise; the closing is counted towards the zero debt; a zeroing that runs is abandoned with its list cleared;
with a debt of 1 or more read at the mark a grant is given: at once, with a zeroing begun, when VENT has been on
for 20 ms, else waiting for vent; with a debt of 0 none. The reject-run count, the crimp, dose, gas, draw and
hold units, the recipe, the fault cells and GAS_FB are unchanged, and of the line only the STATUS and RESULT
slots can change. -/
def Obligations.InfeedPassesAPocketWithItsRecord : Prop :=
  ∀ (canPresent : Bool) (s : State), s.cycle.station = .run → s.cycle.phase = .returning →
    (4 ≤ s.sensor.zeroDebt ∨ canPresent = false) →
    ∃ t, exec (.mkInfeed canPresent) s = .next t
      ∧ t.cycle.station = .run ∧ t.cycle.phase = .pass ∧ t.context = none
      ∧ t.cycle.counter = s.cycle.counter + 1
      ∧ t.cycle =
          { s.cycle with
            phase := .pass, counter := s.cycle.counter + 1
            period :=
              match s.cycle.infeedRef with
              | some t =>
                if 100 ≤ (s.clock - t) / 500 ∧ (s.clock - t) / 500 ≤ 10000 then
                  some ((s.clock - t) / 500)
                else s.cycle.period
              | none => s.cycle.period
            infeedRef := some s.clock, silence := some s.clock, silenceOver := false
            grant := t.cycle.grant, zeroTest := none }
      ∧ RecordJoins
          (bareRecord s (s.cycle.counter + 1)
            (if 4 ≤ s.sensor.zeroDebt then .skippedZero else .noCan)) s t
      ∧ t.result.sequence = s.result.sequence + 1 ∧ t.result.rejectRun = s.result.rejectRun
      ∧ ClosingCounted s t
      ∧ (s.sensor.zeroDebt = 0 → t.cycle.grant = .none ∧ t.sensor.zeroing = .idle)
      ∧ (t.sensor.zeroing = .idle →
          t.sensor.zeroSamples = if s.sensor.zeroing = .idle then s.sensor.zeroSamples else [])
      ∧ (1 ≤ s.sensor.zeroDebt → s.gas.stage = .idle ∧ s.gas.ventSince + 20 * 500 ≤ s.clock →
          t.cycle.grant = .granted ∧ t.sensor.zeroing = .collecting s.clock
            ∧ t.sensor.zeroSamples = [])
      ∧ (1 ≤ s.sensor.zeroDebt → ¬(s.gas.stage = .idle ∧ s.gas.ventSince + 20 * 500 ≤ s.clock) →
          t.cycle.grant = .waitingForVent ∧ t.sensor.zeroing = .idle)
      ∧ t = { s with
          context := t.context, cycle := t.cycle, sensor := t.sensor, line := t.line
          result := t.result }
      ∧ t.sensor =
          { s.sensor with
            zeroing := t.sensor.zeroing, zeroSamples := t.sensor.zeroSamples
            zeroDebt := t.sensor.zeroDebt, closings := t.sensor.closings }
      ∧ t.line = { s.line with statusSlot := t.line.statusSlot, resultSlot := t.line.resultSlot }

/-- In LOADING and READY MK_INFEED changes nothing. In STANDBY and FAULTED it advances the cycle counter, puts one
record without parts into the queue with reason HEAD_STOPPED or HEAD_FAULTED, and counts the closing towards the
zero debt; station, phase, period, reference, silence timer, grant and every actuator stay, and the other units
are unchanged. In PARKED it moves the station to RUN with the counter advanced, the reference and the silence
timer at this mark and the period kept, whatever the pocket becomes, the scan rate as it is until the next
sample period; the hold, gas and dose units and the cells stay, and HeadFrame says what else does. In RUN in a
phase other than RETURN, PASS among them, MK_INFEED latches MARK_ORDER, is measured as any INFEED is (R18;
rounded down, log 23, the model's choice), sets the reference, and is then handled again: without a stop pending
the station stays in RUN with the phase CRIMP or PASS and the hold unit as it was; with one the station is
STANDBY in RETURN and a HEAD_STOPPED record stands last. The counter advances by one. With a context open whose
candidates stand below MARK_ERROR, and room for two records, the first new record has reason MARK_ERROR, the
context's cycle and the next sequence number, at most one follows it, the reject run counts it, and GAS is off.
With no context open, as in PASS, no record of MARK_ERROR is made and gas sequencer and reject run stay.
HeadFrame says what else stays. -/
def Obligations.InfeedOutsideReturnActsByState : Prop :=
  (∀ (canPresent : Bool) (s : State),
    ((s.cycle.station = .loading ∨ s.cycle.station = .ready) → exec (.mkInfeed canPresent) s = .next s)
    ∧ ((s.cycle.station = .standby ∨ s.cycle.station = .faulted) →
        ∃ t, exec (.mkInfeed canPresent) s = .next t
          ∧ RecordJoins
              (bareRecord s (s.cycle.counter + 1)
                (if s.cycle.station = .standby then .headStopped else .headFaulted)) s t
          ∧ t.result.sequence = s.result.sequence + 1 ∧ t.result.rejectRun = s.result.rejectRun
          ∧ ClosingCounted s t
          ∧ t = { s with
              context := none, cycle := { s.cycle with counter := s.cycle.counter + 1 }
              sensor :=
                { s.sensor with zeroDebt := t.sensor.zeroDebt, closings := t.sensor.closings }
              line :=
                { s.line with statusSlot := t.line.statusSlot, resultSlot := t.line.resultSlot }
              result := t.result })
    ∧ (s.cycle.station = .parked →
        ∃ t, exec (.mkInfeed canPresent) s = .next t
          ∧ t.cycle.station = .run ∧ t.sensor.scan = s.sensor.scan
          ∧ t.cycle.counter = s.cycle.counter + 1
          ∧ t.cycle.infeedRef = some s.clock ∧ t.cycle.silence = some s.clock
          ∧ t.cycle.period = s.cycle.period
          ∧ (t.cycle.phase = .pass ∨ t.cycle.phase = .crimp)
          ∧ t.hold = s.hold ∧ t.fault = s.fault ∧ t.gas = s.gas ∧ t.dose = s.dose
          ∧ HeadFrame
              { s with
                cycle :=
                  { s.cycle with counter := s.cycle.counter + 1, infeedRef := some s.clock }
                crimp := t.crimp } t))
  ∧ (∀ (canPresent : Bool) (s : State) (c : CanContext),
    s.cycle.station = .run → s.cycle.phase ≠ .returning →
    ∃ t, exec (.mkInfeed canPresent) s = .next t
      ∧ t.latched .markOrder = true
      ∧ t.cycle.counter = s.cycle.counter + 1 ∧ t.cycle.stopPending = false
      ∧ (s.cycle.stopPending = false →
          t.cycle.station = .run ∧ (t.cycle.phase = .crimp ∨ t.cycle.phase = .pass)
            ∧ t.hold = s.hold)
      ∧ (s.cycle.stopPending = true →
          t.cycle.station = .standby ∧ t.cycle.phase = .returning ∧ t.context = none
            ∧ t.result.queue.getLast?.map (·.reason) = some .headStopped)
      ∧ (s.context = some c → s.result.queue.length < 7 →
          (∀ r ∈ c.reasons, reasonCode .markError < reasonCode r) →
          t.gasOn = false
            ∧ t.result.queue.take s.result.queue.length = s.result.queue
            ∧ (t.result.queue[s.result.queue.length]?).map (fun r => (r.reason, r.cycle, r.sequence))
                = some (Reason.markError, c.cycle, s.result.sequence)
            ∧ t.result.queue.length ≤ s.result.queue.length + 2
            ∧ t.result.rejectRun = rejectRunAfter .markError s)
      ∧ (s.context = none →
          t.gas = s.gas ∧ t.result.rejectRun = s.result.rejectRun
            ∧ (∀ r ∈ t.result.queue, r ∈ s.result.queue ∨ r.reason ≠ .markError))
      ∧ HeadFrame
          { s with
            cycle :=
              { s.cycle with
                counter := s.cycle.counter + 1, infeedRef := some s.clock
                period :=
                  match s.cycle.infeedRef with
                  | some t =>
                    if 100 ≤ (s.clock - t) / 500 ∧ (s.clock - t) / 500 ≤ 10000 then
                      some ((s.clock - t) / 500)
                    else s.cycle.period
                  | none => s.cycle.period }
            crimp := t.crimp
            result := { s.result with rejectRun := t.result.rejectRun } } t)

/-- Outside RUN MK_GASOPEN changes nothing. In RUN in CRIMP it sets gas-open taken and MARK_LATE in the open context
and changes nothing else; in RETURN, GAS, CHECK, SEALED and PASS it changes nothing. In RUN in WAIT_WINDOW with
a context open, the sequencer in IDLE and a pulse limit of at least 1, MK_GASOPEN creates the gas part with M 0,
remainder 0, the recipe's strikes, the latest Pc as Pc at entry when the bell is VALID there and no pulses, and
starts the sequencer, so that VENT is off and GAS stays off. When Mtol is not below Mt the dose is complete:
ENDED with the pocket SEALED, or CHECK with its check part PENDING from the latest Pc and the check timer
started when a check is configured. Otherwise the pocket is in GAS. Without a drive term or a rate held the
stage is PLAN and nothing more changes. With both, a hold sets HOLD_WAIT and keeps PLAN, a rate of 0 sets
NO_DRIVE and keeps PLAN, and else the stage is CLAIM with the claim request made (the admission statement says
what that does). Nothing else changes, in the context or outside it. -/
def Obligations.GasOpenMarkStartsGassing : Prop :=
  (∀ s : State,
    (s.cycle.station ≠ .run → exec .mkGasopen s = .next s)
    ∧ (s.cycle.station = .run → s.cycle.phase = .crimp →
        exec .mkGasopen s =
          .next
            { s with
              context :=
                s.context.map
                  (fun c =>
                    { c with
                      gasOpenTaken := true, conditions := setCondition .markLate c.conditions }) })
    ∧ (s.cycle.station = .run → s.cycle.phase ≠ .crimp → s.cycle.phase ≠ .waitWindow →
        exec .mkGasopen s = .next s))
  ∧ (∀ (s : State) (c : CanContext),
    s.cycle.station = .run → s.cycle.phase = .waitWindow → s.context = some c → s.gas.stage = .idle →
    1 ≤ s.params.maxPulses →
    let gassed : CanContext :=
      { c with
        gas :=
          some
            { mass := 0, remainder := 0, strikes := s.params.strikes
              pcAtEntry := if s.sensor.sample.bell = .valid then some s.sensor.sample.pc else none
              pulses := [] } }
    let held : Prop := s.hold.table ≠ []
    let noDrive : Prop := s.dose.rate = some 0
    (s.params.targetMass ≤ s.params.tolerance → s.params.checkInterval = 0 →
      exec .mkGasopen s =
        .next
          { s with
            context := some gassed, cycle := { s.cycle with phase := .sealed }
            gas := { s.gas with stage := .ended, settleTimer := none, checkTimer := none } })
    ∧ (s.params.targetMass ≤ s.params.tolerance → s.params.checkInterval ≠ 0 →
      exec .mkGasopen s =
        .next
          { s with
            context :=
              some
                { gassed with
                  check :=
                    some { pcAtStart := s.sensor.sample.pc, pcAtEnd := none, verdict := .pending } }
            cycle := { s.cycle with phase := .check }
            gas := { s.gas with stage := .check, settleTimer := none, checkTimer := some s.clock } })
    ∧ (s.params.tolerance < s.params.targetMass → s.dose.drive = none ∨ s.dose.rate = none →
      exec .mkGasopen s =
        .next
          { s with
            context := some gassed, cycle := { s.cycle with phase := .gas }
            gas := { s.gas with stage := .plan, settleTimer := none } })
    ∧ (s.params.tolerance < s.params.targetMass → s.dose.drive ≠ none → s.dose.rate ≠ none →
      held ∨ noDrive →
      exec .mkGasopen s =
        .next
          { s with
            context :=
              some
                { gassed with
                  conditions :=
                    (let flags :=
                      if noDrive then setCondition .noDrive c.conditions else c.conditions
                    if held then setCondition .holdWait flags else flags) }
            cycle := { s.cycle with phase := .gas }
            gas := { s.gas with stage := .plan, settleTimer := none } })
    ∧ (s.params.tolerance < s.params.targetMass → s.dose.drive ≠ none → s.dose.rate ≠ none →
      ¬held → ¬noDrive →
      exec .mkGasopen s =
        .next
          (requestClaim
            { s with
              context := some gassed, cycle := { s.cycle with phase := .gas }
              gas := { s.gas with stage := .claim, settleTimer := none } })))

/-- Outside RUN MK_GASCLOSE changes nothing. In RUN: in CRIMP it records gas-close taken and the candidate
LATE_CRIMP; in WAIT_WINDOW it adds NOT_GASSED, sets WINDOW_CUT and seals the pocket, CLOSE and VENT untouched;
in RETURN, SEALED and PASS it changes nothing. Nothing else changes. In RUN with a context whose gas part is g.
In GAS in stage PLAN, CLAIM, PULSE or SETTLE, MK_GASCLOSE ends the sequencer in ENDED and seals the pocket with
GAS off and VENT off, sets WINDOW_CUT and adds NOT_GASSED when M is 0, LOW_DOSE when M + Mtol is below Mt, and
HIGH_DOSE when M exceeds Mt + Mtol; M, the remainder and the strikes stay. In PULSE the newest pulse entry gets
outcome CUT, the samples credited and the latest Pc, the elapsed count becomes the last open count, and while
GAS_FB still shows open the close window starts with a driven SELF closing at 10 samples; if it shows closed
SELF is gone and a SHUT with that count is placed. In CLAIM the claim ends, or is CANCELLED while the OPEN is on
the line. In CHECK the check part gets verdict CUT without a Pc at end, CHECK_CUT is set, and the pocket is
SEALED in ENDED. -/
def Obligations.GasCloseMarkCutsTheWindow : Prop :=
  (∀ s : State,
    (s.cycle.station ≠ .run → exec .mkGasclose s = .next s)
    ∧ (s.cycle.station = .run → s.cycle.phase = .crimp →
        exec .mkGasclose s =
          .next
            { s with
              context :=
                s.context.map
                  (fun c =>
                    { c with
                      gasCloseTaken := true, reasons := insertReason .lateCrimp c.reasons }) })
    ∧ (s.cycle.station = .run → s.cycle.phase = .waitWindow →
        exec .mkGasclose s =
          .next
            { s with
              context :=
                s.context.map
                  (fun c =>
                    { c with
                      reasons := insertReason .notGassed c.reasons
                      conditions := setCondition .windowCut c.conditions })
              cycle := { s.cycle with phase := .sealed } })
    ∧ (s.cycle.station = .run → s.cycle.phase = .returning ∨ s.cycle.phase = .sealed ∨ s.cycle.phase = .pass →
        exec .mkGasclose s = .next s))
  ∧ (∀ (s : State) (c : CanContext) (g : GasPart),
    s.cycle.station = .run → s.context = some c → c.gas = some g →
    (s.cycle.phase = .gas → gassingStage s.gas.stage →
      ∃ t, exec .mkGasclose s = .next t
        ∧ t.cycle = { s.cycle with phase := .sealed } ∧ t.gas.stage = .ended
        ∧ t.gas.settleTimer = none ∧ t.gas.checkTimer = none
        ∧ t.context.map (hasCondition .windowCut ·.conditions) = some true
        ∧ t.context.map (·.reasons) =
            some
              (let cut : List Reason :=
                if g.mass = 0 then insertReason .notGassed c.reasons
                else if g.mass + s.params.tolerance < s.params.targetMass then
                  insertReason .lowDose c.reasons
                else c.reasons
              if s.params.targetMass + s.params.tolerance < g.mass then insertReason .highDose cut
              else cut)
        ∧ t.gasPart.map (fun h => (h.mass, h.remainder, h.strikes, h.pulses.length))
            = some (g.mass, g.remainder, g.strikes, g.pulses.length)
        ∧ (s.gas.stage = .pulse →
            t.dose = { s.dose with running := false } ∧ t.gas.lastOpen = s.dose.elapsed
              ∧ t.pulses.getLast?.map (fun p => (p.credited, p.pcAtEnd, p.outcome))
                  = g.pulses.getLast?.map
                      (fun _ => (some s.dose.credited, some s.sensor.sample.pc, some PulseOutcome.cut))
              ∧ (s.gasFb = true →
                  t.gas.closeWindow = some s.clock ∧ t.line = s.line
                    ∧ (s.draw.self = some .driven → t.draw.self = some (.closing 10)))
              ∧ (s.gasFb = false →
                  t.gas.closeWindow = none ∧ t.draw.self = none
                    ∧ t.line.shutSlot =
                        slotPlace { zone := s.zoneByte, samples := s.dose.elapsed } s.line.shutSlot))
        ∧ (s.gas.stage = .claim →
            t.draw.claim =
              (match s.draw.claim with
                | .placed => if slotOnLine s.line.openSlot then .cancelled else .none
                | .cancelled => .cancelled
                | _ => .none))
        ∧ t = { s with
            context := t.context, cycle := t.cycle, gas := t.gas
            dose :=
              { s.dose with running := t.dose.running, attemptLength := t.dose.attemptLength }
            line :=
              { s.line with
                shutSlot := t.line.shutSlot, openSlot := t.line.openSlot
                statusSlot := t.line.statusSlot }
            draw :=
              { s.draw with
                self := t.draw.self, claim := t.draw.claim
                requestHeld := t.draw.requestHeld } })
    ∧ (s.cycle.phase = .check → s.gas.stage = .check →
        exec .mkGasclose s =
          .next
            { s with
              context :=
                some
                  { c with
                    check := c.check.map (fun k => { k with verdict := .cut })
                    reasons :=
                      if s.params.targetMass + s.params.tolerance < g.mass then
                        insertReason .highDose c.reasons
                      else c.reasons
                    conditions := setCondition .checkCut c.conditions }
              cycle := { s.cycle with phase := .sealed }
              gas := { s.gas with stage := .ended, settleTimer := none, checkTimer := none } }))

/-- In RUN in SEALED with a context open and the silence limit not reached, MK_DISCHARGE leaves RETURN with no
context, the crimp in IDLE with its timer stopped, the gas sequencer in IDLE with GAS off and VENT on (since
this mark unless it was on already), and the record of the context in the queue: its cycle, its conditions, its
crimp figures or 0 and 0, floor(M/10), the pulses and strikes used or 0, the reason by R164. The closing is
counted towards the zero debt. With a stop pending the station is STANDBY and the stop no longer pending;
without one it stays in RUN, with the return-arc test pending when the debt is then 1 or more. The reject run is
counted by the record's reason (R171), and what HeadFrame names stays. Outside RUN MK_DISCHARGE changes nothing.
In RUN with the silence limit not reached: in RETURN it changes nothing; in PASS it sets the phase RETURN and
changes nothing else; in CRIMP, WAIT_WINDOW, GAS or CHECK with a context whose candidates stand below MARK_ERROR
it latches MARK_ORDER, leaves RETURN with no context, crimp and gas sequencer in IDLE, and one more record in a
queue that was not full, with the context's cycle and the reason MARK_ERROR, counted in the reject run; what
HeadFrame names stays. -/
def Obligations.DischargeClosesTheContext : Prop :=
  (∀ (s : State) (c : CanContext),
    s.cycle.station = .run → s.cycle.phase = .sealed → s.context = some c →
    s.cycle.silenceOver = false →
    ∃ t, exec .mkDischarge s = .next t
      ∧ t.cycle.phase = .returning ∧ t.context = none ∧ t.cycle.stopPending = false
      ∧ t.crimp = { s.crimp with state := .idle, timer := .stopped }
      ∧ t.gas.stage = .idle
      ∧ t.gas.ventSince = (if s.gas.stage = .idle then s.gas.ventSince else s.clock)
      ∧ RecordJoins
          { sequence := s.result.sequence, cycle := c.cycle, reason := chooseReason c.reasons
            conditions := c.conditions
            depth := (c.crimp.map (·.depth)).getD 0, peak := (c.crimp.map (·.peak)).getD 0
            mass := (c.gas.map (·.mass / 10)).getD 0
            pulses := (c.gas.map (·.pulses.length)).getD 0
            strikesUsed := (c.gas.map (s.params.strikes - ·.strikes)).getD 0 } s t
      ∧ t.result.sequence = s.result.sequence + 1
      ∧ ClosingCounted s t
      ∧ (s.cycle.stopPending = true → t.cycle.station = .standby)
      ∧ (s.cycle.stopPending = false →
          t.cycle.station = .run
            ∧ t.cycle.zeroTest =
                if 1 ≤ t.sensor.zeroDebt then some s.clock else s.cycle.zeroTest)
      ∧ HeadFrame
          { s with
            result := { s.result with rejectRun := rejectRunAfter (chooseReason c.reasons) s } } t)
  ∧ (∀ (s : State) (c : CanContext),
    (s.cycle.station ≠ .run → exec .mkDischarge s = .next s)
    ∧ (s.cycle.station = .run → s.cycle.silenceOver = false → s.cycle.phase = .returning →
        exec .mkDischarge s = .next s)
    ∧ (s.cycle.station = .run → s.cycle.silenceOver = false → s.cycle.phase = .pass →
        exec .mkDischarge s = .next { s with cycle := { s.cycle with phase := .returning } })
    ∧ (s.context = some c → s.cycle.station = .run → s.cycle.silenceOver = false →
        s.cycle.phase = .crimp ∨ s.cycle.phase = .waitWindow ∨ s.cycle.phase = .gas
          ∨ s.cycle.phase = .check →
        s.result.queue.length < 8 → (∀ r ∈ c.reasons, reasonCode .markError < reasonCode r) →
        ∃ t, exec .mkDischarge s = .next t
          ∧ t.latched .markOrder = true ∧ t.cycle.phase = .returning ∧ t.context = none
          ∧ t.crimp.state = .idle ∧ t.gas.stage = .idle
          ∧ t.result.queue.take s.result.queue.length = s.result.queue
          ∧ t.result.queue.length = s.result.queue.length + 1
          ∧ t.result.queue.getLast?.map (fun r => (r.reason, r.cycle, r.sequence))
              = some (Reason.markError, c.cycle, s.result.sequence)
          ∧ HeadFrame
              { s with result := { s.result with rejectRun := rejectRunAfter .markError s } } t))

/-- For every closing of a context, its reason the first of its candidates and GOOD without one, and count and limit
those before it: GOOD sets the count to 0; NO_CAN, SKIPPED_ZERO, HEAD_STOPPED and HEAD_FAULTED leave it; any
other reason gives 0 with limit 0, one more where that stays below the limit, and 0 where it reaches the limit.
In that last case alone a clear REJECT_RUN is latched, ALERT_N formed anew and a STATUS placed; a latched one
stays, and in every other case the cells and ALERT_N stay. The record joins the queue all the same. At
MK_DISCHARGE in SEALED, in RUN, the count and the cells are those of the closing of the open context. -/
def Obligations.RejectRunCountsTheRejects : Prop :=
  ∀ (s : State) (c : CanContext), s.context = some c →
    let r := chooseReason c.reasons
    let t := closeContext s
    let n := s.result.rejectRun + 1
    let limit := s.params.rejectLimit
    let uncounted : Prop := r = .noCan ∨ r = .skippedZero ∨ r = .headStopped ∨ r = .headFaulted
    let counted : Prop := r ≠ .good ∧ ¬uncounted
    (r = .good → t.result.rejectRun = 0 ∧ t.fault = s.fault)
    ∧ (uncounted → t.result.rejectRun = s.result.rejectRun ∧ t.fault = s.fault)
    ∧ (counted → limit = 0 → t.result.rejectRun = 0 ∧ t.fault = s.fault)
    ∧ (counted → n < limit → t.result.rejectRun = n ∧ t.fault = s.fault)
    ∧ (counted → 1 ≤ limit → limit ≤ n → s.latched .rejectRun = true →
        t.result.rejectRun = 0 ∧ t.fault = s.fault)
    ∧ (counted → 1 ≤ limit → limit ≤ n → s.latched .rejectRun = false →
        t.result.rejectRun = 0 ∧ slotEmpty t.line.statusSlot = false
          ∧ t.fault =
              { s.fault with
                latched := latchCell .rejectRun s.fault.latched
                alert := alertOf (latchCell .rejectRun s.fault.latched) s.fault.enables })
    ∧ RecordJoins (buildRecord s c) s t
    ∧ (s.cycle.station = .run → s.cycle.phase = .sealed →
        ∃ u, exec .mkDischarge s = .next u
          ∧ u.result.rejectRun = t.result.rejectRun ∧ u.fault = t.fault)

/-- For every force and depth, clamped to 0..20,000 N and 0..8000 µm: in IDLE and DONE the sample changes nothing;
in SEAT a force of at least F_seat enters FORM and starts T_form, a lower one changes nothing, and neither
touches the peak; in DWELL the force enters the peak when it exceeds it, in the sequencer and in the crimp part,
and the depth is kept as the last read. Nothing else changes. In FORM the force F of a sample (clamped) first
enters the peak. F of at least F_max is an overforce: failure and outcome OVERFORCE, CRIMP_OVERFORCE, candidate
CRIMP_BAD, the final depth fixed at this sample's depth, RELEASE with T_rel started. A lower F with a depth of
at least D_target enters DWELL with T_dwell started, or, with T_dwell 0, RELEASE with the final depth at this
sample's depth. Otherwise the sequencer stays in FORM. Nothing else changes. -/
def Obligations.CrimpSampleSeatsAndForms : Prop :=
  (∀ (force depth : Int) (s : State),
    (s.crimp.state = .idle ∨ s.crimp.state = .done → exec (.crimpSample force depth) s = .next s)
    ∧ (s.crimp.state = .seat →
        exec (.crimpSample force depth) s =
          .next
            (if (s.params.seatForce : Int) ≤ max 0 (min 20000 force) then
              { s with crimp := { s.crimp with state := .form, timer := .form s.clock } }
            else s))
    ∧ (s.crimp.state = .dwell →
        exec (.crimpSample force depth) s =
          .next
            { s with
              crimp :=
                { s.crimp with
                  peak := max s.crimp.peak (max 0 (min 20000 force)).toNat
                  lastDepth := (max 0 (min 8000 depth)).toNat }
              context :=
                s.context.map
                  (fun c =>
                    { c with
                      crimp :=
                        c.crimp.map
                          (fun p =>
                            { p with
                              peak := max s.crimp.peak (max 0 (min 20000 force)).toNat }) }) }))
  ∧ (∀ (force depth : Int) (s : State) (c : CanContext) (p : CrimpPart),
    s.crimp.state = .form → s.context = some c → c.crimp = some p →
    let f := (max 0 (min 20000 force)).toNat
    let d := (max 0 (min 8000 depth)).toNat
    let peak := max s.crimp.peak f
    exec (.crimpSample force depth) s =
      .next
        (if s.params.maxForce ≤ f then
          { s with
            crimp :=
              { state := .release, peak := peak, finalDepth := d, failure := .overforce
                timer := .release s.clock, lastDepth := d }
            context :=
              some
                { c with
                  crimp := some { outcome := .overforce, peak := peak, depth := d }
                  reasons := insertReason .crimpBad c.reasons
                  conditions := setCondition .crimpOverforce c.conditions } }
        else if s.params.targetDepth ≤ d then
          if s.params.dwellTime = 0 then
            { s with
              crimp :=
                { s.crimp with
                  state := .release, peak := peak, finalDepth := d, timer := .release s.clock
                  lastDepth := d }
              context := some { c with crimp := some { p with peak := peak, depth := d } } }
          else
            { s with
              crimp :=
                { s.crimp with
                  state := .dwell, peak := peak, timer := .dwell s.clock, lastDepth := d }
              context := some { c with crimp := some { p with peak := peak } } }
        else
          { s with
            crimp := { s.crimp with peak := peak, lastDepth := d }
            context := some { c with crimp := some { p with peak := peak } } }))

/-- In RELEASE in phase CRIMP with a context whose crimp part is p: a sample deeper than D_open changes nothing. One
of at most D_open enters DONE with T_rel stopped. A crimp with a failure keeps it as its outcome; without one
the outcome is GOOD when the final depth lies in D_min..D_max and the peak in F_min..F_max, edges included, and
else WINDOW with CRIMP_WINDOW and candidate CRIMP_BAD. The phase becomes SEALED for a bad crimp or gas-close
taken; WAIT_WINDOW for a good one with neither mark taken; and for a good one with gas-open taken and gas-close
not, gassing starts: the gas part exists and VENT is off. -/
def Obligations.CrimpSampleInReleaseJudgesTheCrimp : Prop :=
  ∀ (force depth : Int) (s : State) (c : CanContext) (p : CrimpPart),
    s.crimp.state = .release → s.cycle.phase = .crimp → s.context = some c → c.crimp = some p →
    s.gas.stage = .idle →
    let inWindow : Bool :=
      decide (s.params.minDepth ≤ s.crimp.finalDepth ∧ s.crimp.finalDepth ≤ s.params.maxDepth
        ∧ s.params.minForce ≤ s.crimp.peak ∧ s.crimp.peak ≤ s.params.maxForce)
    let outcome : CrimpOutcome :=
      match s.crimp.failure with
      | .noSeat => .noSeat
      | .overforce => .overforce
      | .timeout => .timeout
      | .none => if inWindow then .good else .window
    let good : Bool := decide (s.crimp.failure = .none) && inWindow
    ((s.params.openDepth : Int) < max 0 (min 8000 depth) → exec (.crimpSample force depth) s = .next s)
    ∧ (max 0 (min 8000 depth) ≤ (s.params.openDepth : Int) →
        (good = false ∨ c.gasCloseTaken = true ∨ c.gasOpenTaken = false →
          exec (.crimpSample force depth) s =
            .next
              { s with
                crimp := { s.crimp with state := .done, timer := .stopped }
                cycle :=
                  { s.cycle with
                    phase :=
                      if good ∧ c.gasCloseTaken = false then .waitWindow else .sealed }
                context :=
                  some
                    { c with
                      crimp := some { p with outcome := outcome }
                      reasons :=
                        if outcome = .window then insertReason .crimpBad c.reasons else c.reasons
                      conditions :=
                        if outcome = .window then setCondition .crimpWindow c.conditions
                        else c.conditions } })
        ∧ (good = true ∧ c.gasCloseTaken = false ∧ c.gasOpenTaken = true →
            ∃ t, exec (.crimpSample force depth) s = .next t
              ∧ t.crimp = { s.crimp with state := .done, timer := .stopped }
              ∧ t.crimpPart = some { p with outcome := .good }
              ∧ t.ventOn = false ∧ t.gasOn = false
              ∧ t.gasPart.map (fun g => (g.mass, g.remainder, g.strikes, g.pulses))
                  = some (0, 0, s.params.strikes, [])
              ∧ t = { s with
                  context := t.context, cycle := { s.cycle with phase := t.cycle.phase }
                  crimp := t.crimp
                  gas :=
                    { s.gas with
                      stage := t.gas.stage, settleTimer := none, checkTimer := t.gas.checkTimer }
                  line := { s.line with openSlot := t.line.openSlot }
                  draw :=
                    { s.draw with
                      claim := t.draw.claim, requestHeld := t.draw.requestHeld } }))

/-- Each crimp timer acts once it has run to its limit in its own state. T_SEAT_EXPIRY in SEAT and T_FORM_EXPIRY in
FORM fail the crimp with NO_SEAT and TIMEOUT: failure, outcome, condition and candidate CRIMP_BAD written, the
final depth fixed at the last depth read, RELEASE entered with T_rel started; T_DWELL_EXPIRY in DWELL does the
last two, no failure written. Where its timer does not run, or before its limit, each changes nothing (R37; log
3, DESIGN CHOICE, is that the command can come there at all). Nothing else changes. T_REL_EXPIRY with T_rel not
running in RELEASE, or before its limit, changes nothing (R37; log 3). With T_rel at its limit in RELEASE the
outcome JAM with the peak and final depth held, CRIMP_BAD and the condition of an earlier failure are written
and T_rel stops: with CRIMP_JAM already latched (no run brings a crimp there) nothing else changes. In RUN with
CRIMP_JAM clear, a context with a crimp part and a queue that is not full, it latches CRIMP_JAM and asserts
ALERT_N, the station is FAULTED in RETURN with no context and no stop pending, both sequencers are in IDLE, the
silence timer stopped; the closed context's record joins the queue with reason HEAD_FAULTED, its cycle, that
condition, and the peak and final depth held. A FAULT slot that was empty holds a FAULT of CRIMP_JAM with the
own zone and the valve as GAS_FB shows it. What HeadFrame names stays. -/
def Obligations.CrimpTimersEndTheirStates : Prop :=
  (∀ (s : State) (since : Nat),
    let failed (f : CrimpFailure) (o : CrimpOutcome) (k : Condition) : State :=
      { s with
        crimp :=
          { s.crimp with
            state := .release, finalDepth := s.crimp.lastDepth, failure := f
            timer := .release s.clock }
        context :=
          s.context.map
            (fun c =>
              { c with
                crimp := c.crimp.map (fun p => { p with outcome := o, depth := s.crimp.lastDepth })
                reasons := insertReason .crimpBad c.reasons
                conditions := setCondition k c.conditions }) }
    let runOut (limit : Nat) : Prop := since + limit * 500 ≤ s.clock
    (s.crimp.state = .seat → s.crimp.timer = .seat since → runOut s.params.seatTime →
      exec .tSeatExpiry s = .next (failed .noSeat .noSeat .crimpNoSeat))
    ∧ (s.crimp.state = .form → s.crimp.timer = .form since → runOut s.params.formTime →
      exec .tFormExpiry s = .next (failed .timeout .timeout .crimpTimeout))
    ∧ (s.crimp.state = .dwell → s.crimp.timer = .dwell since → runOut s.params.dwellTime →
      exec .tDwellExpiry s =
        .next
          { s with
            crimp :=
              { s.crimp with
                state := .release, finalDepth := s.crimp.lastDepth, timer := .release s.clock }
            context :=
              s.context.map
                (fun c =>
                  { c with
                    crimp := c.crimp.map (fun p => { p with depth := s.crimp.lastDepth }) }) })
    ∧ (s.crimp.state ≠ .seat ∨ (∀ t, s.crimp.timer = .seat t → s.clock < t + s.params.seatTime * 500) →
      exec .tSeatExpiry s = .next s)
    ∧ (s.crimp.state ≠ .form ∨ (∀ t, s.crimp.timer = .form t → s.clock < t + s.params.formTime * 500) →
      exec .tFormExpiry s = .next s)
    ∧ (s.crimp.state ≠ .dwell
          ∨ (∀ t, s.crimp.timer = .dwell t → s.clock < t + s.params.dwellTime * 500) →
      exec .tDwellExpiry s = .next s))
  ∧ (∀ (s : State) (c : CanContext) (since : Nat),
    let flags (old : BitVec 16) : BitVec 16 :=
      match s.crimp.failure with
      | .none => old
      | .noSeat => setCondition .crimpNoSeat old
      | .overforce => setCondition .crimpOverforce old
      | .timeout => setCondition .crimpTimeout old
    (s.crimp.state ≠ .release
          ∨ (∀ t, s.crimp.timer = .release t → s.clock < t + s.params.releaseTime * 500) →
      exec .tRelExpiry s = .next s)
    ∧ (s.crimp.state = .release → s.crimp.timer = .release since →
        since + s.params.releaseTime * 500 ≤ s.clock →
        (s.latched .crimpJam = true →
          exec .tRelExpiry s =
            .next
              { s with
                crimp := { s.crimp with timer := .stopped }
                context :=
                  s.context.map
                    (fun c =>
                      { c with
                        crimp :=
                          c.crimp.map
                            (fun _ =>
                              { outcome := .jam, peak := s.crimp.peak, depth := s.crimp.finalDepth })
                        reasons := insertReason .crimpBad c.reasons
                        conditions := flags c.conditions }) })
        ∧ (s.context = some c → s.cycle.station = .run → s.latched .crimpJam = false →
          c.crimp.isSome = true → s.result.queue.length < 8 →
          ∃ t, exec .tRelExpiry s = .next t
            ∧ t.latched .crimpJam = true ∧ t.fault.alert = true
            ∧ t.cycle.station = .faulted ∧ t.cycle.phase = .returning ∧ t.context = none
            ∧ t.cycle.stopPending = false ∧ t.cycle.silence = none
            ∧ t.crimp.state = .idle ∧ t.crimp.timer = .stopped ∧ t.gas.stage = .idle
            ∧ t.result.queue = s.result.queue ++ t.result.queue.getLast?.toList
            ∧ t.result.queue.getLast?.map (fun r => (r.reason, r.cycle, r.conditions, r.peak, r.depth))
                = some (Reason.headFaulted, c.cycle, flags c.conditions, s.crimp.peak, s.crimp.finalDepth)
            ∧ (s.line.faultSlot.body = .empty →
                t.line.faultSlot.body =
                  .pending { cell := .crimpJam, zone := s.zoneByte, valveOpen := s.gasFb })
            ∧ HeadFrame s t)))

/-- SENSOR_TRANSACTION_END of a channel without a transaction in progress, one a reset dropped among them, changes
nothing (R38; log 3 that the command can come there). For every reply, at the end of a header transaction none
is in progress, and a reply whose start (as the transaction in progress holds it too) and stop were made, whose
address was acknowledged, whose bytes both arrived and whose top thirteen bits hold an even number of ones
stores its top twelve bits as the reading, makes the channel VALID and clears the miss count; every other reply
keeps the reading and adds a miss up to 3, and at 3 the channel is STALE. A change of validity places a STATUS,
and an entry to STALE is kept for the report after the sample. Nothing else changes. For every reply, taken as a
miss where the transaction's start could not be made, the end of a bell transaction gives the bell channel as a
header transaction gives the header's, and forms the sample from the readings then held: Ph the header reading +
101 and Pc the bell reading less the zero offset + 101, each clamped to 0..4095 with Pc's clamp marked, and the
two validities. The latest drive term is that of the sample when both channels are VALID in it, with the rate
floor(K f / 4096) outside LOADING; otherwise both are none. A header or bell channel newly STALE latches
HEADER_LOST or BELL_LOST, and without a lost channel the fault cells stay. A zeroing that goes on keeps the last
sixteen good readings. What HeadFrame names stays, the channel, the sample, the drive term and rate, the counts
of a pulse and the model's free counter apart. -/
def Obligations.TransactionsSetChannelsAndSamples : Prop :=
  (∀ (reply : SensorReply) (s : State) (begun : Nat) (made : Bool),
    let r : SensorReply := { reply with startMade := reply.startMade && made }
    let good : Bool :=
      r.startMade && r.stopMade && r.acknowledged && r.complete
        && decide (((List.range 13).countP (fun i => r.word.getLsbD (i + 3))) % 2 = 0)
    let after : ChannelState :=
      if good then { reading := r.word.extractLsb' 4 12, validity := .valid, misses := 0 }
      else
        { reading := s.sensor.header.reading
          validity :=
            if 2 ≤ s.sensor.header.misses then .stale else s.sensor.header.validity
          misses := min 3 (s.sensor.header.misses + 1) }
    (∀ ch, s.sensor.transaction.map (·.channel) ≠ some ch →
      exec (.sensorTransactionEnd ch reply) s = .next s)
    ∧ (s.sensor.transaction = some { channel := .header, since := begun, startMade := made } →
      exec (.sensorTransactionEnd .header reply) s =
        .next
          { s with
            sensor :=
              { s.sensor with
                transaction := none, header := after
                headerLostDue :=
                  s.sensor.headerLostDue
                    || decide (s.sensor.header.validity ≠ .stale ∧ after.validity = .stale) }
            line :=
              if s.sensor.header.validity = after.validity then s.line else statusPlaced s.line }))
  ∧ (∀ (reply : SensorReply) (s : State) (begun : Nat) (made : Bool),
    let r : SensorReply := { reply with startMade := reply.startMade && made }
    s.sensor.transaction = some { channel := .bell, since := begun, startMade := made } →
    let after := channelAfter r s.sensor.bell
    let pc : Int := (after.reading.toNat : Int) - s.sensor.zeroOffset + 101
    let lost : Prop := s.sensor.bell.validity ≠ .stale ∧ after.validity = .stale
    ∃ t, exec (.sensorTransactionEnd .bell reply) s = .next t
      ∧ t.sensor.bell = after ∧ t.sensor.header = s.sensor.header
      ∧ t.sensor.sample =
          { ph := min 4095 (s.sensor.header.reading.toNat + 101)
            pc := (max 0 (min 4095 pc)).toNat
            header := s.sensor.header.validity, bell := after.validity
            pcClamped := if pc < 0 then .low else if 4095 < pc then .high else .no }
      ∧ (s.sensor.header.validity = .valid ∧ after.validity = .valid →
          t.dose.drive = some (driveTerm t.sensor.sample.ph t.sensor.sample.pc)
            ∧ (s.cycle.station ≠ .loading →
                t.dose.rate =
                  some
                    (s.params.coefficient * driveTerm t.sensor.sample.ph t.sensor.sample.pc / 4096)))
      ∧ (¬(s.sensor.header.validity = .valid ∧ after.validity = .valid) →
          t.dose.drive = none ∧ t.dose.rate = none)
      ∧ (lost → t.latched .bellLost = true)
      ∧ (s.sensor.headerLostDue = true → t.latched .headerLost = true)
      ∧ t.sensor.headerLostDue = false
      ∧ (¬lost → s.sensor.headerLostDue = false → t.fault = s.fault)
      ∧ (t.sensor.zeroing ≠ .idle → s.sensor.zeroing = t.sensor.zeroing
          ∧ t.sensor.zeroSamples =
              if replyGood r then
                (s.sensor.zeroSamples ++ [after.reading]).drop (s.sensor.zeroSamples.length - 15)
              else s.sensor.zeroSamples)
      ∧ HeadFrame
          { s with
            freeCount := t.freeCount
            sensor :=
              { s.sensor with
                transaction := none, bell := after, sample := t.sensor.sample
                headerLostDue := false }
            dose :=
              { s.dose with
                drive := t.dose.drive, rate := t.dose.rate, elapsed := t.dose.elapsed
                credited := t.dose.credited } } t)

/-- In RUN in stage PULSE with the pulse running and a context whose gas part is g, header VALID with no loss due,
at the end of a bell transaction that leaves the bell VALID, by a good reply or a first or second miss (one
whose start could not be made among them): let f be the sample's drive term and S be K f plus the remainder.
When the elapsed count then stays short of the planned length and M short of Mt, elapsed rises by 1; with GAS_FB
open credited rises by 1, M becomes M + floor(S/4096) limited to 50,000,000 and the remainder S mod 4096, and
SAT is set when the limit is reached; with GAS_FB closed M and the remainder stay. A clamped Pc sets PC_CLAMPED.
The bell channel, the sample and a zeroing's list are as for every sample, a bell newly VALID places a STATUS,
and then the watermark test is made on the result (another statement says what it does; that it comes last is
log 12, DEDUCED, the model's choice). Nothing else changes, in the context or outside it. -/
def Obligations.PressureSampleCreditsTheRunningPulse : Prop :=
  ∀ (reply : SensorReply) (s : State) (c : CanContext) (g : GasPart) (begun : Nat) (made : Bool),
    let r : SensorReply := { reply with startMade := reply.startMade && made }
    s.sensor.transaction = some { channel := .bell, since := begun, startMade := made } →
    s.gas.stage = .pulse → s.cycle.station = .run → s.dose.running = true → s.context = some c →
    c.gas = some g → s.sensor.header.validity = .valid → s.sensor.headerLostDue = false →
    s.cycle.silenceOver = false → (channelAfter r s.sensor.bell).validity = .valid →
    let p := formSample { s.sensor with bell := channelAfter r s.sensor.bell }
    let f := driveTerm p.ph p.pc
    let sum := s.params.coefficient * f + g.remainder
    let mass := if s.gasFb then min 50000000 (g.mass + sum / 4096) else g.mass
    s.dose.elapsed + 1 ≠ s.dose.planned → mass < s.params.targetMass →
    exec (.sensorTransactionEnd .bell reply) s =
      .next
        (watermarkTest
          { s with
            dose :=
              { s.dose with
                drive := some f, rate := some (s.params.coefficient * f / 4096)
                elapsed := s.dose.elapsed + 1
                credited := if s.gasFb then s.dose.credited + 1 else s.dose.credited }
            context :=
              some
                { c with
                  gas :=
                    some
                      { g with
                        mass := mass, remainder := if s.gasFb then sum % 4096 else g.remainder }
                  conditions :=
                    (let flags :=
                      if p.pcClamped = .no then c.conditions
                      else setCondition .pcClamped c.conditions
                    if s.gasFb = true ∧ 50000000 ≤ g.mass + sum / 4096 then setCondition .sat flags
                    else flags) }
            sensor :=
              { s.sensor with
                transaction := none, bell := channelAfter r s.sensor.bell, sample := p
                zeroSamples :=
                  if s.sensor.zeroing = .idle ∨ replyGood r = false then s.sensor.zeroSamples
                  else
                    (s.sensor.zeroSamples ++ [r.word.extractLsb' 4 12]).drop
                      (s.sensor.zeroSamples.length - 15) }
            line :=
              if s.sensor.bell.validity = .valid then s.line else statusPlaced s.line })

/-- As in the crediting statement, but the sample brings the elapsed count to the planned length or M to Mt, with p
the newest pulse. With GAS_FB open the sample is credited, with it closed M, remainder and credited count stay.
GAS goes off; the pulse entry gets the credited count and the sample's Pc, the elapsed count is the last open
count, no feedback window runs and a driven SELF is closing at 10. When Pc rose by at least dPmin and feedback
was seen the pulse is GOOD, the credits stay and the stage is SETTLE. Otherwise it is DEAD: M and remainder
return to the pulse's start, strikes remaining falls by 1 and STRIKE is set; with strikes left the stage is
SETTLE, without it is ENDED with no timer of a stage running and a pocket in GAS goes to SEALED, with
STEM_BLOCKED when feedback was seen and VALVE_FAULT when not, and HIGH_DOSE when the restored M exceeds Mt +
Mtol. With GAS_FB open the close window starts. With GAS_FB closed the valve is reported closed at once: no
close window, SELF removed (a stuck one with a STATUS), a SHUT of the elapsed count placed, and in SETTLE the
settle timer starts, or with T_settle 0 PLAN is entered and the plan's decision made. The watermark test comes
last (log 12, DEDUCED, the model's choice). Nothing else changes. -/
def Obligations.PulseEndsAndIsJudgedAtItsReport : Prop :=
  ∀ (reply : SensorReply) (s : State) (c : CanContext) (g : GasPart) (p : Pulse) (begun : Nat) (made : Bool),
    let r : SensorReply := { reply with startMade := reply.startMade && made }
    s.sensor.transaction = some { channel := .bell, since := begun, startMade := made } →
    s.gas.stage = .pulse → s.cycle.station = .run → s.dose.running = true →
    s.context = some c → c.gas = some g → g.pulses.getLast? = some p →
    s.sensor.header.validity = .valid → s.sensor.headerLostDue = false →
    s.cycle.silenceOver = false → (channelAfter r s.sensor.bell).validity = .valid →
    let q := formSample { s.sensor with bell := channelAfter r s.sensor.bell }
    let f := driveTerm q.ph q.pc
    let sum := s.params.coefficient * f + g.remainder
    let mass := if s.gasFb then min 50000000 (g.mass + sum / 4096) else g.mass
    let credited := if s.gasFb then s.dose.credited + 1 else s.dose.credited
    s.dose.elapsed + 1 = s.dose.planned ∨ s.params.targetMass ≤ mass →
    let dead : Bool := decide (q.pc < p.pcAtStart + s.params.leastRise) || !s.gas.feedbackSeen
    let givenUp : Bool := dead && decide (g.strikes ≤ 1)
    let part : GasPart :=
      { g with
        mass := if dead then s.dose.massAtStart else mass
        remainder :=
          if dead then s.dose.remainderAtStart
          else if s.gasFb then sum % 4096
          else g.remainder
        strikes := if dead then g.strikes - 1 else g.strikes
        pulses :=
          g.pulses.dropLast ++
            [{ p with
               credited := some credited, pcAtEnd := some q.pc
               outcome := some (if dead then .dead else .good) }] }
    let flags : BitVec 16 :=
      let clamped :=
        if q.pcClamped = .no then c.conditions else setCondition .pcClamped c.conditions
      let full :=
        if s.gasFb = true ∧ 50000000 ≤ g.mass + sum / 4096 then setCondition .sat clamped else clamped
      if dead then setCondition .strike full else full
    let reasons : List Reason :=
      let blamed :=
        insertReason (if s.gas.feedbackSeen then .stemBlocked else .valveFault) c.reasons
      if givenUp then
        if s.params.targetMass + s.params.tolerance < s.dose.massAtStart then
          insertReason .highDose blamed
        else blamed
      else c.reasons
    let ended : State :=
      { s with
        context := some { c with gas := some part, conditions := flags, reasons := reasons }
        cycle :=
          { s.cycle with
            phase := if givenUp ∧ s.cycle.phase = .gas then .sealed else s.cycle.phase }
        dose :=
          { s.dose with
            drive := some f, rate := some (s.params.coefficient * f / 4096), running := false
            elapsed := s.dose.elapsed + 1, credited := credited }
        gas :=
          { s.gas with
            stage := if givenUp then .ended else .settle
            feedbackWindow := none, closeWindow := some s.clock, lastOpen := s.dose.elapsed + 1
            settleTimer := if givenUp then none else s.gas.settleTimer
            checkTimer := if givenUp then none else s.gas.checkTimer }
        sensor :=
          { s.sensor with
            transaction := none, bell := channelAfter r s.sensor.bell, sample := q
            zeroSamples :=
              if s.sensor.zeroing = .idle ∨ replyGood r = false then s.sensor.zeroSamples
              else
                (s.sensor.zeroSamples ++ [r.word.extractLsb' 4 12]).drop
                  (s.sensor.zeroSamples.length - 15) }
        line := if s.sensor.bell.validity = .valid then s.line else statusPlaced s.line
        draw :=
          { s.draw with
            self := if s.draw.self = some .driven then some (.closing 10) else s.draw.self } }
    let shut (gas : GasUnit) : State :=
      { ended with
        gas := { gas with closeWindow := none }
        draw := { s.draw with self := none }
        line :=
          (if s.draw.self = some .stuck then statusPlaced else id)
            { ended.line with
              shutSlot :=
                slotPlace { zone := s.zoneByte, samples := s.dose.elapsed + 1 } s.line.shutSlot } }
    ∃ t, exec (.sensorTransactionEnd .bell reply) s = .next t
      ∧ t.gasOn = false ∧ t.dose.running = false ∧ t.gas.lastOpen = s.dose.elapsed + 1
      ∧ (s.gasFb = true → t = watermarkTest ended)
      ∧ (s.gasFb = false → givenUp = true → t = watermarkTest (shut ended.gas))
      ∧ (s.gasFb = false → givenUp = false → s.params.settleTime ≠ 0 →
          t = watermarkTest (shut { ended.gas with settleTimer := some s.clock }))
      ∧ (s.gasFb = false → givenUp = false → s.params.settleTime = 0 →
          t = watermarkTest (decideInPlan (shut { ended.gas with stage := .plan, settleTimer := none })))

/-- In RUN with a context open, the end of a bell transaction in stage PLAN, CLAIM, PULSE or SETTLE after which
either channel is not VALID, or in CHECK after which the bell is not VALID, drives GAS off. When no channel is
newly STALE and no loss is due, the stage is ENDED with no timer of a stage running, SENSOR_LOST is among the
candidates, the phase, the station and the cells stay, and no WINDOW_CUT is set; in PULSE the newest pulse is
CUT, in CHECK the verdict is CUT, the other figures of the check as they were, and in any other stage the check
part stays. When the bell is newly STALE with BELL_LOST clear, or the header's entry to STALE is due for report
with HEADER_LOST clear (the worked case of section 3.6), the cell is latched and the station is FAULTED in
RETURN with no context and the sequencer in IDLE; the context's record, with a queue that is not full, has
reason HEAD_FAULTED. What HeadFrame names stays, but for the bell channel, the sample, its drive term and rate
and the pulse's counts. In CHECK with the bell VALID, a header that is not VALID and no loss due, the check goes
on: sequencer, station and phase, cells and check part stay. A reply of a transaction whose start could not be
made is a miss. -/
def Obligations.LostChannelEndsGassing : Prop :=
  (∀ (reply : SensorReply) (s : State) (c : CanContext) (begun : Nat) (made : Bool),
    let r : SensorReply := { reply with startMade := reply.startMade && made }
    s.sensor.transaction = some { channel := .bell, since := begun, startMade := made } →
    s.cycle.station = .run → s.context = some c → s.cycle.silenceOver = false →
    let after := channelAfter r s.sensor.bell
    (gassingStage s.gas.stage ∧ ¬(s.sensor.header.validity = .valid ∧ after.validity = .valid))
      ∨ (s.gas.stage = .check ∧ after.validity ≠ .valid) →
    let bellLost : Prop :=
      s.sensor.bell.validity ≠ .stale ∧ after.validity = .stale ∧ s.latched .bellLost = false
    let headerLost : Prop := s.sensor.headerLostDue = true ∧ s.latched .headerLost = false
    ∃ t, exec (.sensorTransactionEnd .bell reply) s = .next t
      ∧ t.gasOn = false
      ∧ (s.sensor.headerLostDue = false →
          ¬(s.sensor.bell.validity ≠ .stale ∧ after.validity = .stale) →
          t.gas.stage = .ended ∧ t.gas.settleTimer = none ∧ t.gas.checkTimer = none
            ∧ t.cycle = s.cycle ∧ t.fault = s.fault
            ∧ t.context.map (fun d => decide (Reason.sensorLost ∈ d.reasons)) = some true
            ∧ t.context.map (hasCondition .windowCut ·.conditions)
                = some (hasCondition .windowCut c.conditions)
            ∧ t.context.map (·.check) =
                some
                  (if s.gas.stage = .check then c.check.map (fun k => { k with verdict := .cut })
                  else c.check)
            ∧ (s.gas.stage = .pulse →
                t.pulses.getLast?.map (·.outcome)
                  = s.pulses.getLast?.map (fun _ => some PulseOutcome.cut)))
      ∧ (bellLost → t.latched .bellLost = true)
      ∧ (headerLost → t.latched .headerLost = true)
      ∧ (bellLost ∨ headerLost →
          t.cycle.station = .faulted ∧ t.cycle.phase = .returning ∧ t.context = none
            ∧ t.gas.stage = .idle)
      ∧ (bellLost ∨ headerLost → s.result.queue.length < 8 →
          (t.result.queue.getLast?).map (fun d => (d.reason, d.cycle)) = some (.headFaulted, c.cycle))
      ∧ HeadFrame
          { s with
            sensor :=
              { s.sensor with
                transaction := none, bell := after, sample := t.sensor.sample
                headerLostDue := false }
            dose :=
              { s.dose with
                drive := none, rate := none, elapsed := t.dose.elapsed
                credited := t.dose.credited } } t)
  ∧ (∀ (reply : SensorReply) (s : State) (c : CanContext) (begun : Nat) (made : Bool),
    s.sensor.transaction = some { channel := .bell, since := begun, startMade := made } →
    s.cycle.station = .run → s.context = some c → s.cycle.silenceOver = false →
    s.gas.stage = .check → s.sensor.headerLostDue = false → s.sensor.header.validity ≠ .valid →
    (channelAfter { reply with startMade := reply.startMade && made } s.sensor.bell).validity = .valid →
    ∃ t, exec (.sensorTransactionEnd .bell reply) s = .next t
      ∧ t.gas = s.gas ∧ t.cycle = s.cycle ∧ t.fault = s.fault ∧ t.dose.drive = none
      ∧ t.context.map (fun d => (d.check, d.reasons)) = some (c.check, c.reasons))

/-- At the end of a bell transaction with a context c open, whatever the station state and the reply: PC_CLAMPED is
set afterwards just when it was set or c has a gas part, the bell is VALID after the transaction and its reading
less the zero offset plus 101 lies below 0 or above 4095. In stage CLAIM, HOLD_WAIT is set afterwards just when
it was set or the hold table holds an entry, at a sample that ends gassing by a lost channel too: the hold table
as it stood before the sample, since in the model the Gas Sequencer takes the sample before the Hold Unit may
make or drop the own entry at it (log 12, DEDUCED: the model's reading, not the spec's words). Both are read in
the open context, or, where the sample's lost channel closes it, in the record it closed into. -/
def Obligations.SamplesMarkTheOpenContext : Prop :=
  ∀ (reply : SensorReply) (s : State) (c : CanContext) (begun : Nat) (made : Bool),
    let r : SensorReply := { reply with startMade := reply.startMade && made }
    s.sensor.transaction = some { channel := .bell, since := begun, startMade := made } → s.context = some c →
    let after := channelAfter r s.sensor.bell
    let pc : Int := (after.reading.toNat : Int) - s.sensor.zeroOffset + 101
    let clamped : Bool :=
      c.gas.isSome && decide (after.validity = .valid) && (decide (pc < 0) || decide (4095 < pc))
    ∃ t, exec (.sensorTransactionEnd .bell reply) s = .next t
      ∧ (let flags : Option (BitVec 16) :=
          match t.context with
          | some d => some d.conditions
          | none => t.result.queue.getLast?.map (·.conditions)
        flags.map (hasCondition .pcClamped ·) = some (hasCondition .pcClamped c.conditions || clamped)
          ∧ (s.gas.stage = .claim →
              flags.map (hasCondition .holdWait ·) =
                some (hasCondition .holdWait c.conditions || !s.hold.table.isEmpty)))

/-- ZEROING_TIMER_EXPIRY with no zeroing running, or before the running one has reached Tz, as when an abandoned
zeroing left it behind, changes nothing (R52; log 3, DESIGN CHOICE, that the command can come there). With one
at its Tz and the silence limit not reached, the grant ends and the zeroing is IDLE with its list empty (log
28). With fewer than 16 readings nothing else changes. With 16 the zero offset is floor(sum/16), at most 200,
and the zero debt falls by 1, not below 0; a mean above 200 latches ZERO_DRIFT where it is clear, ALERT_N is
formed anew (R189) and the other cells and the enables stay; a STATUS is placed when the offset or the debt
changed or ZERO_DRIFT was latched. Nothing else changes. ZEROING_TEST 20 ms or more after the discharge at d
whose test is pending ends the pending test and grants the time, with a zeroing begun and its list cleared, just
when the station is in RUN and RETURN, VENT has been on since d, the debt is 1 or more, a period and a reference
are held, and period minus (d minus reference) minus 20 ms is at least Tz + 10 ms. That this remaining return
arc is compared in clock ticks, without rounding, is the MODEL'S CHOICE (log 23, DESIGN CHOICE).
GRANT_VENT_WAIT_EXPIRY makes a waiting grant granted, with a zeroing begun, once VENT has been on for 20 ms.
Without a pending test or a waiting grant, or earlier, each changes nothing (log 3, the model's choice). -/
def Obligations.ZeroingTimeIsGrantedAndEnds : Prop :=
  (∀ (s : State) (since : Nat),
    let ends : Prop :=
      s.sensor.zeroing = .collecting since ∧ since + s.params.zeroingTime * 500 ≤ s.clock
        ∧ s.cycle.silenceOver = false
    (s.sensor.zeroing = .idle → exec .zeroingTimerExpiry s = .next s)
    ∧ (s.sensor.zeroing = .collecting since → s.clock < since + s.params.zeroingTime * 500 →
        exec .zeroingTimerExpiry s = .next s)
    ∧ (ends → s.sensor.zeroSamples.length < 16 →
        exec .zeroingTimerExpiry s =
          .next
            { s with
              cycle := { s.cycle with grant := .none }
              sensor := { s.sensor with zeroing := .idle, zeroSamples := [] } })
    ∧ (ends → s.sensor.zeroSamples.length = 16 →
        let mean := (s.sensor.zeroSamples.map BitVec.toNat).sum / 16
        let drift : Prop := 200 < mean ∧ s.latched .zeroDrift = false
        ∃ t, exec .zeroingTimerExpiry s = .next t
          ∧ t = { s with
              cycle := { s.cycle with grant := .none }
              sensor :=
                { s.sensor with
                  zeroing := .idle, zeroSamples := [], zeroOffset := min 200 mean
                  zeroDebt := s.sensor.zeroDebt - 1 }
              line := t.line, fault := t.fault }
          ∧ (drift →
              t.latched .zeroDrift = true ∧ t.line = statusPlaced s.line
                ∧ (∀ k : Cell, k ≠ .zeroDrift → t.latched k = s.latched k)
                ∧ t.fault =
                    { latched := s.fault.latched ||| 128, enables := s.fault.enables
                      alert := alertOf (s.fault.latched ||| 128) s.fault.enables })
          ∧ (¬drift → t.fault = s.fault
              ∧ t.line =
                  if min 200 mean = s.sensor.zeroOffset ∧ s.sensor.zeroDebt = 0 then s.line
                  else statusPlaced s.line)))
  ∧ (∀ (s : State) (d : Nat),
    let granted (u : State) : State :=
      { u with
        cycle := { u.cycle with grant := .granted }
        sensor := { u.sensor with zeroing := .collecting u.clock, zeroSamples := [] } }
    (s.cycle.zeroTest = none → exec .zeroingTest s = .next s)
    ∧ (s.cycle.zeroTest = some d → s.clock < d + 20 * 500 → exec .zeroingTest s = .next s)
    ∧ (s.cycle.zeroTest = some d → d + 20 * 500 ≤ s.clock →
        let ended : State := { s with cycle := { s.cycle with zeroTest := none } }
        let passes : Prop :=
          s.cycle.station = .run ∧ s.cycle.phase = .returning ∧ s.gas.stage = .idle
            ∧ s.gas.ventSince ≤ d ∧ 1 ≤ s.sensor.zeroDebt
            ∧ (match s.cycle.period, s.cycle.infeedRef with
                | some period, some infeed =>
                  decide
                    (((s.params.zeroingTime : Int) + 10) * 500
                      ≤ (period : Int) * 500 - ((d - infeed : Nat) : Int) - 20 * 500)
                | _, _ => false) = true
        (passes → exec .zeroingTest s = .next (granted ended))
          ∧ (¬passes → exec .zeroingTest s = .next ended))
    ∧ exec .grantVentWaitExpiry s =
        .next
          (if s.cycle.grant = .waitingForVent ∧ s.gas.stage = .idle
              ∧ s.gas.ventSince + 20 * 500 ≤ s.clock then granted s
          else s))

/-- In RUN with the silence timer at its limit (twice the period, 2000 ms without one) SILENCE_LIMIT moves the
station to PARKED when the phase is RETURN with no grant, no SELF entry is held, the OPEN, SHUT and HOLD slots
are empty and the own assertion is NOT_ASSERTED: SLOW scan, silence timer stopped, a STATUS placed, nothing else
but the model's two bookkeeping fields of log 22. Otherwise the station stays and only the limit is noted as
reached (log 22). LOADING_STATUS_TIMER places a STATUS in LOADING at each whole number of 500 ms since the
entry. Outside RUN or LOADING, with the silence timer stopped, or at another time each changes nothing (log 3,
the model's choice). Let the silence limit stand reached in RUN with a park condition false (and no claim stage
in phase RETURN, which no run reaches). For every command but RESET, MK_INFEED and SILENCE_LIMIT, with u the
state the command leaves when the limit is not reached (the other statements say what that is): where u is in
RUN and meets the four park conditions the head is PARKED, as at the limit itself; where u is in RUN and one
fails, the limit still stands reached and nothing else differs from u; where the command took the station out of
RUN the result is u. So it is at the end of a bell transaction, of a zeroing, of an attempt or an abort mark, at
a discharge, a valve seen closed and a hold countdown. The mark of the limit is the model's (log 22). -/
def Obligations.SilenceParksAnIdleHead : Prop :=
  (∀ (s : State) (since : Nat),
    let limit : Nat := (match s.cycle.period with | some p => 2 * p | none => 2000) * 500
    let atLimit : Prop :=
      s.cycle.station = .run ∧ s.cycle.silence = some since ∧ since + limit ≤ s.clock
    (s.cycle.station ≠ .run ∨ s.cycle.silence = none → exec .silenceLimit s = .next s)
    ∧ (s.cycle.silence = some since → s.clock < since + limit → exec .silenceLimit s = .next s)
    ∧ (atLimit → ParkConditions s → exec .silenceLimit s = .next (parkedFrom s))
    ∧ (atLimit → ¬ParkConditions s →
        exec .silenceLimit s = .next { s with cycle := { s.cycle with silenceOver := true } })
    ∧ (let whole : Prop :=
          s.cycle.station = .loading ∧ s.cycle.loadingSince < s.clock
            ∧ (s.clock - s.cycle.loadingSince) % (500 * 500) = 0
      (whole → exec .loadingStatusTimer s = .next { s with line := statusPlaced s.line })
        ∧ (¬whole → exec .loadingStatusTimer s = .next s)))
  ∧ (∀ (c : Instr) (s : State), s.cycle.station = .run → s.cycle.silenceOver = true →
    ¬ParkConditions s → (s.gas.stage = .claim → s.cycle.phase ≠ .returning) →
    (∀ straps, c ≠ .reset straps) → (∀ b, c ≠ .mkInfeed b) → c ≠ .silenceLimit →
    ∀ u, exec c { s with cycle := { s.cycle with silenceOver := false } } = .next u →
      (u.cycle.station = .run → ParkConditions u → exec c s = .next (parkedFrom u))
        ∧ (u.cycle.station = .run → ¬ParkConditions u →
            exec c s = .next { u with cycle := { u.cycle with silenceOver := true } })
        ∧ (u.cycle.station ≠ .run → exec c s = .next u))

/-- FEEDBACK_WINDOW_LAPSE at 5 ms of the feedback window ends it and changes nothing else; with no window running,
or earlier, it changes nothing (log 3, the model's choice). GAS_FB_OPENS sets the pin. In a pulse it also ends a
running window with feedback seen, and after the window nothing more. With GAS off it does nothing more while
the close window runs or the stuck episode is already known. The stuck report is another statement's. -/
def Obligations.FeedbackIsSeenInsideItsWindow : Prop :=
  ∀ (s : State) (since : Nat),
    (s.gas.feedbackWindow = some since → since + 5 * 500 ≤ s.clock →
      exec .feedbackWindowLapse s = .next { s with gas := { s.gas with feedbackWindow := none } })
    ∧ ((∀ t, s.gas.feedbackWindow = some t → s.clock < t + 5 * 500) →
        exec .feedbackWindowLapse s = .next s)
    ∧ (s.gas.stage = .pulse →
        exec .gasFbOpens s =
          .next
            { s with
              gasFb := true
              gas :=
                { s.gas with
                  feedbackWindow := none
                  feedbackSeen := s.gas.feedbackSeen || s.gas.feedbackWindow.isSome } })
    ∧ (s.gas.stage ≠ .pulse → s.gas.closeWindow ≠ none ∨ s.gas.stuckEpisode = true →
        exec .gasFbOpens s = .next { s with gasFb := true })

/-- CLOSE_WINDOW_EXPIRY with no window running, or before its 5 ms, changes nothing (log 3, the model's choice). At
5 ms with GAS_FB closed, or with GAS on (log 36, the model's choice: no run keeps a window then), it only ends
the window. Let the valve be found open with GAS off and no episode known, by GAS_FB_OPENS with no close window
or by a window's end: the episode begins, no close window runs, GAS_FB shows open, VALVE_STUCK is latched, and a
FAULT of it with the valve open and the own zone (255 in LOADING) is placed. LOADING stays and makes no SELF
entry. Elsewhere a clear cell leaves the station FAULTED with the SELF entry stuck and ALERT_N asserted; a cell
already latched keeps station and cells, with SELF stuck but for a PARKED head that held none. What HeadFrame
names stays, the pin and the episode apart. With the silence limit not reached, GAS_FB_CLOSES with neither a
close window nor a stuck episode only sets the pin. With a close window running it ends the window; with none
but a stuck episode it ends the episode, the cell staying latched. In both cases SELF is removed, and outside
LOADING a SHUT with the last open count is placed. In SETTLE with a running close window the settle timer
starts, or with T_settle 0 the stage is PLAN and the plan's decision follows. A removed stuck entry places a
STATUS, as does the end of an episode in LOADING. Nothing else changes. -/
def Obligations.ValveMovesWithGasOff : Prop :=
  (∀ (s : State) (c : Instr) (since : Nat),
    let runOut : Prop := s.gas.closeWindow = some since ∧ since + 5 * 500 ≤ s.clock
    ((∀ t, s.gas.closeWindow = some t → s.clock < t + 5 * 500) →
      exec .closeWindowExpiry s = .next s)
    ∧ (runOut → s.gasFb = false ∨ s.gas.stage = .pulse →
        exec .closeWindowExpiry s = .next { s with gas := { s.gas with closeWindow := none } })
    ∧ ((c = .gasFbOpens ∧ s.gas.closeWindow = none)
          ∨ (c = .closeWindowExpiry ∧ runOut ∧ s.gasFb = true) →
        s.gas.stage ≠ .pulse → s.gas.stuckEpisode = false →
        ∃ t, exec c s = .next t
          ∧ t.gas.stuckEpisode = true ∧ t.gas.closeWindow = none ∧ t.gasFb = true
          ∧ t.gasOn = false ∧ t.latched .valveStuck = true
          ∧ t.line.faultSlot =
              faultPlace { cell := .valveStuck, zone := s.zoneByte, valveOpen := true }
                s.line.faultSlot
          ∧ (s.cycle.station = .loading → s.draw.self = none →
              t.cycle.station = .loading ∧ t.draw.self = none)
          ∧ (s.cycle.station ≠ .loading → s.latched .valveStuck = false →
              t.cycle.station = .faulted ∧ t.draw.self = some .stuck)
          ∧ (s.cycle.station ≠ .loading → s.latched .valveStuck = true →
              t.cycle = s.cycle ∧ t.fault = s.fault
                ∧ t.draw.self =
                    if s.cycle.station = .parked ∧ s.draw.self = none then none else some .stuck)
          ∧ (s.latched .valveStuck = false → t.fault.alert = true)
          ∧ HeadFrame
              { s with gasFb := true, gas := { s.gas with stuckEpisode := true } } t))
  ∧ (∀ s : State, s.cycle.silenceOver = false →
    let closed (u : State) : State :=
      { u with
        gasFb := false
        draw := { u.draw with self := none }
        line :=
          (if u.draw.self = some .stuck then statusPlaced else id)
            (if u.cycle.station = .loading then u.line
            else
              { u.line with
                shutSlot :=
                  slotPlace { zone := u.zoneByte, samples := u.gas.lastOpen } u.line.shutSlot }) }
    (s.gas.closeWindow = none → s.gas.stuckEpisode = false →
      exec .gasFbCloses s = .next { s with gasFb := false })
    ∧ (s.gas.closeWindow ≠ none → s.gas.stage ≠ .settle →
        exec .gasFbCloses s =
          .next (closed { s with gas := { s.gas with closeWindow := none } }))
    ∧ (s.gas.closeWindow ≠ none → s.gas.stage = .settle → s.params.settleTime ≠ 0 →
        exec .gasFbCloses s =
          .next
            (closed
              { s with gas := { s.gas with closeWindow := none, settleTimer := some s.clock } }))
    ∧ (s.gas.closeWindow ≠ none → s.gas.stage = .settle → s.params.settleTime = 0 →
        exec .gasFbCloses s =
          .next
            (decideInPlan
              (closed
                { s with
                  gas := { s.gas with closeWindow := none, stage := .plan, settleTimer := none } })))
    ∧ (s.gas.closeWindow = none → s.gas.stuckEpisode = true →
        exec .gasFbCloses s =
          .next
            (let u := closed { s with gas := { s.gas with stuckEpisode := false } }
            if s.cycle.station = .loading then { u with line := statusPlaced u.line } else u)))

/-- At each bell transaction that ends in PLAN with both channels VALID after it, outside LOADING with no loss due,
the decision below is made on the state with the new bell channel and sample, its drive term and rate,
PC_CLAMPED set when its Pc was clamped and a zeroing's list; then the watermark test is made (after the decision
by log 12, DEDUCED, the model's choice). SETTLE_TIMER_EXPIRY outside SETTLE, without a running timer or before
T_settle of it changes nothing (log 3, the model's choice); in SETTLE, at or after T_settle, it enters PLAN and
makes the decision below. The decision with a context whose gas part is g: M + Mtol at least Mt ends gassing
(ENDED, phase GAS to SEALED, HIGH_DOSE when M exceeds Mt + Mtol) or, with a check interval, starts the check
(CHECK, the check part PENDING from the latest Pc, the check timer). Else at the pulse limit LOW_DOSE and
MAX_PULSES end gassing, NO_DRIVE set too when the rate is 0. Else without a reading nothing changes. Else a hold
sets HOLD_WAIT and keeps PLAN, and a rate of 0 sets NO_DRIVE and keeps PLAN. Else CLAIM is entered with a claim
request. Outside stage CHECK, without a running timer or before its check interval, CHECK_TIMER_EXPIRY changes
nothing (log 3, the model's choice). In CHECK, at or after the interval, with a context of gas part g and check
part k, it writes the latest Pc as the Pc at end and the verdict: LEAK when Pc at start exceeds it by more than
dPleak or when a Pc at entry is present and not exceeded, else TIGHT; LEAK becomes a candidate. The stage is
ENDED with no timer running and a pocket in CHECK goes to SEALED. Nothing else changes but HIGH_DOSE by M. -/
def Obligations.PlanAndCheckDecideGassing : Prop :=
  (∀ (s : State) (c : CanContext) (g : GasPart), s.context = some c → c.gas = some g →
    let cond (k : Condition) (b : Bool) (flags : BitVec 16) : BitVec 16 :=
      if b then setCondition k flags else flags
    let high : List Reason :=
      if s.params.targetMass + s.params.tolerance < g.mass then insertReason .highDose c.reasons
      else c.reasons
    let toPhase (p : Phase) : CycleUnit :=
      { s.cycle with phase := if s.cycle.phase = .gas then p else s.cycle.phase }
    let complete : Prop := s.params.targetMass ≤ g.mass + s.params.tolerance
    let limit : Prop := s.params.maxPulses ≤ g.pulses.length
    let noDrive : Bool := decide (s.dose.drive ≠ none ∧ s.dose.rate = some 0)
    let held : Bool := decide (s.hold.table ≠ [])
    (s.gas.stage ≠ .settle ∨ s.gas.settleTimer = none → exec .settleTimerExpiry s = .next s)
    ∧ (∀ since, s.gas.settleTimer = some since → s.clock < since + s.params.settleTime * 500 →
        exec .settleTimerExpiry s = .next s)
    ∧ (∀ since, s.gas.stage = .settle → s.gas.settleTimer = some since →
        since + s.params.settleTime * 500 ≤ s.clock →
        exec .settleTimerExpiry s =
          .next
            (decideInPlan { s with gas := { s.gas with stage := .plan, settleTimer := none } }))
    ∧ (complete → s.params.checkInterval = 0 →
        decideInPlan s =
          { s with
            context := some { c with reasons := high }
            cycle := toPhase .sealed
            gas := { s.gas with stage := .ended, settleTimer := none, checkTimer := none } })
    ∧ (complete → s.params.checkInterval ≠ 0 →
        decideInPlan s =
          { s with
            context :=
              some
                { c with
                  reasons := high
                  check :=
                    some { pcAtStart := s.sensor.sample.pc, pcAtEnd := none, verdict := .pending } }
            cycle := toPhase .check
            gas := { s.gas with stage := .check, settleTimer := none, checkTimer := some s.clock } })
    ∧ (¬complete → limit →
        decideInPlan s =
          { s with
            context :=
              some
                { c with
                  reasons := insertReason .lowDose c.reasons
                  conditions := setCondition .maxPulses (cond .noDrive noDrive c.conditions) }
            cycle := toPhase .sealed
            gas := { s.gas with stage := .ended, settleTimer := none, checkTimer := none } })
    ∧ (¬complete → ¬limit → (s.dose.drive = none ∨ s.dose.rate = none) → decideInPlan s = s)
    ∧ (¬complete → ¬limit → s.dose.drive ≠ none → s.dose.rate ≠ none →
        held = true ∨ noDrive = true →
        decideInPlan s =
          { s with
            context :=
              some
                { c with
                  conditions :=
                    cond .holdWait held (cond .noDrive noDrive c.conditions) } })
    ∧ (¬complete → ¬limit → s.dose.drive ≠ none → s.dose.rate ≠ none → held = false →
        noDrive = false →
        decideInPlan s = requestClaim { s with gas := { s.gas with stage := .claim } })
    ∧ (∀ (reply : SensorReply) (begun : Nat) (made : Bool),
      let r : SensorReply := { reply with startMade := reply.startMade && made }
      let bell := channelAfter r s.sensor.bell
      let p := formSample { s.sensor with bell := bell }
      let f := driveTerm p.ph p.pc
      s.sensor.transaction = some { channel := .bell, since := begun, startMade := made } →
      s.gas.stage = .plan → s.cycle.station ≠ .loading → s.cycle.silenceOver = false →
      s.sensor.headerLostDue = false → s.sensor.header.validity = .valid → bell.validity = .valid →
      exec (.sensorTransactionEnd .bell reply) s =
        .next
          (watermarkTest
            (decideInPlan
              { s with
                context :=
                  some
                    { c with
                      conditions := cond .pcClamped (decide (p.pcClamped ≠ .no)) c.conditions }
                dose :=
                  { s.dose with
                    drive := some f, rate := some (s.params.coefficient * f / 4096)
                    elapsed := if s.dose.running then s.dose.elapsed + 1 else s.dose.elapsed }
                sensor :=
                  { s.sensor with
                    transaction := none, bell := bell, sample := p
                    zeroSamples :=
                      if s.sensor.zeroing = .idle ∨ replyGood r = false then s.sensor.zeroSamples
                      else
                        (s.sensor.zeroSamples ++ [r.word.extractLsb' 4 12]).drop
                          (s.sensor.zeroSamples.length - 15) }
                line := if s.sensor.bell.validity = .valid then s.line else statusPlaced s.line }))))
  ∧ (∀ (s : State) (c : CanContext) (g : GasPart) (k : CheckPart) (since : Nat),
    (s.gas.stage ≠ .check ∨ s.gas.checkTimer = none → exec .checkTimerExpiry s = .next s)
    ∧ (s.gas.checkTimer = some since → s.clock < since + s.params.checkInterval * 500 →
        exec .checkTimerExpiry s = .next s)
    ∧ (s.gas.stage = .check → s.gas.checkTimer = some since →
        since + s.params.checkInterval * 500 ≤ s.clock →
        s.context = some c → c.gas = some g → c.check = some k →
        let leak : Bool :=
          decide (s.sensor.sample.pc + s.params.leakFall < k.pcAtStart)
            || g.pcAtEntry.any (fun e => decide (s.sensor.sample.pc ≤ e))
        exec .checkTimerExpiry s =
          .next
            { s with
              context :=
                some
                  { c with
                    check :=
                      some
                        { k with
                          pcAtEnd := some s.sensor.sample.pc
                          verdict := if leak then .leak else .tight }
                    reasons :=
                      (let judged := if leak then insertReason .leak c.reasons else c.reasons
                      if s.params.targetMass + s.params.tolerance < g.mass then
                        insertReason .highDose judged
                      else judged) }
              cycle :=
                { s.cycle with
                  phase := if s.cycle.phase = .check then .sealed else s.cycle.phase }
              gas := { s.gas with stage := .ended, settleTimer := none, checkTimer := none } }))

/-- For every frame f, g, n and failure count k: a frame placed in an EMPTY slot becomes PENDING, one placed in a
PENDING slot replaces it with the count kept, one placed in an ON_LINE slot becomes the next frame. An ON_LINE
slot that returns is PENDING with its next frame, or with its own frame when there is none, the count kept; one
that completes is PENDING with its next frame or EMPTY, the count 0. In the FAULT slot a frame of another code
placed over a pending VALVE_STUCK is held as the next frame, one placed while a VALVE_STUCK is the next frame is
dropped, and a VALVE_STUCK that returns stays the frame with a next frame of another code kept; two frames that
are both VALVE_STUCK, or neither, act as in any slot. -/
def Obligations.SlotsKeepTheNewestFrame : Prop :=
  (∀ (f g : HoldFrame) (n : Option HoldFrame) (k : Nat),
    slotPlace f { body := .empty, next := n, failures := k }
        = { body := .pending f, next := n, failures := k }
    ∧ slotPlace f { body := .pending g, next := n, failures := k }
        = { body := .pending f, next := n, failures := k }
    ∧ slotPlace f { body := .onLine g, next := n, failures := k }
        = { body := .onLine g, next := some f, failures := k }
    ∧ slotReturn { body := .onLine g, next := n, failures := k }
        = { body := .pending (n.getD g), next := none, failures := k }
    ∧ slotComplete { body := .onLine g, next := some f, failures := k }
        = { body := .pending f, next := none, failures := 0 }
    ∧ slotComplete { body := .onLine g, next := none, failures := k }
        = { body := .empty, next := none, failures := 0 })
  ∧ (∀ (f g : FaultFrame) (n : Option FaultFrame) (k : Nat),
    (g.cell = .valveStuck → f.cell ≠ .valveStuck →
      faultPlace f { body := .pending g, next := n, failures := k }
          = { body := .pending g, next := some f, failures := k }
      ∧ faultPlace f { body := .onLine f, next := some g, failures := k }
          = { body := .onLine f, next := some g, failures := k }
      ∧ faultReturn { body := .onLine g, next := some f, failures := k }
          = { body := .pending g, next := some f, failures := k })
    ∧ (g.cell ≠ .valveStuck ∨ f.cell = .valveStuck →
      faultPlace f { body := .pending g, next := n, failures := k }
          = { body := .pending f, next := n, failures := k }
      ∧ faultPlace f { body := .onLine g, next := some g, failures := k }
          = { body := .onLine g, next := some f, failures := k }
      ∧ faultReturn { body := .onLine g, next := some f, failures := k }
          = { body := .pending f, next := none, failures := k })
    ∧ faultPlace f { body := .empty, next := n, failures := k }
        = { body := .pending f, next := n, failures := k }
    ∧ faultPlace f { body := .onLine g, next := none, failures := k }
        = { body := .onLine g, next := some f, failures := k })

/-- With the line STUCK, an attempt on the line, a frame being received or a recessive run short of 11, LINE_IDLE
changes nothing (log 3, the model's choice). Otherwise, also on a line that is IDLE already (log 15, the model's
choice): with straps of 0 or 31, or no slot PENDING, the line is IDLE and nothing else changes. With valid
straps, the first PENDING slot in the order FAULT, HOLD, SHUT, STATUS, RESULT, when the OPEN slot is not PENDING
or comes later, becomes ON_LINE with its payload formed now, its start bit in the bit time that begins at the
clock's reading, the line BUSY and the recessive run 0: the cell, zone and valve state of a FAULT; zone and q of
a HOLD; zone and samples of a SHUT; the STATUS of this moment; the head record of the queue with the drop count
as its dropped figure, which is kept. Nothing else changes. -/
def Obligations.LineIdleOffersTheFirstFrame : Prop :=
  ∀ (s : State) (ff : FaultFrame) (hf : HoldFrame) (sf : ShutFrame) (r : Record)
      (rest : List Record),
    let busyOrStuck : Prop :=
      s.line.condition = .stuck ∨ s.line.attempt ≠ none ∨ s.line.receiving ≠ none
        ∨ s.line.recessiveRun < 11
    let l : LineUnit := { s.line with condition := .busy, recessiveRun := 0 }
    let begun (slot : SlotKind) (payload : List Byte) (l : LineUnit) : State :=
      { s with
        line := { l with attempt := some { slot := slot, payload := payload, since := s.clock } } }
    let noFault : Prop := slotPending s.line.faultSlot = false
    let noHold : Prop := noFault ∧ slotPending s.line.holdSlot = false
    let noShut : Prop := noHold ∧ slotPending s.line.shutSlot = false
    let noOpen : Prop := noShut ∧ slotPending s.line.openSlot = false
    let noStatus : Prop := noOpen ∧ slotPending s.line.statusSlot = false
    (busyOrStuck → exec .lineIdle s = .next s)
    ∧ (¬busyOrStuck →
        s.strapsValid = false ∨ (noStatus ∧ slotPending s.line.resultSlot = false) →
        exec .lineIdle s =
          .next { s with line := { s.line with condition := .idle } })
    ∧ (¬busyOrStuck → s.strapsValid = true → s.line.faultSlot.body = .pending ff →
        exec .lineIdle s =
          .next
            (begun .faultSlot
              [BitVec.ofNat 8 (cellNumber ff.cell), ff.zone, if ff.valveOpen then 1 else 0]
              { l with faultSlot := { s.line.faultSlot with body := .onLine ff } }))
    ∧ (¬busyOrStuck → s.strapsValid = true → noFault → s.line.holdSlot.body = .pending hf →
        exec .lineIdle s =
          .next
            (begun .holdSlot [hf.zone, BitVec.ofNat 8 hf.q]
              { l with holdSlot := { s.line.holdSlot with body := .onLine hf } }))
    ∧ (¬busyOrStuck → s.strapsValid = true → noHold → s.line.shutSlot.body = .pending sf →
        exec .lineIdle s =
          .next
            (begun .shutSlot
              [sf.zone, BitVec.ofNat 8 (sf.samples / 256), BitVec.ofNat 8 sf.samples]
              { l with shutSlot := { s.line.shutSlot with body := .onLine sf } }))
    ∧ (¬busyOrStuck → s.strapsValid = true → noOpen → s.line.statusSlot.body = .pending () →
        exec .lineIdle s =
          .next
            (begun .statusSlot (statusPayload s)
              { l with statusSlot := { s.line.statusSlot with body := .onLine () } }))
    ∧ (¬busyOrStuck → s.strapsValid = true → noStatus → s.line.resultSlot.body = .pending () →
        s.result.queue = r :: rest →
        exec .lineIdle s =
          .next
            { begun .resultSlot (resultPayload r s.result.dropCount)
                { l with resultSlot := { s.line.resultSlot with body := .onLine () } } with
              result := { s.result with carried := s.result.dropCount } })

/-- At a line idle, the recessive run at 11, with valid straps, in RUN in stage CLAIM with the claim PLACED and a
context, the OPEN PENDING and the FAULT, HOLD and SHUT slots not: with the hold table empty, fewer non-SELF
entries than L and LINE_DEAD clear, an OPEN whose plan answers with length n goes ON_LINE carrying zone and n, n
kept as the attempt length and nothing else changed; a plan that answers NO_DRIVE or NO_READING returns the
sequencer to PLAN with the claim NONE, the slot EMPTY and NO_DRIVE set for the former. When the admission test
fails the claim is WAITING, the slot EMPTY and DRAW_WAIT set. In both failing cases the attempt is a pending
STATUS, else a pending RESULT, else none. -/
def Obligations.LineIdleDecidesThePendingOpen : Prop :=
  ∀ (s : State) (c : CanContext) (g : GasPart) (f : OpenFrame) (r : Nat),
    s.line.condition ≠ .stuck → s.line.attempt = none → s.line.receiving = none →
    11 ≤ s.line.recessiveRun →
    s.strapsValid = true → s.cycle.station = .run → s.gas.stage = .claim → s.draw.claim = .placed →
    s.context = some c → c.gas = some g → s.line.openSlot.body = .pending f →
    slotPending s.line.faultSlot = false → slotPending s.line.holdSlot = false →
    slotPending s.line.shutSlot = false → g.mass + s.params.tolerance < s.params.targetMass →
    let admits : Prop :=
      s.hold.table = [] ∧ s.nonSelf < s.params.openLimit ∧ s.latched .lineDead = false
    let goesOn (t : State) : Prop :=
      t.line.attempt.map (·.slot) =
        (if slotPending s.line.statusSlot then some .statusSlot
        else if slotPending s.line.resultSlot then some .resultSlot
        else none)
    ∃ t, exec .lineIdle s = .next t
      ∧ (s.dose.rate = some r → s.dose.drive ≠ none → admits → 1 ≤ r →
          let n := plannedLength s.params g.mass r
          t = { s with
            dose := { s.dose with attemptLength := some n }
            line :=
              { s.line with
                condition := .busy, recessiveRun := 0
                attempt :=
                  some
                    { slot := .openSlot, since := s.clock
                      payload := [f.zone, BitVec.ofNat 8 (n / 256), BitVec.ofNat 8 n] }
                openSlot := { s.line.openSlot with body := .onLine f } } })
      ∧ (admits → s.dose.drive = none ∨ s.dose.rate = none ∨ s.dose.rate = some 0 →
          t.gas = { s.gas with stage := .plan } ∧ t.draw.claim = .none
            ∧ t.line.openSlot = { body := .empty, next := none, failures := 0 } ∧ goesOn t
            ∧ t.dose.attemptLength = none
            ∧ (s.dose.drive ≠ none → s.dose.rate = some 0 →
                t.context.map (hasCondition .noDrive ·.conditions) = some true))
      ∧ (¬admits →
          t.gas = s.gas ∧ t.draw.claim = .waiting
            ∧ t.line.openSlot = { body := .empty, next := none, failures := 0 } ∧ goesOn t
            ∧ t.dose.attemptLength = none
            ∧ t.context.map (hasCondition .drawWait ·.conditions) = some true)
      ∧ t = { s with
          context := t.context, gas := t.gas
          dose := { s.dose with attemptLength := t.dose.attemptLength }
          line :=
            { s.line with
              condition := t.line.condition, recessiveRun := t.line.recessiveRun
              openSlot := t.line.openSlot, statusSlot := t.line.statusSlot
              resultSlot := t.line.resultSlot, attempt := t.line.attempt }
          draw :=
            { s.draw with claim := t.draw.claim, requestHeld := t.draw.requestHeld }
          result := { s.result with carried := t.result.carried } }

/-- Without an attempt ARBITRATION_LOSS and ABORT_MARK_END change nothing; nor does a loss while an abort mark is
sent or when the last bit sent is not at positions 2 to 8, nor the end of a mark not sent or before position 165
(log 3, the model's choice). With the silence limit not reached, a loss ends the attempt, returns its slot and
starts the reception with the start bit and the claim bits read so far; the end of a short abort mark at
position 165, or later (log 4, the model's choice), ends the attempt and the mark, returns the slot, and leaves
the line BUSY with the recessive run at 0. The returned slot keeps its failure count. An OPEN returned drops its
attempt length; one whose claim was CANCELLED is emptied and its claim becomes NONE, and a request held in CLAIM
is then taken (R129): with the hold table empty, fewer non-SELF entries than L, RUN and LINE_DEAD clear an OPEN
is PENDING and the claim PLACED, else the claim is WAITING with DRAW_WAIT set. Nothing else changes. Without an
attempt, with an abort mark already begun, or when the last bit sent is not one of positions 1 to 41 + 8L of the
frame, BIT_ERROR changes nothing (log 3, the model's choice). With the silence limit not reached, it begins the
abort mark and drops the attempt length; a failure count below 3 rises by 1, a count of 3 or more makes it the
fourth failure, whose handling waits for the end of the mark (log 16, DEDUCED). For an own OPEN with a gas part
LINE_WAIT is set. Nothing else changes. -/
def Obligations.FailedAttemptsReturnTheirSlots : Prop :=
  (∀ (claim : ClaimField) (s : State) (a : Attempt), s.cycle.silenceOver = false →
    let returned (u : State) : State :=
      match a.slot with
      | .faultSlot => { u with line := { u.line with faultSlot := faultReturn u.line.faultSlot } }
      | .holdSlot => { u with line := { u.line with holdSlot := slotReturn u.line.holdSlot } }
      | .shutSlot => { u with line := { u.line with shutSlot := slotReturn u.line.shutSlot } }
      | .statusSlot => { u with line := { u.line with statusSlot := slotReturn u.line.statusSlot } }
      | .resultSlot => { u with line := { u.line with resultSlot := slotReturn u.line.resultSlot } }
      | .openSlot =>
        if u.draw.claim = .cancelled then
          heldRequestTaken
            { u with
              line := { u.line with openSlot := { body := .empty, next := none, failures := 0 } }
              dose := { u.dose with attemptLength := none }
              draw := { u.draw with claim := .none } }
        else
          { u with
            line := { u.line with openSlot := slotReturn u.line.openSlot }
            dose := { u.dose with attemptLength := none } }
    let bits : List Bool := false :: (List.range 7).map (fun i => claim.getMsbD i)
    (s.line.attempt = none ∨ s.line.abort ≠ .none → exec (.arbitrationLoss claim) s = .next s)
    ∧ (s.line.attempt = some a → s.clock < a.since + 2 ∨ a.since + 8 < s.clock →
        exec (.arbitrationLoss claim) s = .next s)
    ∧ (s.line.attempt = none ∨ s.line.abort = .none → exec .abortMarkEnd s = .next s)
    ∧ (s.line.attempt = some a → s.clock < a.since + 165 → exec .abortMarkEnd s = .next s)
    ∧ (s.line.attempt = some a → s.line.abort = .none →
        a.since + 2 ≤ s.clock → s.clock ≤ a.since + 8 →
        exec (.arbitrationLoss claim) s =
          .next
            (returned
              { s with
                line :=
                  { s.line with
                    attempt := none, receiving := some (bits.take (s.clock - a.since)) } }))
    ∧ (s.line.attempt = some a → s.line.abort = .short → a.since + 165 ≤ s.clock →
        exec .abortMarkEnd s =
          .next
            (returned
              { s with
                line :=
                  { s.line with
                    attempt := none, abort := .none, recessiveRun := 0, condition := .busy } })))
  ∧ (∀ (s : State) (a : Attempt), s.cycle.silenceOver = false →
    (s.line.attempt = none ∨ s.line.abort ≠ .none → exec .bitError s = .next s)
    ∧ (s.line.attempt = some a →
        s.clock ≤ a.since ∨ a.since + 41 + 8 * a.payload.length < s.clock →
        exec .bitError s = .next s)
    ∧ (s.line.attempt = some a → s.line.abort = .none →
        a.since < s.clock → s.clock ≤ a.since + 41 + 8 * a.payload.length →
        let u : State :=
          { s with
            context :=
              s.context.map
                (fun c =>
                  if a.slot = .openSlot ∧ c.gas.isSome then
                    { c with conditions := setCondition .lineWait c.conditions }
                  else c)
            dose := { s.dose with attemptLength := none } }
        let l : LineUnit := { s.line with abort := .short }
        let raise (n : Nat) (l : LineUnit) : LineUnit :=
          if n < 3 then l else { s.line with abort := .fourth }
        exec .bitError s =
          .next
            { u with
              line :=
                match a.slot with
                | .faultSlot =>
                  raise s.line.faultSlot.failures
                    { l with
                      faultSlot := { l.faultSlot with failures := l.faultSlot.failures + 1 } }
                | .holdSlot =>
                  raise s.line.holdSlot.failures
                    { l with holdSlot := { l.holdSlot with failures := l.holdSlot.failures + 1 } }
                | .shutSlot =>
                  raise s.line.shutSlot.failures
                    { l with shutSlot := { l.shutSlot with failures := l.shutSlot.failures + 1 } }
                | .openSlot =>
                  raise s.line.openSlot.failures
                    { l with openSlot := { l.openSlot with failures := l.openSlot.failures + 1 } }
                | .statusSlot =>
                  raise s.line.statusSlot.failures
                    { l with
                      statusSlot := { l.statusSlot with failures := l.statusSlot.failures + 1 } }
                | .resultSlot =>
                  raise s.line.resultSlot.failures
                    { l with
                      resultSlot := { l.resultSlot with failures := l.resultSlot.failures + 1 } } }))

/-- At position 165 of a fourth-failure abort mark (that report and emptying come there is log 16, DEDUCED by the
model), or later (log 4, the model's choice), with the silence limit not reached and at most 8 records queued,
in every station state: no attempt and no mark is on the line, LINE_DEAD is latched, and the failed slot is
emptied, its next frame dropped, its count 0. A clear cell also moves a station in READY, RUN, PARKED or STANDBY
to FAULTED, its context closed, and places a STATUS and a FAULT of code LINE_DEAD, the valve as GAS_FB shows it,
in a pulse too (log 41, the model's choice), also into the slots that failed; a latched one places neither, so a
failed FAULT or STATUS slot stays EMPTY (R187). HOLD and SHUT get nothing new, but for the SHUT of a pulse cut
with its valve shown closed. For a RESULT the head record is gone, the drop count one more, up to 255, a record
of the context closed with HEAD_FAULTED joins the queue behind the rest, and the slot is PENDING just when a
record is left: THE MODEL'S CHOICE (log 39, DESIGN CHOICE) is that the owner is told before the report, so that
a queue of 8 has room for that record. For an OPEN no SELF is driven and the claim is NONE where a context was
abandoned in CLAIM; else WAITING when it was PLACED in CLAIM, or CANCELLED with a request held in CLAIM, and
NONE when it was PLACED elsewhere (log 32, the model's choice) or CANCELLED otherwise. With the cell latched
already the context stays, but for DRAW_WAIT at such a held request (R129). The other slots keep frames and
counts, but a pending OPEN placed in CLAIM is withdrawn by the newly latched cell. What HeadFrame names stays,
the line's bits apart. -/
def Obligations.FourthFailureEmptiesTheSlot : Prop :=
  ∀ (s : State) (a : Attempt), s.line.attempt = some a → s.line.abort = .fourth →
    a.since + 165 ≤ s.clock → s.cycle.silenceOver = false → s.result.queue.length ≤ 8 →
    let dead : Prop := s.latched .lineDead = true
    let moves : Prop := ¬dead ∧ s.cycle.station ≠ .loading ∧ s.cycle.station ≠ .faulted
    let faultSlot : Slot FaultFrame :=
      if a.slot = .faultSlot then { body := .empty, next := none, failures := 0 } else s.line.faultSlot
    let statusSlot : Slot Unit :=
      if a.slot = .statusSlot then { body := .empty, next := none, failures := 0 }
      else s.line.statusSlot
    let shutSlot : Slot ShutFrame :=
      if a.slot = .shutSlot then { body := .empty, next := none, failures := 0 } else s.line.shutSlot
    ∃ t, exec .abortMarkEnd s = .next t
      ∧ t.latched .lineDead = true
      ∧ HeadFrame
          { s with
            line :=
              { s.line with
                attempt := none, abort := .none, recessiveRun := 0, condition := .busy } } t
      ∧ (moves → t.cycle.station = .faulted ∧ t.context = none)
      ∧ (¬moves → t.cycle = s.cycle ∧ t.draw.self = s.draw.self)
      ∧ (dead →
          t.context =
            if a.slot = .openSlot ∧ s.draw.claim = .cancelled ∧ s.draw.requestHeld = true
                ∧ s.gas.stage = .claim then
              s.context.map (fun c => { c with conditions := setCondition .drawWait c.conditions })
            else s.context)
      ∧ (dead → t.line.faultSlot = faultSlot ∧ t.line.statusSlot = statusSlot)
      ∧ (¬dead →
          t.line.faultSlot =
              faultPlace { cell := .lineDead, zone := s.zoneByte, valveOpen := s.gasFb } faultSlot
            ∧ t.line.statusSlot = slotPlace () statusSlot)
      ∧ t.line.holdSlot =
          (if a.slot = .holdSlot then { body := .empty, next := none, failures := 0 }
          else s.line.holdSlot)
      ∧ t.line.shutSlot =
          (if moves ∧ s.context ≠ none ∧ s.gas.stage = .pulse ∧ s.gasFb = false then
            slotPlace { zone := s.zoneByte, samples := s.dose.elapsed } shutSlot
          else shutSlot)
      ∧ (a.slot = .openSlot →
          t.line.openSlot = { body := .empty, next := none, failures := 0 }
            ∧ (t.draw.self = some .driven → s.draw.self = some .driven)
            ∧ t.draw.claim =
                (if moves ∧ s.context ≠ none ∧ s.gas.stage = .claim then .none
                else
                  match s.draw.claim with
                  | .placed => if s.gas.stage = .claim then .waiting else .none
                  | .cancelled =>
                    if s.draw.requestHeld = true ∧ s.gas.stage = .claim then .waiting else .none
                  | other => other))
      ∧ (a.slot ≠ .openSlot →
          (dead → t.line.openSlot = s.line.openSlot ∧ t.draw.claim = s.draw.claim)
          ∧ (¬dead → slotPending s.line.openSlot = true → s.draw.claim = .placed →
              s.gas.stage = .claim →
              t.line.openSlot = { body := .empty, next := none, failures := 0 }))
      ∧ (a.slot = .resultSlot →
          t.result.dropCount = min 255 (s.result.dropCount + 1)
            ∧ t.line.resultSlot =
                { body := if t.result.queue.isEmpty then .empty else .pending ()
                  next := none, failures := 0 }
            ∧ (¬moves ∨ s.context = none → t.result.queue = s.result.queue.tail)
            ∧ (moves → s.context ≠ none →
                t.result.queue = s.result.queue.tail ++ t.result.queue.getLast?.toList
                  ∧ t.result.queue.getLast?.map (·.reason) = some .headFaulted
                  ∧ t.result.queue.getLast?.map (·.cycle) = s.context.map (·.cycle)))
      ∧ (a.slot ≠ .resultSlot → ¬moves ∨ s.context = none →
          t.result = s.result ∧ t.line.resultSlot = s.line.resultSlot)

/-- Without an attempt, with an abort mark on the line, or before the last end mark bit, position 41 + 8L, has been
sent and read back, FRAME_COMPLETION changes nothing (log 3, the model's choice). At that bit or later (log 4,
the model's choice), with the silence limit not reached, it ends the attempt and leaves the line BUSY with both
runs at 0; the slot of a FAULT, SHUT or STATUS holds its next frame PENDING or is EMPTY, with the count at 0,
and nothing else changes. A HOLD with q above 0 of an ASSERTED station also sets the own entry to Q and starts
the resend timer; any other HOLD changes nothing more. A RESULT takes the head record off the queue, reduces the
drop count by the figure carried, and the slot is PENDING again just when a record is left. -/
def Obligations.FrameCompletionTakesTheNextFrame : Prop :=
  ∀ (s : State) (a : Attempt), s.cycle.silenceOver = false →
    let l : LineUnit :=
      { s.line with attempt := none, recessiveRun := 0, dominantRun := 0, condition := .busy }
    (s.line.attempt = none ∨ s.line.abort ≠ .none → exec .frameCompletion s = .next s)
    ∧ (s.line.attempt = some a → s.clock < a.since + 41 + 8 * a.payload.length →
        exec .frameCompletion s = .next s)
    ∧ (s.line.attempt = some a → s.line.abort = .none →
        a.since + 41 + 8 * a.payload.length ≤ s.clock →
        (a.slot = .faultSlot →
          exec .frameCompletion s =
            .next { s with line := { l with faultSlot := slotComplete l.faultSlot } })
        ∧ (a.slot = .shutSlot →
          exec .frameCompletion s =
            .next { s with line := { l with shutSlot := slotComplete l.shutSlot } })
        ∧ (a.slot = .statusSlot →
          exec .frameCompletion s =
            .next { s with line := { l with statusSlot := slotComplete l.statusSlot } })
        ∧ (a.slot = .holdSlot →
          exec .frameCompletion s =
            .next
              { s with
                line := { l with holdSlot := slotComplete l.holdSlot }
                hold :=
                  match s.line.holdSlot.body with
                  | .onLine f =>
                    if 0 < f.q ∧ s.hold.asserted = true then
                      { s.hold with
                        table := tableSet s.ownKey s.params.holdTime s.hold.table
                        resend := some s.clock }
                    else s.hold
                  | .pending f =>
                    if 0 < f.q ∧ s.hold.asserted = true then
                      { s.hold with
                        table := tableSet s.ownKey s.params.holdTime s.hold.table
                        resend := some s.clock }
                    else s.hold
                  | .empty => s.hold })
        ∧ (a.slot = .resultSlot →
          exec .frameCompletion s =
            .next
              { s with
                line :=
                  { l with
                    resultSlot :=
                      { body := if s.result.queue.length ≤ 1 then .empty else .pending ()
                        next := none, failures := 0 } }
                result :=
                  { s.result with
                    queue := s.result.queue.tail
                    dropCount := s.result.dropCount - s.result.carried, carried := 0 } }))

/-- At FRAME_COMPLETION of an own OPEN, its last end mark bit sent and read back then or earlier (log 4, the model's
choice), with the silence limit not reached, the slot is EMPTY, or holds its next frame PENDING, with its count
at 0, and the line is BUSY with both runs at 0. With the claim PLACED in stage CLAIM, a context whose gas part
is g and the attempt length n: the SELF entry is driven open, the claim NONE, the stage PULSE with GAS on, the
Dose Unit runs with planned length n, counts at 0 and M and remainder kept as the start values, the pulse list
ends in a new entry with those values and the latest Pc, and with GAS_FB closed the feedback window starts with
feedback not seen, with GAS_FB open it is seen at once and no window starts. A close window left running ends:
that clause is the model's choice (log 36). Otherwise, a claim PLACED outside CLAIM among it (log 32, DEDUCED by
the model), no SELF is made and GAS is not driven: the claim is NONE and a SHUT of 0 samples is placed, and a
request held in CLAIM is then taken (R129): an OPEN PENDING and the claim PLACED when the admission test passes,
else the claim WAITING with DRAW_WAIT set. Nothing else changes. -/
def Obligations.OwnOpenCompletionStartsThePulse : Prop :=
  ∀ (s : State) (a : Attempt) (c : CanContext) (g : GasPart) (n : Nat),
    s.cycle.silenceOver = false → s.line.attempt = some a → s.line.abort = .none →
    a.since + 41 + 8 * a.payload.length ≤ s.clock →
    a.slot = .openSlot →
    let l : LineUnit :=
      { s.line with
        attempt := none, recessiveRun := 0, dominantRun := 0, condition := .busy
        openSlot := slotComplete s.line.openSlot }
    (s.draw.claim = .placed → s.gas.stage = .claim → s.context = some c → c.gas = some g →
      s.dose.attemptLength = some n →
      exec .frameCompletion s =
        .next
          { s with
            line := l
            context :=
              some
                { c with
                  gas :=
                    some
                      { g with
                        pulses :=
                          g.pulses ++
                            [{ planned := n, massAtStart := g.mass, remainderAtStart := g.remainder
                               pcAtStart := s.sensor.sample.pc, credited := none
                               pcAtEnd := none, outcome := none }] } }
            draw := { s.draw with self := some .driven, claim := .none }
            dose :=
              { s.dose with
                running := true, planned := n, elapsed := 0, credited := 0
                massAtStart := g.mass, remainderAtStart := g.remainder, attemptLength := none }
            gas :=
              { s.gas with
                stage := .pulse, feedbackWindow := if s.gasFb then none else some s.clock
                feedbackSeen := s.gasFb, closeWindow := none } })
    ∧ (s.draw.claim ≠ .placed ∨ s.gas.stage ≠ .claim →
      exec .frameCompletion s =
        .next
          (heldRequestTaken
            { s with
              line :=
                { l with
                  shutSlot := slotPlace { zone := s.zoneByte, samples := 0 } s.line.shutSlot }
              draw := { s.draw with claim := .none }
              dose := { s.dose with attemptLength := none } }))

/-- LINE_STUCK on a line not STUCK whose dominant run stands at 200 makes it STUCK with the recessive run at 0, the
stuck time started and not reported; on a STUCK line, or after a shorter run, it changes nothing (log 3, the
model's choice, as where this says nothing changes below). STUCK_END on a STUCK line makes it BUSY with the
dominant run at 0, one recessive bit counted and no stuck time; else it changes nothing. START_BIT on an IDLE
line makes it BUSY with a reception started, the recessive run 0 and the dominant run 1; on a BUSY line it only
sets the recessive run to 0 and leaves a dominant run of 1 or more, the bit being the one the tick has counted
(log 30, the model's choice); on a STUCK line it changes nothing. Nothing else changes. On a line not STUCK, in
an episode already reported, or before 50 ms of stuck time, STUCK_TIMEOUT changes nothing (log 3, the model's
choice). Otherwise the episode is reported: a latched LINE_DEAD stays with nothing else changed; a clear one is
latched with ALERT_N asserted, a FAULT slot that was EMPTY holds its FAULT with the own zone and the valve as
GAS_FB shows it, in a pulse too (log 41, the model's choice), a station in LOADING or FAULTED stays, and a
station in any other state is FAULTED in RETURN with no context, no stop pending and no grant, and GAS is off
when a context was open (no run has GAS on without one). What HeadFrame names stays. -/
def Obligations.LineConditionAndDeadLine : Prop :=
  (∀ s : State,
    exec .lineStuck s =
        .next
          (if s.line.condition = .stuck ∨ s.line.dominantRun < 200 then s
          else
            { s with
              line :=
                { s.line with
                  condition := .stuck, recessiveRun := 0
                  stuckSince := some s.clock, stuckReported := false } })
    ∧ exec .stuckEnd s =
        .next
          (if s.line.condition = .stuck then
            { s with
              line :=
                { s.line with
                  condition := .busy, dominantRun := 0, recessiveRun := 1, stuckSince := none
                  stuckReported := false } }
          else s)
    ∧ exec .startBit s =
        .next
          (match s.line.condition with
          | .idle =>
            { s with
              line :=
                { s.line with
                  condition := .busy, recessiveRun := 0, dominantRun := 1
                  receiving := some [false] } }
          | .busy =>
            { s with
              line :=
                { s.line with recessiveRun := 0, dominantRun := max 1 s.line.dominantRun } }
          | .stuck => s))
  ∧ (∀ (s : State) (since : Nat),
    let due : Prop :=
      s.line.condition = .stuck ∧ s.line.stuckReported = false ∧ s.line.stuckSince = some since
        ∧ since + 50 * 500 ≤ s.clock
    (s.line.condition ≠ .stuck ∨ s.line.stuckReported = true → exec .stuckTimeout s = .next s)
    ∧ ((∀ t, s.line.stuckSince = some t → s.clock < t + 50 * 500) →
        exec .stuckTimeout s = .next s)
    ∧ (due → s.latched .lineDead = true →
        exec .stuckTimeout s = .next { s with line := { s.line with stuckReported := true } })
    ∧ (due → s.latched .lineDead = false →
        ∃ t, exec .stuckTimeout s = .next t
          ∧ t.latched .lineDead = true ∧ t.fault.alert = true
          ∧ HeadFrame { s with line := { s.line with stuckReported := true } } t
          ∧ (s.line.faultSlot.body = .empty →
              t.line.faultSlot.body =
                .pending { cell := .lineDead, zone := s.zoneByte, valveOpen := s.gasFb })
          ∧ (s.cycle.station = .loading ∨ s.cycle.station = .faulted → t.cycle = s.cycle)
          ∧ (s.cycle.station ≠ .loading → s.cycle.station ≠ .faulted →
              t.cycle.station = .faulted ∧ t.cycle.phase = .returning ∧ t.context = none
                ∧ t.cycle.stopPending = false ∧ t.cycle.grant = .none)
          ∧ (s.context ≠ none → s.cycle.station ≠ .loading → s.cycle.station ≠ .faulted →
              t.gasOn = false)))

/-- The test passes just when the hold table is empty, the non-SELF entries are fewer than L, the station is in RUN,
the stage is CLAIM and LINE_DEAD is not latched. Repeated in CLAIM: WAITING and passing places an OPEN of the
own zone and is PLACED; PLACED with the slot PENDING and failing is withdrawn (slot EMPTY, count 0, no next
frame, no attempt length), WAITING, with DRAW_WAIT; every other case, and every other stage, changes nothing. A
claim request with the claim NONE places the OPEN or waits with DRAW_WAIT; one while CANCELLED is held. A
cancellation makes WAITING and a PLACED that is not on the line NONE, the OPEN withdrawn, and a PLACED on the
line CANCELLED; NONE and CANCELLED stay; a request held is dropped with it (log 37, the model's choice). -/
def Obligations.AdmissionTestPlacesOrWithdrawsTheOpen : Prop :=
  ∀ s : State,
    let passes : Prop :=
      s.hold.table = [] ∧ s.draw.keyed.length + phantomCount s.draw.phantoms < s.params.openLimit
        ∧ s.cycle.station = .run ∧ s.gas.stage = .claim ∧ s.latched .lineDead = false
    let placed : State :=
      { s with
        line := { s.line with openSlot := slotPlace { zone := s.zoneByte } s.line.openSlot }
        draw := { s.draw with claim := .placed } }
    let drawWait (u : State) : State :=
      { u with
        context :=
          u.context.map (fun c => { c with conditions := setCondition .drawWait c.conditions }) }
    let emptied : State :=
      { s with
        line := { s.line with openSlot := { body := .empty, next := none, failures := 0 } }
        dose := { s.dose with attemptLength := none } }
    (s.admits = true ↔ passes)
    ∧ (s.gas.stage ≠ .claim ∨ s.draw.claim = .none ∨ s.draw.claim = .cancelled → retest s = s)
    ∧ (s.gas.stage = .claim → s.draw.claim = .waiting → passes → retest s = placed)
    ∧ (s.gas.stage = .claim → s.draw.claim = .waiting → ¬passes → retest s = s)
    ∧ (s.gas.stage = .claim → s.draw.claim = .placed → slotPending s.line.openSlot = true → ¬passes →
        retest s = drawWait { emptied with draw := { s.draw with claim := .waiting } })
    ∧ (s.draw.claim = .placed → slotPending s.line.openSlot = false ∨ passes → retest s = s)
    ∧ (s.draw.claim = .none → passes → requestClaim s = placed)
    ∧ (s.draw.claim = .none → ¬passes →
        requestClaim s = drawWait { s with draw := { s.draw with claim := .waiting } })
    ∧ (s.draw.claim = .cancelled →
        requestClaim s = { s with draw := { s.draw with requestHeld := true } })
    ∧ (s.draw.claim = .waiting →
        cancelClaim s = { s with draw := { s.draw with claim := .none, requestHeld := false } })
    ∧ (s.draw.claim = .placed → slotOnLine s.line.openSlot = true →
        cancelClaim s = { s with draw := { s.draw with claim := .cancelled, requestHeld := false } })
    ∧ (s.draw.claim = .placed → slotOnLine s.line.openSlot = false →
        cancelClaim s =
          { emptied with draw := { s.draw with claim := .none, requestHeld := false } })
    ∧ (s.draw.claim = .none ∨ s.draw.claim = .cancelled →
        cancelClaim s = { s with draw := { s.draw with requestHeld := false } })

/-- BAD_FRAME ends the reception with the line as after any frame. A count below 15 rises by 1 with the cells
unchanged; at 15 it becomes 16 and LINE_NOISY is latched, with ALERT_N formed anew and a STATUS when it was
clear; at 16 or more it stays and reports nothing. In LOADING the table is left alone; elsewhere a phantom of
Nmax + G is reserved. The admission test is repeated last. The same follows for a received frame of each of the
eleven known kinds when its sender is 31, whatever else it carries. Apart from the repeated test nothing else
changes. For every remaining n and four phantom slots: the lowest-numbered empty slot takes n with the others
unchanged; with all four full the first slot of the least remaining is set to n with the others unchanged. In
LOADING a bad frame makes no phantom, and outside it the value is Nmax + G. -/
def Obligations.BadFramesAreCountedAndReserve : Prop :=
  (∀ (s : State) (target : StationNo) (zone q code valve offset : Byte) (length cells : Half)
      (payload data : List Byte),
    let l : LineUnit :=
      { s.line with
        receiving := none, recessiveRun := 0
        badCount := if s.line.badCount < 16 then s.line.badCount + 1 else s.line.badCount
        condition := if s.line.condition = .stuck then .stuck else .busy }
    let noisy : Prop := s.line.badCount = 15 ∧ s.latched .lineNoisy = false
    let phantoms : DrawUnit :=
      { s.draw with
        phantoms := reservePhantom (s.params.longest + s.params.guardTime) s.draw.phantoms }
    exec .badFrame s =
        .next
          (retest
            { s with
              line := if noisy then statusPlaced l else l
              fault :=
                if noisy then
                  { s.fault with
                    latched := latchCell .lineNoisy s.fault.latched
                    alert := alertOf (latchCell .lineNoisy s.fault.latched) s.fault.enables }
                else s.fault
              draw := if s.cycle.station = .loading then s.draw else phantoms })
    ∧ exec (.receivedOpen everyStation target zone length) s = exec .badFrame s
    ∧ exec (.receivedShut everyStation target zone length) s = exec .badFrame s
    ∧ exec (.receivedFault everyStation target code zone valve) s = exec .badFrame s
    ∧ exec (.receivedStatus everyStation target payload) s = exec .badFrame s
    ∧ exec (.receivedHold everyStation target zone q) s = exec .badFrame s
    ∧ exec (.receivedResult everyStation target payload) s = exec .badFrame s
    ∧ exec (.load everyStation target offset data) s = exec .badFrame s
    ∧ exec (.loadEnd everyStation target length) s = exec .badFrame s
    ∧ exec (.start everyStation target) s = exec .badFrame s
    ∧ exec (.stop everyStation target) s = exec .badFrame s
    ∧ exec (.clear everyStation target cells) s = exec .badFrame s)
  ∧ ((∀ (n : Nat) (p : Phantoms),
    (p.first = none → reservePhantom n p = { p with first := some n })
    ∧ (p.first ≠ none → p.second = none → reservePhantom n p = { p with second := some n })
    ∧ (p.first ≠ none → p.second ≠ none → p.third = none →
        reservePhantom n p = { p with third := some n })
    ∧ (p.first ≠ none → p.second ≠ none → p.third ≠ none → p.fourth = none →
        reservePhantom n p = { p with fourth := some n })
    ∧ (∀ a b c d, p = { first := some a, second := some b, third := some c, fourth := some d } →
        (a ≤ b → a ≤ c → a ≤ d → reservePhantom n p = { p with first := some n })
        ∧ (b < a → b ≤ c → b ≤ d → reservePhantom n p = { p with second := some n })
        ∧ (c < a → c < b → c ≤ d → reservePhantom n p = { p with third := some n })
        ∧ (d < a → d < b → d < c → reservePhantom n p = { p with fourth := some n })))
  ∧ (∀ s : State,
    (s.cycle.station = .loading → phantomForBadFrame s = s)
    ∧ (s.cycle.station ≠ .loading →
        phantomForBadFrame s =
          { s with
            draw :=
              { s.draw with
                phantoms :=
                  reservePhantom (s.params.longest + s.params.guardTime) s.draw.phantoms } })))

/-- For a good frame of another station s addressed here, with a zone-bearing kind of the own zone, outside LOADING:
an OPEN makes or replaces the PEER entry with the length clamped to 1..400 plus G unless the entry is STUCK; a
SHUT removes the entry; a FAULT of VALVE_STUCK makes it STUCK and a FAULT of another code changes nothing; a
STATUS showing LOADING removes it, or with valve phase STUCK makes an existing PEER STUCK, and a STATUS of
another state changes nothing. Making and removing a STUCK entry places a STATUS. The line is as after any good
frame, the bad count 0, and the admission test is repeated last. Nothing else changes. -/
def Obligations.DrawFramesActOnTheSendersEntry : Prop :=
  ∀ (s : State) (sender target : StationNo) (zone code valve : Byte) (n : Half)
      (payload : List Byte),
    s.hears sender → target = s.line.station ∨ target = everyStation → s.cycle.station ≠ .loading →
    let key := sender.toNat
    let entry := tableGet key s.draw.keyed
    let answer (table : Table KeyedEntry) (status : Bool) : State :=
      retest
        { s with
          draw := { s.draw with keyed := table }
          line := if status then statusPlaced (lineAfterGood s) else lineAfterGood s }
    (zone.toNat = s.params.zone → zone.toNat ≤ 3 →
      exec (.receivedOpen sender target zone n) s =
          .next
            (if entry = some .stuck then answer s.draw.keyed false
            else
              answer
                (tableSet key (.peer (max 1 (min 400 n.toNat) + s.params.guardTime)) s.draw.keyed)
                false)
      ∧ exec (.receivedShut sender target zone n) s =
          .next (answer (tableErase key s.draw.keyed) (decide (entry = some .stuck)))
      ∧ exec (.receivedFault sender target code zone valve) s =
          .next
            (if code = 0 ∧ entry ≠ some .stuck then
              answer (tableSet key .stuck s.draw.keyed) true
            else answer s.draw.keyed false))
    ∧ (payload.length = 15 →
      exec (.receivedStatus sender target payload) s =
        .next
          (if (payload.getD 0 0).toNat / 32 = 0 then
            if (payload.getD 4 0).toNat / 64 = 3 then
              match entry with
              | some (.peer _) => answer (tableSet key .stuck s.draw.keyed) true
              | _ => answer s.draw.keyed false
            else answer (tableErase key s.draw.keyed) (decide (entry = some .stuck))
          else answer s.draw.keyed false))

/-- A good frame of another sender leaves the line as after any good frame, the bad count 0, and the admission test
is repeated; nothing else changes when the straps read 0 or 31; when its target is neither the own number nor
31; when its kind is not admitted in the station state (LOAD and LOAD_END outside LOADING and READY, START and
STOP in LOADING and FAULTED, CLEAR and the zone-bearing kinds in LOADING, a STATUS in LOADING by its owner,
RESULT and unknown kinds always); or when the zone of an OPEN, SHUT, HOLD or FAULT is above 3 or not the own
zone. With valid straps and DUPLICATE clear, every good received frame whose sender is the own station number,
whatever its kind, target and contents, latches DUPLICATE, asserts ALERT_N, takes a station in READY, RUN,
PARKED or STANDBY to FAULTED and leaves one in LOADING or FAULTED, and sets the bad count to 0. What HeadFrame
names stays: the recipe, its image, the entries of other stations, the cycle counter among it. -/
def Obligations.GoodFramesPassTheFilter : Prop :=
  (∀ (s : State) (sender target : StationNo) (zone q code valve offset : Byte) (n cells : Half)
      (kind : BitVec 4) (payload data bytes : List Byte),
    sender ≠ everyStation → sender ≠ s.line.station → payload.length = 15 →
    1 ≤ data.length → data.length ≤ 14 →
    let heard : Host.Outcome State Fault Refusal := .next (retest { s with line := lineAfterGood s })
    let deaf : Prop :=
      s.strapsValid = false ∨ (target ≠ s.line.station ∧ target ≠ everyStation)
    let foreign : Prop := 3 < zone.toNat ∨ zone.toNat ≠ s.params.zone
    let loading : Prop := s.cycle.station = .loading
    exec (.receivedResult sender target payload) s = heard
    ∧ exec (.unknownKindFrame sender target kind bytes) s = heard
    ∧ (deaf ∨ loading ∨ foreign →
        exec (.receivedOpen sender target zone n) s = heard
        ∧ exec (.receivedShut sender target zone n) s = heard
        ∧ exec (.receivedFault sender target code zone valve) s = heard
        ∧ exec (.receivedHold sender target zone q) s = heard)
    ∧ (deaf ∨ loading → exec (.receivedStatus sender target payload) s = heard
        ∧ exec (.clear sender target cells) s = heard)
    ∧ (deaf ∨ loading ∨ s.cycle.station = .faulted →
        exec (.start sender target) s = heard ∧ exec (.stop sender target) s = heard)
    ∧ (deaf ∨ (s.cycle.station ≠ .loading ∧ s.cycle.station ≠ .ready) →
        exec (.load sender target offset data) s = heard
        ∧ exec (.loadEnd sender target n) s = heard))
  ∧ (∀ (s : State) (i : Instr) (target : StationNo) (zone q code valve offset : Byte) (n cells : Half)
      (kind : BitVec 4) (payload data : List Byte),
    s.strapsValid = true → s.latched .duplicate = false → payload.length = 15 →
    1 ≤ data.length → data.length ≤ 14 →
    i ∈ [Instr.receivedOpen s.line.station target zone n, .receivedShut s.line.station target zone n,
      .receivedFault s.line.station target code zone valve,
      .receivedStatus s.line.station target payload, .receivedHold s.line.station target zone q,
      .receivedResult s.line.station target payload, .load s.line.station target offset data,
      .loadEnd s.line.station target n, .start s.line.station target, .stop s.line.station target,
      .clear s.line.station target cells, .unknownKindFrame s.line.station target kind payload] →
    ∃ t, exec i s = .next t
      ∧ t.latched .duplicate = true ∧ t.fault.alert = true
      ∧ t.cycle.station = (if s.cycle.station = .loading then .loading else .faulted)
      ∧ HeadFrame { s with line := lineAfterGood s } t)

/-- For a good HOLD of another sender addressed here with the own zone outside LOADING: with q above 0 its entry is
q whatever it held, and a PENDING own HOLD with q above 0 is replaced by a release, the own assertion ending
with its entry removed, the resend timer stopped and a STATUS when it was ASSERTED; without such a pending HOLD
the assertion and the slot stay. With q of 0 and no entry of the sender nothing changes; with one, it alone is
removed, and a table left empty makes the assertion test. The admission test is repeated last, after the Hold
Unit has acted (R128, R145); that it is repeated once, after the suppression or the assertion test that follows
the change of the table, is log 31 (DEDUCED, the model's choice). Nothing else changes. -/
def Obligations.HoldFrameSetsTheSendersEntry : Prop :=
  ∀ (s : State) (sender target : StationNo) (zone q : Byte),
    s.hears sender → target = s.line.station ∨ target = everyStation → s.cycle.station ≠ .loading →
    zone.toNat = s.params.zone → zone.toNat ≤ 3 →
    let l := lineAfterGood s
    let table := tableSet sender.toNat q.toNat s.hold.table
    let erased := tableErase sender.toNat s.hold.table
    let ownPending : Bool :=
      match s.line.holdSlot.body with
      | .pending f => decide (0 < f.q)
      | _ => false
    let released : LineUnit :=
      { l with holdSlot := { l.holdSlot with body := .pending { zone := s.zoneByte, q := 0 } } }
    (0 < q.toNat → ownPending = false →
      exec (.receivedHold sender target zone q) s =
        .next (retest { s with line := l, hold := { s.hold with table := table } }))
    ∧ (0 < q.toNat → ownPending = true → s.hold.asserted = false →
      exec (.receivedHold sender target zone q) s =
        .next (retest { s with line := released, hold := { s.hold with table := table } }))
    ∧ (0 < q.toNat → ownPending = true → s.hold.asserted = true →
      exec (.receivedHold sender target zone q) s =
        .next
          (retest
            { s with
              line := statusPlaced released
              hold :=
                { table := tableErase s.ownKey table, asserted := false, resend := none } }))
    ∧ (q.toNat = 0 → tableGet sender.toNat s.hold.table = none →
      exec (.receivedHold sender target zone q) s = .next (retest { s with line := l }))
    ∧ (q.toNat = 0 → tableGet sender.toNat s.hold.table ≠ none →
      exec (.receivedHold sender target zone q) s =
        .next
          (retest
            (if erased = [] then
              testAssertion { s with line := l, hold := { s.hold with table := erased } }
            else { s with line := l, hold := { s.hold with table := erased } })))

/-- The assertion test passes just when NOT_ASSERTED, in READY or RUN, the latest header VALID with Ph below P_lo
and the hold table empty; it then places a HOLD of q = Q, makes the own entry with Q and is ASSERTED with a
STATUS placed, and the admission test is repeated; else it changes nothing. At a sample: a header NOT_YET tests
nothing; a STALE one ends an assertion without a frame, the own entry removed and the resend timer stopped; a
VALID one outside READY and RUN tests nothing, and in them makes the assertion test when NOT_ASSERTED, and when
ASSERTED releases at P_hi or above by a HOLD of q = 0 and stays below it. Hence at the end of every bell
transaction, in every station state and every stage of the Gas Sequencer, with no loss due and the bell not
newly STALE: the hold unit and the HOLD slot are those of the assertion in READY and RUN with the header VALID
below P_lo and the table empty, of the release there at P_hi or above, and of the stand-down at a STALE header,
each with a STATUS in its slot; in every other case both stay. -/
def Obligations.WatermarksAssertAndReleaseTheHold : Prop :=
  ∀ s : State,
    let passes : Prop :=
      s.hold.asserted = false ∧ (s.cycle.station = .ready ∨ s.cycle.station = .run)
        ∧ s.sensor.sample.header = .valid ∧ s.sensor.sample.ph < s.params.lowPressure
        ∧ s.hold.table = []
    let sent (q : Nat) (b : Bool) (table : Table Nat) (resend : Option Nat) : State :=
      { s with
        line :=
          statusPlaced
            { s.line with holdSlot := slotPlace { zone := s.zoneByte, q := q } s.line.holdSlot }
        hold := { table := table, asserted := b, resend := resend } }
    let dropped : Table Nat := tableErase s.ownKey s.hold.table
    (passes →
        testAssertion s = retest (sent s.params.holdTime true [(s.ownKey, s.params.holdTime)] s.hold.resend))
    ∧ (¬passes → testAssertion s = s)
    ∧ (s.sensor.sample.header = .notYet → watermarkTest s = s)
    ∧ (s.sensor.sample.header = .stale →
        watermarkTest s =
          if s.hold.asserted then
            { s with
              line := statusPlaced s.line
              hold := { table := dropped, asserted := false, resend := none } }
          else s)
    ∧ (s.sensor.sample.header = .valid → s.cycle.station ≠ .ready → s.cycle.station ≠ .run →
        watermarkTest s = s)
    ∧ (s.sensor.sample.header = .valid → s.cycle.station = .ready ∨ s.cycle.station = .run →
        (s.hold.asserted = false → watermarkTest s = testAssertion s)
        ∧ (s.hold.asserted = true → s.sensor.sample.ph < s.params.highPressure → watermarkTest s = s)
        ∧ (s.hold.asserted = true → s.params.highPressure ≤ s.sensor.sample.ph →
            watermarkTest s = retest (sent 0 false dropped none)))
    ∧ (∀ (reply : SensorReply) (begun : Nat) (made : Bool),
      s.sensor.transaction = some { channel := .bell, since := begun, startMade := made } →
      let bell := channelAfter { reply with startMade := reply.startMade && made } s.sensor.bell
      let ph := min 4095 (s.sensor.header.reading.toNat + 101)
      let tested : Prop :=
        s.sensor.header.validity = .valid ∧ (s.cycle.station = .ready ∨ s.cycle.station = .run)
      let asserts : Prop :=
        tested ∧ s.hold.asserted = false ∧ ph < s.params.lowPressure ∧ s.hold.table = []
      let releases : Prop := tested ∧ s.hold.asserted = true ∧ s.params.highPressure ≤ ph
      let drops : Prop := s.sensor.header.validity = .stale ∧ s.hold.asserted = true
      s.sensor.headerLostDue = false → s.sensor.bell.validity = .stale ∨ bell.validity ≠ .stale →
      ∃ t, exec (.sensorTransactionEnd .bell reply) s = .next t
        ∧ (asserts →
            t.hold =
                { table := [(s.ownKey, s.params.holdTime)], asserted := true, resend := s.hold.resend }
              ∧ t.line.holdSlot =
                slotPlace { zone := s.zoneByte, q := s.params.holdTime } s.line.holdSlot)
        ∧ (releases →
            t.hold = { table := dropped, asserted := false, resend := none }
              ∧ t.line.holdSlot = slotPlace { zone := s.zoneByte, q := 0 } s.line.holdSlot)
        ∧ (drops →
            t.hold = { table := dropped, asserted := false, resend := none }
              ∧ t.line.holdSlot = s.line.holdSlot)
        ∧ (asserts ∨ releases ∨ drops → t.line.statusSlot.body ≠ .empty)
        ∧ (¬asserts → ¬releases → ¬drops →
            t.hold = s.hold ∧ t.line.holdSlot = s.line.holdSlot))

/-- For a good LOAD of 1 to 14 bytes from another sender addressed here. In LOADING each data byte stands at the
offset plus its place, bytes past 255 are dropped, every other position reads as before, the loaded length rises
by the number of positions written for the first time, and of the Recipe Store only image, written positions and
loaded length change; the rest of the head is as after any good frame. In READY the station moves to LOADING,
the image holds these bytes alone and reads 0 elsewhere, the written positions are those of the bytes kept, load
result NONE, cause none, check result 0, recipe absent, both flags clear, the loaded length the number of bytes
kept, the draw and hold tables empty, NOT_ASSERTED with the resend timer stopped (R147), the enables all set, a
STATUS placed, and nothing else changes but the model's bookkeeping of log 22. -/
def Obligations.LoadWritesTheImage : Prop :=
  ∀ (s : State) (sender target : StationNo) (offset : Byte) (data : List Byte),
    s.hears sender → target = s.line.station ∨ target = everyStation →
    1 ≤ data.length → data.length ≤ 14 →
    let kept : List Nat :=
      ((List.range data.length).map (fun i => offset.toNat + i)).filter (fun p => decide (p < 256))
    let reads (image : List Host.Cell) (p : Nat) (otherwise : Byte) : Prop :=
      readByte image p = if p ∈ kept then data.getD (p - offset.toNat) 0 else otherwise
    (s.cycle.station = .loading →
      ∃ t, exec (.load sender target offset data) s = .next t
        ∧ (∀ p, reads t.recipe.image p (readByte s.recipe.image p))
        ∧ t.recipe.loadedLength =
            s.recipe.loadedLength
              + (kept.filter (fun p => !s.recipe.written.getLsbD p)).length
        ∧ (∀ p, t.recipe.written.getLsbD p = (decide (p ∈ kept) || s.recipe.written.getLsbD p))
        ∧ t.recipe =
            { s.recipe with
              image := t.recipe.image, written := t.recipe.written
              loadedLength := t.recipe.loadedLength }
        ∧ t = retest { s with line := lineAfterGood s, recipe := t.recipe })
    ∧ (s.cycle.station = .ready →
      ∃ t, exec (.load sender target offset data) s = .next t
        ∧ t.cycle.station = .loading ∧ t.cycle.loadingSince = s.clock
        ∧ (∀ p, reads t.recipe.image p 0)
        ∧ (∀ p, t.recipe.written.getLsbD p = decide (p ∈ kept))
        ∧ t.recipe.loadedLength = kept.length ∧ t.recipe.loadResult = .none
        ∧ t.recipe.refusal = .none ∧ t.recipe.checkResult = 0 ∧ t.recipe.recipe = none
        ∧ t.recipe.clampFlag = false ∧ t.recipe.unknownFlag = false
        ∧ t.draw = State.reset.draw
        ∧ t.hold = { table := [], asserted := false, resend := none }
        ∧ t.fault =
            { latched := s.fault.latched, enables := 15, alert := alertOf s.fault.latched 15 }
        ∧ t = { s with
            cycle :=
              { s.cycle with
                station := .loading, loadingSince := s.clock, silenceOver := t.cycle.silenceOver
                zeroTest := t.cycle.zeroTest }
            line := statusPlaced (lineAfterGood s)
            draw := t.draw, hold := t.hold, recipe := t.recipe, fault := t.fault })

/-- For a good LOAD_END from another sender addressed here. In READY it places a STATUS and changes nothing else. In
LOADING an image judged with a cause is refused: result REFUSED with that cause, recipe absent, flags clear, the
check result of this length (kept when the length itself refused, log 19), a STATUS placed, image and loaded
length kept, the station in LOADING. An image judged good is accepted: the recipe is the clamped one, result
ACCEPTED, cause none, the clamp flag tells whether clamping changed a field, the unknown flag as found, the
enables as the recipe's, a STATUS is placed (R8, R178), and the station is READY, or FAULTED while a class F
cell is latched. That FAULTED entry places one FAULT of the first class F cell latched, with the new own zone
and the valve as GAS_FB shows it; without such a cell the FAULT slot stays. A length below 8 or above 256 is
judged LENGTH, a sum other than 0xFFFF CHECK, a first byte other than 1 VERSION, in that order. -/
def Obligations.LoadEndJudgesTheImage : Prop :=
  ∀ (s : State) (sender target : StationNo) (n : Half) (cause : RefusalCause) (raw : Recipe)
      (unknown : Bool),
    s.hears sender → target = s.line.station ∨ target = everyStation →
    let image := s.recipe.image
    let sum := checkSum image n.toNat
    let checked : BitVec 16 :=
      if n.toNat < 8 ∨ 256 < n.toNat then s.recipe.checkResult else BitVec.ofNat 16 sum
    (s.cycle.station = .ready →
      exec (.loadEnd sender target n) s =
        .next (retest { s with line := statusPlaced (lineAfterGood s) }))
    ∧ (s.cycle.station = .loading → judgeImage image n.toNat = .error cause →
      exec (.loadEnd sender target n) s =
        .next
          (retest
            { s with
              line := statusPlaced (lineAfterGood s)
              recipe :=
                { s.recipe with
                  recipe := none, loadResult := .refused, refusal := cause, checkResult := checked
                  clampFlag := false, unknownFlag := false } }))
    ∧ (s.cycle.station = .loading → judgeImage image n.toNat = .ok (raw, unknown) →
      ∃ t, exec (.loadEnd sender target n) s = .next t
        ∧ t.recipe =
            { s.recipe with
              recipe := some (clampRecipe raw), loadResult := .accepted, refusal := .none
              checkResult := checked, clampFlag := decide (clampRecipe raw ≠ raw)
              unknownFlag := unknown }
        ∧ t.fault.enables = raw.alertEnables ∧ t.fault.latched = s.fault.latched
        ∧ t.cycle.station = (if s.anyF then .faulted else .ready)
        ∧ t.line.statusSlot = slotPlace () s.line.statusSlot
        ∧ (s.anyF = false → t.line.faultSlot = s.line.faultSlot)
        ∧ (∀ k : Cell, cellNumber k < 6 → s.latched k = true →
            (∀ j : Cell, cellNumber j < cellNumber k → s.latched j = false) →
            t.line.faultSlot =
              faultPlace
                { cell := k, zone := BitVec.ofNat 8 (clampRecipe raw).zone, valveOpen := s.gasFb }
                s.line.faultSlot)
        ∧ (s.context = none → t.result = s.result ∧ t.sensor.zeroDebt = s.sensor.zeroDebt)
        ∧ HeadFrame
            { s with
              line := lineAfterGood s, recipe := t.recipe
              fault := { s.fault with enables := raw.alertEnables } } t)
    ∧ (n.toNat < 8 ∨ 256 < n.toNat → judgeImage image n.toNat = .error .length)
    ∧ (8 ≤ n.toNat → n.toNat ≤ 256 → sum ≠ 0xFFFF → judgeImage image n.toNat = .error .check)
    ∧ (8 ≤ n.toNat → n.toNat ≤ 256 → sum = 0xFFFF → readByte image 0 ≠ 1 →
        judgeImage image n.toNat = .error .version)

/-- For an image of in-range length, sum 0xFFFF and version 1, with area the position length − 2. Call sections
walked when each stands at the link before it, past the body before it, ends in the area, and, of a kind 1 to 5,
repeats no kind and has the body its kind needs. After walked sections a next link other than 0 is refused
OFFSET when it lies below the lowest position or its header passes the area; else BODY when its body passes it;
else, of a known kind, REPEAT when its kind was walked, else SHORT when its body is too short. A next link of 0
is refused MISSING when kind 1, 2 or 3 was not walked; otherwise the image is good, its unknown flag telling
whether a kind 0 or above 5 was walked, each field read high byte first at its offset of section 12.5 in its
section's body, an absent CHECK giving interval 0, dPleak 1, reject limit 0 and all enables, an absent ZERO Nz
16 and Tz 40. Of every image some walked sections cannot be walked further, at most 84 of them. -/
def Obligations.ChainWalkFindsTheRecipe : Prop :=
  ∀ (image : List Host.Cell) (n : Nat), 8 ≤ n → n ≤ 256 → checkSum image n = 0xFFFF →
    readByte image 0 = 1 →
    let area := n - 2
    (∃ os, Walked image area os ∧ os.length ≤ 84
      ∧ ¬Walked image area (os ++ [linkAfter image os]))
    ∧ ∀ os : List Nat, Walked image area os →
      let o := linkAfter image os
      let lowest := lowestAfter image os
      let kind := byteAt image o
      let body := byteAt image (o + 1)
      let known : Prop := o ≠ 0 ∧ lowest ≤ o ∧ o + 3 + body ≤ area ∧ 1 ≤ kind ∧ kind ≤ 5
      let walked (k : Nat) : Option Nat := os.find? (fun p => byteAt image p == k)
      (o ≠ 0 → o < lowest ∨ area < o + 3 → judgeImage image n = .error .offset)
      ∧ (o ≠ 0 → lowest ≤ o → o + 3 ≤ area → area < o + 3 + body →
          judgeImage image n = .error .body)
      ∧ (known → walked kind ≠ none → judgeImage image n = .error .repeated)
      ∧ (known → walked kind = none → body < lengthNeeded kind →
          judgeImage image n = .error .short)
      ∧ (o = 0 → walked 1 = none ∨ walked 2 = none ∨ walked 3 = none →
          judgeImage image n = .error .missing)
      ∧ (∀ gas crimp zone, o = 0 → walked 1 = some gas → walked 2 = some crimp →
          walked 3 = some zone →
          let one (p k : Nat) : Nat := byteAt image (p + 3 + k)
          let two (p k : Nat) : Nat := 256 * one p k + one p (k + 1)
          let four (p k : Nat) : Nat := 65536 * two p k + two p (k + 2)
          let check (default : Nat) (f : Nat → Nat) : Nat := (walked 4).elim default f
          let zero (default : Nat) (f : Nat → Nat) : Nat := (walked 5).elim default f
          judgeImage image n =
            .ok
              ({ targetMass := four gas 0, tolerance := four gas 4, coefficient := two gas 8
                 shortest := one gas 10, longest := two gas 11, maxPulses := one gas 13
                 strikes := one gas 14, leastRise := one gas 15, settleTime := one gas 16
                 seatForce := two crimp 0, maxForce := two crimp 2, targetDepth := two crimp 4
                 minDepth := two crimp 6, maxDepth := two crimp 8, minForce := two crimp 10
                 openDepth := two crimp 12, seatTime := two crimp 14, formTime := two crimp 16
                 dwellTime := one crimp 18, releaseTime := two crimp 19
                 zone := one zone 0, openLimit := one zone 1, guardTime := one zone 2
                 lowPressure := two zone 3, highPressure := two zone 5, holdTime := one zone 7
                 checkInterval := check 0 (two · 0), leakFall := check 1 (two · 2)
                 rejectLimit := check 0 (one · 4)
                 alertEnables := BitVec.ofNat 4 (check 15 (one · 5))
                 closingsPerStep := zero 16 (one · 0), zeroingTime := zero 40 (one · 1) },
               os.any (fun p => byteAt image p == 0 || decide (5 < byteAt image p))))

/-- For a good START from another sender addressed here: in READY, and in STANDBY with no cell latched, the station
is in RUN and RETURN with no period, reference, stop pending or start refusal, the silence timer restarted and a
STATUS placed; an assertion carries on. In STANDBY with a cell latched the cause is CELLS_LATCHED and a STATUS
placed; in RUN with a stop pending that is cleared and a STATUS placed; in RUN without one, and in PARKED, it
has no effect. A stuck episode without a SELF entry adds the stuck one at an entry to RUN. Nothing else changes
but for the repeated admission test. For a good STOP from another sender addressed here: in RUN in RETURN or
PASS the station is STANDBY in RETURN, a grant ended with a running zeroing abandoned, and a standing hold
released by a HOLD of q = 0; in PARKED the station is STANDBY; in a working phase a stop not yet pending is
pending with a STATUS placed and the pocket untouched; a second one, and a STOP in READY or STANDBY, changes
nothing. The result unit, the cells, both sequencers and what HeadFrame names are unchanged. -/
def Obligations.StartAndStopMoveTheStation : Prop :=
  (∀ (s : State) (sender target : StationNo),
    s.hears sender → target = s.line.station ∨ target = everyStation →
    let l := lineAfterGood s
    let c := s.cycle
    (s.cycle.station = .ready ∨ (s.cycle.station = .standby ∧ s.fault.latched = 0) →
      exec (.start sender target) s =
        .next
          (retest
            { s with
              line := statusPlaced l
              cycle :=
                { c with
                  station := .run, phase := .returning, stopPending := false, period := none
                  infeedRef := none, startRefusal := .none, silence := some s.clock
                  silenceOver := false, zeroTest := none }
              draw :=
                if s.gas.stuckEpisode ∧ s.draw.self = none then
                  { s.draw with self := some .stuck }
                else s.draw }))
    ∧ (s.cycle.station = .standby → s.fault.latched ≠ 0 →
      exec (.start sender target) s =
        .next
          (retest { s with line := statusPlaced l, cycle := { c with startRefusal := .cellsLatched } }))
    ∧ (s.cycle.station = .run → s.cycle.stopPending = true →
      exec (.start sender target) s =
        .next (retest { s with line := statusPlaced l, cycle := { c with stopPending := false } }))
    ∧ ((s.cycle.station = .run ∧ s.cycle.stopPending = false) ∨ s.cycle.station = .parked →
      exec (.start sender target) s = .next (retest { s with line := l })))
  ∧ (∀ (s : State) (sender target : StationNo),
    s.hears sender → target = s.line.station ∨ target = everyStation →
    let l := lineAfterGood s
    let returning : Prop := s.cycle.phase = .returning ∨ s.cycle.phase = .pass
    ((s.cycle.station = .run ∧ returning) ∨ s.cycle.station = .parked →
      ∃ t, exec (.stop sender target) s = .next t
        ∧ t.cycle.station = .standby ∧ slotEmpty t.line.statusSlot = false
        ∧ t.sensor.scan = s.sensor.scan
        ∧ (s.cycle.station = .run →
            t.cycle.phase = .returning ∧ t.cycle.grant = .none ∧ t.sensor.zeroing = .idle
              ∧ t.hold.asserted = false
              ∧ (s.hold.asserted = true →
                  t.hold.table = tableErase s.ownKey s.hold.table ∧ t.hold.resend = none
                    ∧ t.line.holdSlot =
                        slotPlace { zone := s.zoneByte, q := 0 } s.line.holdSlot))
        ∧ t.result = s.result ∧ t.fault = s.fault ∧ t.crimp = s.crimp ∧ t.gas = s.gas
        ∧ HeadFrame { s with line := lineAfterGood s } t)
    ∧ (s.cycle.station = .run → ¬returning → s.cycle.stopPending = false →
      exec (.stop sender target) s =
        .next
          (retest
            { s with line := statusPlaced l, cycle := { s.cycle with stopPending := true } }))
    ∧ (s.cycle.station = .run → ¬returning → s.cycle.stopPending = true →
      exec (.stop sender target) s = .next (retest { s with line := l }))
    ∧ (s.cycle.station = .ready ∨ s.cycle.station = .standby →
      exec (.stop sender target) s = .next (retest { s with line := l })))

/-- For a good CLEAR from another sender addressed here outside LOADING: a cell is latched afterwards just when it
was and either the CLEAR does not name it or its lasting cause holds: GAS_FB open for VALVE_STUCK, a STALE
channel for HEADER_LOST and BELL_LOST, a STUCK line for LINE_DEAD; the other cells have none. Bits 10..15 are
ignored. ALERT_N agrees with the cells left, a STATUS is placed, and a station in FAULTED with no class F cell
left is READY; in every other case the station stays. The result unit, the hold unit, both sequencers and what
HeadFrame names are unchanged. -/
def Obligations.ClearTakesTheNamedCells : Prop :=
  ∀ (s : State) (sender target : StationNo) (cells : Half) (k : Cell),
    s.hears sender → target = s.line.station ∨ target = everyStation → s.cycle.station ≠ .loading →
    let cause : Bool :=
      match k with
      | .valveStuck => s.gasFb
      | .headerLost => decide (s.sensor.header.validity = .stale)
      | .bellLost => decide (s.sensor.bell.validity = .stale)
      | .lineDead => decide (s.line.condition = .stuck)
      | _ => false
    ∃ t, exec (.clear sender target cells) s = .next t
      ∧ t.latched k = (s.latched k && (!cells.getLsbD (cellNumber k) || cause))
      ∧ t.fault.alert = alertOf t.fault.latched t.fault.enables
      ∧ t.fault.enables = s.fault.enables
      ∧ slotEmpty t.line.statusSlot = false
      ∧ t.cycle.station =
          (if s.cycle.station = .faulted ∧ t.anyF = false then .ready else s.cycle.station)
      ∧ t.result = s.result ∧ t.crimp = s.crimp ∧ t.gas = s.gas ∧ t.hold = s.hold
      ∧ HeadFrame { s with line := lineAfterGood s } t

/-- In LOADING both countdowns change nothing. Elsewhere DRAW_COUNTDOWN takes 1 from every PEER and phantom,
removing those that reach 0, and from a closing SELF, held at 0; STUCK and open or stuck SELF stay; a removal
repeats the admission test; nothing else changes. HOLD_COUNTDOWN takes 1 from every entry and removes those that
reach 0: when the own entry of an ASSERTED station goes, the station is NOT_ASSERTED with the resend timer
stopped and a STATUS placed, the admission test is repeated and the assertion test made; else when the last
entry goes, both tests are made; else when any entry goes, others standing, the admission test is repeated; else
nothing else changes (the silence limit not reached). With the station NOT_ASSERTED, the resend timer stopped,
or before floor(Q/2) ms of it (1 ms for a Q of 1), HOLD_RESEND changes nothing (log 3, the model's choice).
Otherwise a HOLD of the own zone with q = Q is placed, the own entry is Q and the timer stopped; the admission
test is repeated. Nothing else changes. -/
def Obligations.CountdownsAndResendKeepTheTables : Prop :=
  (∀ s : State, s.cycle.silenceOver = false →
    let one (n : Nat) : Option Nat := if n ≤ 1 then none else some (n - 1)
    let keyed : Table KeyedEntry :=
      s.draw.keyed.filterMap
        (fun e =>
          match e.2 with
          | .peer n => (one n).map (fun m => (e.1, .peer m))
          | .stuck => some e)
    let phantoms : Phantoms :=
      { first := s.draw.phantoms.first.bind one, second := s.draw.phantoms.second.bind one
        third := s.draw.phantoms.third.bind one, fourth := s.draw.phantoms.fourth.bind one }
    let counted : State :=
      { s with
        draw :=
          { s.draw with
            self :=
              match s.draw.self with
              | some (.closing n) => some (.closing (n - 1))
              | other => other
            keyed := keyed, phantoms := phantoms } }
    let table : Table Nat := s.hold.table.filterMap (fun e => (one e.2).map (fun m => (e.1, m)))
    let ownGone : Prop :=
      s.hold.asserted = true ∧ tableGet s.ownKey s.hold.table ≠ none
        ∧ tableGet s.ownKey table = none
    let held : State := { s with hold := { s.hold with table := table } }
    (s.cycle.station = .loading →
      exec .drawCountdown s = .next s ∧ exec .holdCountdown s = .next s)
    ∧ (s.cycle.station ≠ .loading →
      exec .drawCountdown s =
        .next (if counted.nonSelf < s.nonSelf then retest counted else counted))
    ∧ (s.cycle.station ≠ .loading → ownGone →
      exec .holdCountdown s =
        .next
          (testAssertion
            (retest
              { s with
                line := statusPlaced s.line
                hold := { table := table, asserted := false, resend := none } })))
    ∧ (s.cycle.station ≠ .loading → ¬ownGone →
      exec .holdCountdown s =
        .next
          (if s.hold.table ≠ [] ∧ table = [] then testAssertion (retest held)
          else if table.length < s.hold.table.length then retest held
          else held)))
  ∧ (∀ (s : State) (since : Nat),
    let interval : Nat := max 1 (s.params.holdTime / 2) * 500
    (s.hold.asserted = false ∨ s.hold.resend = none → exec .holdResend s = .next s)
    ∧ (s.hold.resend = some since → s.clock < since + interval → exec .holdResend s = .next s)
    ∧ (s.hold.asserted = true → s.hold.resend = some since → since + interval ≤ s.clock →
      exec .holdResend s =
        .next
          (retest
            { s with
              line :=
                { s.line with
                  holdSlot :=
                    slotPlace { zone := s.zoneByte, q := s.params.holdTime } s.line.holdSlot }
              hold :=
                { s.hold with
                  table := tableSet s.ownKey s.params.holdTime s.hold.table, resend := none } })))

/-- For every pair of pressures of at most 4095 kPa: a Pc of at most floor(Ph/2), its upper edge included, gives f =
Ph; a Pc between it and Ph gives 2 times the largest integer whose square does not exceed Pc × (Ph − Pc); a Pc
of Ph or more gives 0, so a Pc clamped to 0 is choked and one clamped to 4095 equalised. At the end of every
bell transaction, in every station state, the latest drive term is that of the sample's Ph and Pc as clamped
when both channels are VALID in the sample, and none otherwise. -/
def Obligations.DriveTermOfEverySample : Prop :=
  (∀ ph pc : Nat, ph ≤ 4095 →
    (pc ≤ ph / 2 → driveTerm ph pc = ph)
    ∧ (ph / 2 < pc → pc < ph →
        ∃ root, driveTerm ph pc = 2 * root ∧ root * root ≤ pc * (ph - pc)
          ∧ pc * (ph - pc) < (root + 1) * (root + 1))
    ∧ (ph ≤ pc → driveTerm ph pc = 0)
    ∧ driveTerm ph 0 = ph ∧ driveTerm ph 4095 = 0)
  ∧ (∀ (reply : SensorReply) (s : State) (begun : Nat) (made : Bool),
    s.sensor.transaction = some { channel := .bell, since := begun, startMade := made } →
    ∃ t, exec (.sensorTransactionEnd .bell reply) s = .next t
      ∧ t.sensor.sample.ph ≤ 4095 ∧ t.sensor.sample.pc ≤ 4095
      ∧ (t.sensor.sample.header = .valid ∧ t.sensor.sample.bell = .valid →
          t.dose.drive = some (driveTerm t.sensor.sample.ph t.sensor.sample.pc))
      ∧ (t.sensor.sample.header ≠ .valid ∨ t.sensor.sample.bell ≠ .valid → t.dose.drive = none))

/-- For Ph of at most 4095 the drive term is at most 4095 and does not rise as Pc rises, and K f / 4096 with K of at
most 65,535 is at most 65,519. The credit of a sample and its new remainder, below 4096, make up K f and the
remainder held. Over any list of drive terms credited one after another from remainder 0, 4096 times the sum of
the credits and the last remainder is the sum of the K f, and the last remainder is below 4096, so the credits
differ from the exact figure by less than 1 µg. For a rate of at least 1 and Nmin of at most Nmax the planned
length n lies in Nmin..Nmax; above Nmin its n − 1 samples at the rate fall short of the remaining mass, and
below Nmax its n samples reach it. -/
def Obligations.DoseArithmeticIsExact : Prop :=
  (∀ ph pc qc : Nat, ph ≤ 4095 →
    driveTerm ph pc ≤ 4095 ∧ (pc ≤ qc → driveTerm ph qc ≤ driveTerm ph pc))
  ∧ (∀ k f : Nat, k ≤ 65535 → f ≤ 4095 → predictedRate k f ≤ 65519)
  ∧ (∀ k f remainder : Nat,
    4096 * creditOf k f remainder + remainderAfter k f remainder = k * f + remainder
      ∧ remainderAfter k f remainder < 4096)
  ∧ (∀ (k : Nat) (terms : List Nat),
    let last :=
      terms.foldl
        (fun (m : Nat × Nat) f => (m.1 + creditOf k f m.2, remainderAfter k f m.2)) (0, 0)
    4096 * last.1 + last.2 = k * terms.sum ∧ last.2 < 4096)
  ∧ (∀ (p : Recipe) (mass rate : Nat), 1 ≤ rate → p.shortest ≤ p.longest →
    let n := plannedLength p mass rate
    p.shortest ≤ n ∧ n ≤ p.longest
      ∧ (p.shortest < n → (n - 1) * rate < p.targetMass - mass)
      ∧ (n < p.longest → p.targetMass - mass ≤ n * rate))

/-- Every field of a clamped recipe lies in its range of R182's table, a recipe in its ranges is unchanged by
clamping, and every value clamped to low..high is the nearest value of the range; Nmax is taken against the
clamped Nmin, F_min against F_max, D_min and D_max against D_target, P_lo against P_hi − 10. For every image the
sum of length 0 is 0; a word of two bytes added at an even length is the high byte first; a last byte at an odd
length is a high half with low half 0; each addition that exceeds 0xFFFF takes 0x10000 and adds 1; and the sum
never exceeds 0xFFFF. -/
def Obligations.ClampsAndCheckSumAreTheRules : Prop :=
  (∀ p : Recipe,
    InRange (clampRecipe p) ∧ (InRange p → clampRecipe p = p)
      ∧ (clampRecipe p).longest = max (clampRecipe p).shortest (min 400 p.longest)
      ∧ (clampRecipe p).minForce = min (clampRecipe p).maxForce p.minForce
      ∧ (clampRecipe p).minDepth = min (clampRecipe p).targetDepth p.minDepth
      ∧ (clampRecipe p).maxDepth = max (clampRecipe p).targetDepth (min 8000 p.maxDepth)
      ∧ (clampRecipe p).lowPressure = max 200 (min ((clampRecipe p).highPressure - 10) p.lowPressure))
  ∧ (∀ low high v : Nat, low ≤ high → clampTo low high v = max low (min high v))
  ∧ (∀ (image : List Host.Cell) (n : Nat),
    let add (sum word : Nat) : Nat :=
      if 0xFFFF < sum + word then sum + word - 0x10000 + 1 else sum + word
    checkSum image 0 = 0
      ∧ checkSum image (2 * n + 2) =
          add (checkSum image (2 * n))
            ((readByte image (2 * n)).toNat * 256 + (readByte image (2 * n + 1)).toNat)
      ∧ checkSum image (2 * n + 1) =
          add (checkSum image (2 * n)) ((readByte image (2 * n)).toNat * 256)
      ∧ checkSum image n ≤ 0xFFFF)

/-- For every list of candidate reasons the reason chosen has a code not above that of any candidate, and is a
candidate unless it is GOOD; it is GOOD just when no reason other than GOOD is a candidate. The codes are 1 to
15, no two alike. A reason added is a candidate, every other candidate stays one and none is added beside it,
and one added again leaves the candidates as they were. -/
def Obligations.ReasonOfARecordIsTheFirstCandidate : Prop :=
  (∀ l : List Reason,
    (∀ q ∈ l, reasonCode (chooseReason l) ≤ reasonCode q)
    ∧ (chooseReason l ≠ .good → chooseReason l ∈ l)
    ∧ (chooseReason l = .good ↔ ∀ q ∈ l, q = .good))
  ∧ (∀ q r : Reason, 1 ≤ reasonCode q ∧ reasonCode q ≤ 15 ∧ (reasonCode q = reasonCode r → q = r))
  ∧ (∀ (l : List Reason) (q r : Reason),
    (q ∈ insertReason r l ↔ q = r ∨ q ∈ l)
      ∧ insertReason r (insertReason r l) = insertReason r l
      ∧ (r ∈ l → insertReason r l = l))

/-- For every state and either level read, the bit of a bit time brings about these events of the table. STUCK_END:
a recessive bit while STUCK; LINE_STUCK: a dominant bit past a run of 200. Without an attempt the head drives
nothing. At position q of an own attempt it drives bit q of the frame, whose end mark is recessive, and once the
abort mark has begun dominant through position 165: ABORT_MARK_END comes with bit 165 and nothing in the mark is
read back. A bit that reads as sent is good and completes the frame when it is the last of the 41 + 8L; one sent
recessive and read dominant in positions 2 to 8 is ARBITRATION_LOSS, with the own claim bits before it and a
dominant one there; any other mismatch is BIT_ERROR. A frame being received is judged, by the command its bits
spell, at the bit that its length field makes the last, and at no other. With no frame in progress a dominant
bit is START_BIT just while IDLE; the eleventh recessive bit of a BUSY line is LINE_IDLE, and while IDLE it
comes again at each recessive bit just while a frame waits and the straps are valid (log 15, the model's
choice). Which level is read is a free value (log 14) that no clause rests on. For every two claims, the station
with claim own loses to claim other just when other is the lower seven-bit number; no station loses to its own
claim, and of two different claims exactly one loses. The loss falls at a position of 2 to 8, at a bit sent
recessive and read dominant. A claim's number is 32 times its class plus its sender. A mismatch of a bit sent
recessive and read dominant is an arbitration loss in positions 2 to 8 and a bit error after them and before
them; one sent dominant and read recessive is a bit error everywhere; no mismatch is good. -/
def Obligations.BitsOfTheLineDecideItsFrames : Prop :=
  (∀ (s : State) (recessive : Bool),
    let ev := lineEvents recessive s
    (.stuckEnd ∈ ev ↔ recessive = true ∧ s.line.condition = .stuck)
    ∧ (.lineStuck ∈ ev ↔
        recessive = false ∧ s.line.condition ≠ .stuck ∧ 200 ≤ s.line.dominantRun)
    ∧ (s.line.attempt = none → s.lineDrive = true)
    ∧ (∀ (a : Attempt) (q : Nat), s.line.attempt = some a → 1 ≤ q → s.clock + 1 = a.since + q →
        let f := attemptFrame s a
        (s.line.abort ≠ .none →
          s.lineDrive = decide (165 < q) ∧ (.abortMarkEnd ∈ ev ↔ q = 165)
            ∧ .bitError ∉ ev ∧ .frameCompletion ∉ ev ∧ ∀ claim, .arbitrationLoss claim ∉ ev)
        ∧ (s.line.abort = .none → q ≤ 41 + 8 * a.payload.length →
          some s.lineDrive = (frameBits f)[q - 1]?
            ∧ (37 + 8 * a.payload.length < q → s.lineDrive = true)
            ∧ .abortMarkEnd ∉ ev
            ∧ (.frameCompletion ∈ ev ↔ recessive = s.lineDrive ∧ q = 41 + 8 * a.payload.length)
            ∧ (.bitError ∈ ev ↔
                recessive ≠ s.lineDrive ∧ (s.lineDrive = false ∨ q < 2 ∨ 8 < q))
            ∧ (recessive = s.lineDrive ∨ s.lineDrive = false ∨ q < 2 ∨ 8 < q →
                ∀ claim, .arbitrationLoss claim ∉ ev)
            ∧ (recessive = false → s.lineDrive = true → 2 ≤ q → q ≤ 8 →
                ∃ claim, .arbitrationLoss claim ∈ ev ∧ claim.getMsbD (q - 2) = false
                  ∧ ∀ i, i < q - 2 →
                      claim.getMsbD i = (claimOf f.frameClass f.sender).getMsbD i)))
    ∧ (∀ bits, s.line.attempt = none → s.line.receiving = some bits →
        let read := bits ++ [recessive]
        (read.length = 41 + 8 * numberOf ((read.drop 17).take 4) → receptionCommand read ∈ ev)
        ∧ (read.length ≠ 41 + 8 * numberOf ((read.drop 17).take 4) →
            ∀ c ∈ ev, c = .stuckEnd ∨ c = .lineStuck))
    ∧ (s.line.attempt = none → s.line.receiving = none →
        (.startBit ∈ ev ↔ recessive = false ∧ s.line.condition = .idle)
        ∧ (s.line.condition = .stuck → .lineIdle ∉ ev)
        ∧ (s.line.condition = .busy →
            (.lineIdle ∈ ev ↔ recessive = true ∧ 10 ≤ s.line.recessiveRun))
        ∧ (s.line.condition = .idle →
            (.lineIdle ∈ ev ↔
              recessive = true ∧ 10 ≤ s.line.recessiveRun ∧ s.strapsValid = true
                ∧ ∃ k, s.slotWaits k = true))))
  ∧ ((∀ own other : ClaimField,
    (losesTo own other = true ↔ other.toNat < own.toNat)
    ∧ losesTo own own = false
    ∧ (own ≠ other → losesTo own other = !losesTo other own)
    ∧ (∀ p, lossAt 2 (bitsOf own.toNat 7) (bitsOf other.toNat 7) = some p →
        2 ≤ p ∧ p ≤ 8 ∧ own.getMsbD (p - 2) = true ∧ other.getMsbD (p - 2) = false
          ∧ ∀ q, 2 ≤ q → q < p → own.getMsbD (q - 2) = other.getMsbD (q - 2)))
  ∧ (∀ (c : BitVec 2) (sender : StationNo),
    (claimOf c sender).toNat = 32 * c.toNat + sender.toNat)
  ∧ (∀ position : Nat,
    (judgeBit position true false = .arbitrationLoss ↔ 2 ≤ position ∧ position ≤ 8)
    ∧ (judgeBit position true false = .bitError ↔ position < 2 ∨ 8 < position)
    ∧ judgeBit position false true = .bitError
    ∧ judgeBit position true true = .good ∧ judgeBit position false false = .good))

/-- The register starts at 0xFFFF; for each further bit it is shifted left by one with 0 entering, and combined with
0x1021 when its top bit and the incoming bit differ. For every frame of at most 15 payload bytes the checked
bits are 13 + 8L in number, they are the bits of its line form from its ninth bit, and its check, the register
after the last of them, follows them there top bit first as it stands. A received frame is good only when the
sixteen bits after the payload are the register over the bits read, top bit first. -/
def Obligations.CheckOfAFrameIsItsCrc : Prop :=
  crc [] = 0xFFFF
  ∧ (∀ (bits : List Bool) (b : Bool),
    crc (bits ++ [b]) =
      (if xor (crc bits).msb b then (crc bits <<< 1) ^^^ 0x1021 else crc bits <<< 1))
  ∧ (∀ f : Frame, f.payload.length ≤ 15 →
    (checkedBits f).length = 13 + 8 * f.payload.length
    ∧ checkedBits f =
        (List.range 4).map (fun i => f.kind.getMsbD i)
          ++ (List.range 5).map (fun i => f.target.getMsbD i)
          ++ (List.range 4).map (fun i => (BitVec.ofNat 4 f.payload.length).getMsbD i)
          ++ f.payload.flatMap (fun b => (List.range 8).map (fun i => b.getMsbD i))
    ∧ ((frameBits f).drop 8).take (13 + 8 * f.payload.length) = checkedBits f
    ∧ ((frameBits f).drop (21 + 8 * f.payload.length)).take 16 =
        (List.range 16).map (fun i => (crc (checkedBits f)).getMsbD i))
  ∧ (∀ (bits : List Bool) (f : Frame), judgeBits bits = some f →
    (bits.drop (21 + 8 * f.payload.length)).take 16 =
      (List.range 16).map
        (fun i => (crc ((bits.drop 8).take (13 + 8 * f.payload.length))).getMsbD i))

/-- For every frame of at most 15 payload bytes whose class, sender and length are those of its kind (a code that
names no kind is judged on check and end mark alone, log 20): its line form is 41 + 8L bits, the judgement of
those bits gives the frame back, every field of it, and the reception is the command of its kind. For a head
with straps of 1 to 30, the frame of every attempt whose payload has the length of its slot's kind (3 for FAULT,
SHUT and OPEN, 2 for HOLD, 15 for STATUS and RESULT) has good fields, so it reads back as sent, with the own
number as sender and target 31. -/
def Obligations.FramesOnTheLineReadBack : Prop :=
  (∀ f : Frame, f.payload.length ≤ 15 → fieldsGood f = true →
    (frameBits f).length = 41 + 8 * f.payload.length
      ∧ judgeBits (frameBits f) = some f ∧ receptionCommand (frameBits f) = frameCommand f)
  ∧ (∀ (s : State) (a : Attempt), s.strapsValid = true →
    a.payload.length =
        (match a.slot with
        | .faultSlot => 3
        | .holdSlot => 2
        | .shutSlot => 3
        | .openSlot => 3
        | .statusSlot => 15
        | .resultSlot => 15) →
    judgeBits (frameBits (attemptFrame s a)) = some (attemptFrame s a)
      ∧ (attemptFrame s a).sender = s.line.station ∧ (attemptFrame s a).target = everyStation)

/-- For every command other than RESET and every state: the straps stay; the cycle counter changes at MK_INFEED
alone; the Recipe Store at LOAD and LOAD_END alone, and at them only in LOADING and READY; the zero offset at
ZEROING_TIMER_EXPIRY alone; the readings, validities and miss counts of the channels and the transaction in
progress at SENSOR_TRANSACTION_END alone, no command beginning one; the level of GAS_FB at its own two events; a
latched cell is cleared by CLEAR alone; the enables change at LOAD and LOAD_END alone; no command but
DRAW_COUNTDOWN and a LOAD makes the phantoms fewer; GAS goes from off to on, and a driven SELF entry appears, at
FRAME_COMPLETION alone. The model's clock changes at no command but RESET. -/
def Obligations.OnlyNamedCommandsChangeAUnit : Prop :=
  ∀ (c : Instr) (s t : State), exec c s = .next t → (∀ straps, c ≠ .reset straps) →
    t.line.station = s.line.station ∧ t.clock = s.clock
    ∧ ((∀ b, c ≠ .mkInfeed b) → t.cycle.counter = s.cycle.counter)
    ∧ ((∀ a b o d, c ≠ .load a b o d) → (∀ a b n, c ≠ .loadEnd a b n) →
        t.recipe = s.recipe ∧ t.fault.enables = s.fault.enables)
    ∧ (s.cycle.station ≠ .loading → s.cycle.station ≠ .ready →
        t.recipe = s.recipe ∧ t.fault.enables = s.fault.enables)
    ∧ (c ≠ .zeroingTimerExpiry → t.sensor.zeroOffset = s.sensor.zeroOffset)
    ∧ ((∀ h r, c ≠ .sensorTransactionEnd h r) →
        t.sensor.header = s.sensor.header ∧ t.sensor.bell = s.sensor.bell
          ∧ t.sensor.transaction = s.sensor.transaction)
    ∧ t.sensor.lastPair = s.sensor.lastPair
    ∧ (c ≠ .gasFbOpens → c ≠ .gasFbCloses → t.gasFb = s.gasFb)
    ∧ ((∀ a b k, c ≠ .clear a b k) →
        ∀ k : Cell, s.latched k = true → t.latched k = true)
    ∧ (c ≠ .drawCountdown → (∀ a b o d, c ≠ .load a b o d) →
        phantomCount s.draw.phantoms ≤ phantomCount t.draw.phantoms)
    ∧ (c ≠ .frameCompletion →
        (s.gasOn = false → t.gasOn = false)
          ∧ (s.draw.self ≠ some .driven → t.draw.self ≠ some .driven))

/-- ALERT_N agrees with the cells and enables just when it is asserted exactly while one of the cells VALVE_STUCK,
CRIMP_JAM, HEADER_LOST, BELL_LOST, LINE_DEAD and DUPLICATE is latched, or one of MARK_ORDER, ZERO_DRIFT,
LINE_NOISY and REJECT_RUN is latched with its enable set. From every state in which it agrees, whatever the
queue holds, a step answers only states in which it agrees: the output changes at the very event that changes
the outcome, and nothing else enters it. -/
def Obligations.AlertFollowsTheCellsAtEveryStep : Prop :=
  (∀ s : State,
    AlertAgrees s ↔
      (s.fault.alert = true ↔
        (∃ k, k ∈ [Cell.valveStuck, .crimpJam, .headerLost, .bellLost, .lineDead, .duplicate]
            ∧ s.latched k = true)
          ∨ (s.latched .markOrder = true ∧ s.fault.enables.getLsbD 0 = true)
          ∨ (s.latched .zeroDrift = true ∧ s.fault.enables.getLsbD 1 = true)
          ∨ (s.latched .lineNoisy = true ∧ s.fault.enables.getLsbD 2 = true)
          ∨ (s.latched .rejectRun = true ∧ s.fault.enables.getLsbD 3 = true)))
  ∧ (∀ s t : State, AlertAgrees s → step s = .next t → AlertAgrees t)

/-- Each of these, where it holds, holds after every step, whatever the queue holds: a latched class F cell keeps
the station in LOADING or FAULTED; the image is in its canonical form; the zero offset is at most 200 kPa, the
zero debt at most 4, the miss counts at most 3 and the sample list at most 16 readings; the result queue holds
at most 8 records and the drop count at most 255; the recessive run is at most 11, the dominant run at most 200
and the consecutive-bad count at most 16; M and its value at the pulse's start are at most 50,000,000 µg. -/
def Obligations.PlainLawsHoldAtEveryStep : Prop :=
  (∀ s t : State, FaultsHold s → step s = .next t → FaultsHold t)
  ∧ (∀ s t : State, ImageLaw s → step s = .next t → ImageLaw t)
  ∧ (∀ s t : State, SensorLaw s → step s = .next t → SensorLaw t)
  ∧ (∀ s t : State, QueueLaw s → step s = .next t → QueueLaw t)
  ∧ (∀ s t : State, LineLaw s → step s = .next t → LineLaw t)
  ∧ (∀ s t : State, MassLaw s → step s = .next t → MassLaw t)

/-- From every state in which the recipe is absent just in LOADING and a recipe present lies in its ranges field by
field, a step answers only such states, whatever the queue holds. From every state that meets the recipe's law
and in which the draw table has strictly rising keys below 31, none of them the own number, with PEER and
PHANTOM remainings of 1 to 500, a step answers only such states, whatever the queue holds. From every state that
meets the recipe's law and in which the hold table has strictly rising keys, below 31 with valid straps, and 1
to 255 quanta in each entry, the own entry standing just while the station is ASSERTED, and ASSERTED only in
READY and RUN, a step answers only such states, whatever the queue holds. -/
def Obligations.RecipeAndTablesKeepTheirForm : Prop :=
  (∀ s t : State, RecipeLaw s → step s = .next t → RecipeLaw t
)
  ∧ (∀ s t : State, DrawLaw s → step s = .next t → DrawLaw t
)
  ∧ (∀ s t : State, HoldLaw s → step s = .next t → HoldLaw t
)

/-- From every state in which a latched class F cell keeps the station in LOADING or FAULTED, the phase is RETURN
outside RUN, the context is open just outside RETURN and PASS, both sequencers are in IDLE without a context and
the gas sequencer in CRIMP and WAIT_WINDOW, the gassing stages lie in phase GAS and stage CHECK in phase CHECK,
stage PULSE goes with a driven SELF and without a close window, and a stuck episode goes with GAS_FB open,
VALVE_STUCK latched and no close window, a step answers only such states, whatever the queue holds. -/
def Obligations.PocketAndValveStayTogether : Prop :=
  ∀ s t : State, PocketLaw s → step s = .next t → PocketLaw t

/-- At State.reset ALERT_N agrees with the cells and the laws of the faults, the recipe, the image, the tables, the
bounds and the pocket hold (the reset values of logs 5 to 8 among them are the model's choice). Wherever the
pocket's law holds, GAS is on only in RUN, in pocket phase GAS and stage PULSE, with a SELF entry held; and
outside RUN GAS, FORM and CLOSE are off and VENT is on. -/
def Obligations.LawsHoldAtResetAndKeepGasSafe : Prop :=
  (AlertAgrees State.reset ∧ FaultsHold State.reset ∧ RecipeLaw State.reset
    ∧ ImageLaw State.reset ∧ DrawLaw State.reset ∧ HoldLaw State.reset ∧ SensorLaw State.reset
    ∧ QueueLaw State.reset ∧ LineLaw State.reset ∧ MassLaw State.reset ∧ PocketLaw State.reset)
  ∧ (∀ s : State, PocketLaw s → GasSafe s ∧ OutputsRest s)

/-- The codes are those of section 12.2, each named number by number; reason codes are the priorities of R164,
condition bits 0..15 and cells 0..9 in the order of their tables. The own valve phase is NONE 0, OPEN 1, CLOSING
2 with its remaining, or STUCK 3 by the SELF entry, in LOADING STUCK just in a stuck episode (R146); PEER and
STUCK entries are counted apart. For every state whose zero debt, zero offset, bell and header, entry counts,
remaining of a closing SELF, result queue, loaded length and drop count lie in the ranges section 12.4 gives
them, the STATUS payload is 15 bytes, and each field of section 12.4's table is read back from its bits: codes
as section 12.2 gives them, the 9-bit zero offset, the loaded length with its bit 8 in bit 15 of bytes 8..9 and
bit 14 of them 0, the enables in bits 13..10 (cell 6 in bit 13, log 18) and the latched cells in bits 9..0. For
every record with depth and peak below 65,536, mass below 16,777,216, pulses 0..16 and strikes used 0..7, and
every drop count of at most 255, the RESULT payload is 15 bytes and carries the record's fields as section 12.3
lays them out. -/
def Obligations.PayloadsCarryTheirFields : Prop :=
  ([Station.loading, .ready, .run, .parked, .standby, .faulted].map stationCode = [0, 1, 2, 3, 4, 5]
    ∧ [Phase.returning, .crimp, .waitWindow, .gas, .check, .sealed, .pass].map phaseCode
        = [0, 1, 2, 3, 4, 5, 6]
    ∧ [Validity.notYet, .valid, .stale].map validityCode = [0, 1, 2]
    ∧ [Claim.none, .waiting, .placed, .cancelled].map claimCode = [0, 1, 2, 3]
    ∧ [LoadResult.none, .accepted, .refused].map loadResultCode = [0, 1, 2]
    ∧ [RefusalCause.none, .length, .check, .version, .offset, .body, .repeated, .short,
        .missing].map refusalCode = [0, 1, 2, 3, 4, 5, 6, 7, 8]
    ∧ [StartRefusal.none, .cellsLatched].map startRefusalCode = [0, 1]
    ∧ [Reason.headFaulted, .headStopped, .skippedZero, .noCan, .markError, .crimpBad, .lateCrimp,
        .sensorLost, .valveFault, .stemBlocked, .notGassed, .lowDose, .highDose, .leak,
        .good].map reasonCode = [1, 2, 3, 4, 5, 6, 7, 8, 9, 10, 11, 12, 13, 14, 15]
    ∧ [Condition.crimpNoSeat, .crimpOverforce, .crimpTimeout, .crimpWindow, .strike, .drawWait, .holdWait,
        .noDrive, .windowCut, .maxPulses, .checkCut, .zeroOverdue, .pcClamped, .sat, .markLate,
        .lineWait].map conditionBit
        = [0, 1, 2, 3, 4, 5, 6, 7, 8, 9, 10, 11, 12, 13, 14, 15]
    ∧ [Cell.valveStuck, .crimpJam, .headerLost, .bellLost, .lineDead, .duplicate, .markOrder, .zeroDrift,
        .lineNoisy, .rejectRun].map cellNumber
        = [0, 1, 2, 3, 4, 5, 6, 7, 8, 9])
  ∧ (∀ s : State,
    s.valvePhase =
        (if s.cycle.station = .loading then (if s.gas.stuckEpisode then 3 else 0, 0)
        else
          match s.draw.self with
          | none => (0, 0)
          | some .driven => (1, 0)
          | some (.closing n) => (2, n)
          | some .stuck => (3, 0))
      ∧ s.peerCount + s.stuckCount = s.draw.keyed.length
      ∧ s.stuckCount = (s.draw.keyed.filter (fun e => decide (e.2 = .stuck))).length)
  ∧ (∀ s : State,
    s.sensor.zeroDebt ≤ 4 → s.sensor.zeroOffset ≤ 200 → s.draw.keyed.length ≤ 30 →
    s.hold.table.length ≤ 31 → (∀ n, s.draw.self = some (.closing n) → n ≤ 10) →
    s.result.queue.length ≤ 8 → s.recipe.loadedLength ≤ 256 → s.result.dropCount ≤ 255 →
    let b (i : Nat) : Nat := ((statusPayload s).getD i 0).toNat
    (statusPayload s).length = 15
    ∧ b 0 / 32 = stationCode s.cycle.station ∧ b 0 / 4 % 8 = phaseCode s.cycle.phase
    ∧ b 0 / 2 % 2 = s.cycle.stopPending.toNat ∧ b 0 % 2 = startRefusalCode s.cycle.startRefusal
    ∧ b 1 / 64 = validityCode s.sensor.header.validity
    ∧ b 1 / 16 % 4 = validityCode s.sensor.bell.validity
    ∧ b 1 / 2 % 8 = s.sensor.zeroDebt ∧ b 1 % 2 = s.hold.asserted.toNat
    ∧ b 2 / 8 = s.peerCount ∧ b 2 % 8 = phantomCount s.draw.phantoms
    ∧ b 3 / 8 = s.stuckCount ∧ b 3 / 2 % 4 = claimCode s.draw.claim
    ∧ b 3 % 2 = s.fault.alert.toNat
    ∧ b 4 / 64 = s.valvePhase.1 ∧ b 4 / 4 % 16 = s.valvePhase.2
    ∧ b 4 % 4 = loadResultCode s.recipe.loadResult
    ∧ b 5 / 8 = s.hold.table.length ∧ b 5 / 4 % 2 = s.recipe.clampFlag.toNat
    ∧ b 5 / 2 % 2 = s.recipe.unknownFlag.toNat
    ∧ b 5 % 2 * 256 + b 6 = s.sensor.zeroOffset
    ∧ b 7 / 16 = refusalCode s.recipe.refusal ∧ b 7 % 16 = s.result.queue.length
    ∧ b 8 / 128 * 256 + b 10 = s.recipe.loadedLength ∧ b 8 / 64 % 2 = 0
    ∧ b 8 / 32 % 2 = (s.fault.enables.getLsbD 0).toNat
    ∧ b 8 / 16 % 2 = (s.fault.enables.getLsbD 1).toNat
    ∧ b 8 / 8 % 2 = (s.fault.enables.getLsbD 2).toNat
    ∧ b 8 / 4 % 2 = (s.fault.enables.getLsbD 3).toNat
    ∧ b 8 % 4 * 256 + b 9 = s.fault.latched.toNat
    ∧ b 11 * 256 + b 12 = s.recipe.checkResult.toNat
    ∧ b 13 = s.result.dropCount ∧ b 14 = s.result.sequence.toNat)
  ∧ (∀ (r : Record) (dropped : Nat), r.depth < 65536 → r.peak < 65536 → r.mass < 16777216 →
    r.pulses ≤ 16 → r.strikesUsed ≤ 7 → dropped ≤ 255 →
    let b (i : Nat) : Nat := ((resultPayload r dropped).getD i 0).toNat
    (resultPayload r dropped).length = 15
    ∧ b 0 = r.sequence.toNat ∧ b 1 * 256 + b 2 = r.cycle.toNat ∧ b 3 = reasonCode r.reason
    ∧ b 4 * 256 + b 5 = r.conditions.toNat ∧ b 6 * 256 + b 7 = r.depth
    ∧ b 8 * 256 + b 9 = r.peak ∧ (b 10 * 256 + b 11) * 256 + b 12 = r.mass
    ∧ b 13 / 8 = r.pulses ∧ b 13 % 8 = r.strikesUsed ∧ b 14 = dropped)
end

