-- ==== Sys2Proof/Laws/State.lean ====
section
/-!
SUPPORT. What each shared operation of Machine/Ops.lean and Machine/Claims.lean leaves unchanged: one lemma for
each operation, a conjunction of equations that simp uses one by one, so that no later proof unfolds a record
update.
-/

namespace Sys2Proof.Machine

@[simp] theorem onContext_keeps (f : CanContext → CanContext) (s : State) :
    (onContext f s).pending = s.pending ∧ (onContext f s).clock = s.clock ∧
    (onContext f s).freeCount = s.freeCount ∧ (onContext f s).gasFb = s.gasFb ∧
    (onContext f s).cycle = s.cycle ∧ (onContext f s).crimp = s.crimp ∧ (onContext f s).sensor = s.sensor ∧
    (onContext f s).dose = s.dose ∧ (onContext f s).gas = s.gas ∧ (onContext f s).line = s.line ∧
    (onContext f s).draw = s.draw ∧ (onContext f s).hold = s.hold ∧ (onContext f s).result = s.result ∧
    (onContext f s).recipe = s.recipe ∧ (onContext f s).fault = s.fault :=
  by simp [onContext]

@[simp] theorem addReason_keeps (r : Reason) (s : State) :
    (addReason r s).pending = s.pending ∧ (addReason r s).clock = s.clock ∧
    (addReason r s).freeCount = s.freeCount ∧ (addReason r s).gasFb = s.gasFb ∧
    (addReason r s).cycle = s.cycle ∧ (addReason r s).crimp = s.crimp ∧ (addReason r s).sensor = s.sensor ∧
    (addReason r s).dose = s.dose ∧ (addReason r s).gas = s.gas ∧ (addReason r s).line = s.line ∧
    (addReason r s).draw = s.draw ∧ (addReason r s).hold = s.hold ∧ (addReason r s).result = s.result ∧
    (addReason r s).recipe = s.recipe ∧ (addReason r s).fault = s.fault :=
  by simp [addReason]

@[simp] theorem addCondition_keeps (k : Condition) (s : State) :
    (addCondition k s).pending = s.pending ∧ (addCondition k s).clock = s.clock ∧
    (addCondition k s).freeCount = s.freeCount ∧ (addCondition k s).gasFb = s.gasFb ∧
    (addCondition k s).cycle = s.cycle ∧ (addCondition k s).crimp = s.crimp ∧
    (addCondition k s).sensor = s.sensor ∧ (addCondition k s).dose = s.dose ∧
    (addCondition k s).gas = s.gas ∧ (addCondition k s).line = s.line ∧ (addCondition k s).draw = s.draw ∧
    (addCondition k s).hold = s.hold ∧ (addCondition k s).result = s.result ∧
    (addCondition k s).recipe = s.recipe ∧ (addCondition k s).fault = s.fault :=
  by simp [addCondition]

@[simp] theorem onGasPart_keeps (f : GasPart → GasPart) (s : State) :
    (onGasPart f s).pending = s.pending ∧ (onGasPart f s).clock = s.clock ∧
    (onGasPart f s).freeCount = s.freeCount ∧ (onGasPart f s).gasFb = s.gasFb ∧
    (onGasPart f s).cycle = s.cycle ∧ (onGasPart f s).crimp = s.crimp ∧ (onGasPart f s).sensor = s.sensor ∧
    (onGasPart f s).dose = s.dose ∧ (onGasPart f s).gas = s.gas ∧ (onGasPart f s).line = s.line ∧
    (onGasPart f s).draw = s.draw ∧ (onGasPart f s).hold = s.hold ∧ (onGasPart f s).result = s.result ∧
    (onGasPart f s).recipe = s.recipe ∧ (onGasPart f s).fault = s.fault :=
  by simp [onGasPart]

@[simp] theorem onCrimpPart_keeps (f : CrimpPart → CrimpPart) (s : State) :
    (onCrimpPart f s).pending = s.pending ∧ (onCrimpPart f s).clock = s.clock ∧
    (onCrimpPart f s).freeCount = s.freeCount ∧ (onCrimpPart f s).gasFb = s.gasFb ∧
    (onCrimpPart f s).cycle = s.cycle ∧ (onCrimpPart f s).crimp = s.crimp ∧
    (onCrimpPart f s).sensor = s.sensor ∧ (onCrimpPart f s).dose = s.dose ∧ (onCrimpPart f s).gas = s.gas ∧
    (onCrimpPart f s).line = s.line ∧ (onCrimpPart f s).draw = s.draw ∧ (onCrimpPart f s).hold = s.hold ∧
    (onCrimpPart f s).result = s.result ∧ (onCrimpPart f s).recipe = s.recipe ∧
    (onCrimpPart f s).fault = s.fault :=
  by simp [onCrimpPart]

@[simp] theorem onCheckPart_keeps (f : CheckPart → CheckPart) (s : State) :
    (onCheckPart f s).pending = s.pending ∧ (onCheckPart f s).clock = s.clock ∧
    (onCheckPart f s).freeCount = s.freeCount ∧ (onCheckPart f s).gasFb = s.gasFb ∧
    (onCheckPart f s).cycle = s.cycle ∧ (onCheckPart f s).crimp = s.crimp ∧
    (onCheckPart f s).sensor = s.sensor ∧ (onCheckPart f s).dose = s.dose ∧ (onCheckPart f s).gas = s.gas ∧
    (onCheckPart f s).line = s.line ∧ (onCheckPart f s).draw = s.draw ∧ (onCheckPart f s).hold = s.hold ∧
    (onCheckPart f s).result = s.result ∧ (onCheckPart f s).recipe = s.recipe ∧
    (onCheckPart f s).fault = s.fault :=
  by simp [onCheckPart]

@[simp] theorem onLastPulse_keeps (f : Pulse → Pulse) (s : State) :
    (onLastPulse f s).pending = s.pending ∧ (onLastPulse f s).clock = s.clock ∧
    (onLastPulse f s).freeCount = s.freeCount ∧ (onLastPulse f s).gasFb = s.gasFb ∧
    (onLastPulse f s).cycle = s.cycle ∧ (onLastPulse f s).crimp = s.crimp ∧
    (onLastPulse f s).sensor = s.sensor ∧ (onLastPulse f s).dose = s.dose ∧ (onLastPulse f s).gas = s.gas ∧
    (onLastPulse f s).line = s.line ∧ (onLastPulse f s).draw = s.draw ∧ (onLastPulse f s).hold = s.hold ∧
    (onLastPulse f s).result = s.result ∧ (onLastPulse f s).recipe = s.recipe ∧
    (onLastPulse f s).fault = s.fault :=
  by simp [onLastPulse]

@[simp] theorem placeStatus_keeps (s : State) :
    (placeStatus s).pending = s.pending ∧ (placeStatus s).clock = s.clock ∧
    (placeStatus s).freeCount = s.freeCount ∧ (placeStatus s).gasFb = s.gasFb ∧
    (placeStatus s).context = s.context ∧ (placeStatus s).cycle = s.cycle ∧
    (placeStatus s).crimp = s.crimp ∧ (placeStatus s).sensor = s.sensor ∧ (placeStatus s).dose = s.dose ∧
    (placeStatus s).gas = s.gas ∧ (placeStatus s).line.station = s.line.station ∧
    (placeStatus s).line.condition = s.line.condition ∧ (placeStatus s).line.faultSlot = s.line.faultSlot ∧
    (placeStatus s).line.holdSlot = s.line.holdSlot ∧ (placeStatus s).line.shutSlot = s.line.shutSlot ∧
    (placeStatus s).line.openSlot = s.line.openSlot ∧ (placeStatus s).line.resultSlot = s.line.resultSlot ∧
    (placeStatus s).line.attempt = s.line.attempt ∧ (placeStatus s).line.abort = s.line.abort ∧
    (placeStatus s).line.badCount = s.line.badCount ∧ (placeStatus s).draw = s.draw ∧
    (placeStatus s).hold = s.hold ∧ (placeStatus s).result = s.result ∧ (placeStatus s).recipe = s.recipe ∧
    (placeStatus s).fault = s.fault :=
  by simp [placeStatus]

@[simp] theorem placeFault_keeps (c : Cell) (s : State) :
    (placeFault c s).pending = s.pending ∧ (placeFault c s).clock = s.clock ∧
    (placeFault c s).freeCount = s.freeCount ∧ (placeFault c s).gasFb = s.gasFb ∧
    (placeFault c s).context = s.context ∧ (placeFault c s).cycle = s.cycle ∧
    (placeFault c s).crimp = s.crimp ∧ (placeFault c s).sensor = s.sensor ∧
    (placeFault c s).dose = s.dose ∧ (placeFault c s).gas = s.gas ∧
    (placeFault c s).line.station = s.line.station ∧ (placeFault c s).line.condition = s.line.condition ∧
    (placeFault c s).line.holdSlot = s.line.holdSlot ∧ (placeFault c s).line.shutSlot = s.line.shutSlot ∧
    (placeFault c s).line.openSlot = s.line.openSlot ∧
    (placeFault c s).line.statusSlot = s.line.statusSlot ∧
    (placeFault c s).line.resultSlot = s.line.resultSlot ∧ (placeFault c s).line.attempt = s.line.attempt ∧
    (placeFault c s).line.abort = s.line.abort ∧ (placeFault c s).line.badCount = s.line.badCount ∧
    (placeFault c s).draw = s.draw ∧ (placeFault c s).hold = s.hold ∧ (placeFault c s).result = s.result ∧
    (placeFault c s).recipe = s.recipe ∧ (placeFault c s).fault = s.fault :=
  by simp [placeFault]

@[simp] theorem placeHold_keeps (q : Nat) (s : State) :
    (placeHold q s).pending = s.pending ∧ (placeHold q s).clock = s.clock ∧
    (placeHold q s).freeCount = s.freeCount ∧ (placeHold q s).gasFb = s.gasFb ∧
    (placeHold q s).context = s.context ∧ (placeHold q s).cycle = s.cycle ∧
    (placeHold q s).crimp = s.crimp ∧ (placeHold q s).sensor = s.sensor ∧ (placeHold q s).dose = s.dose ∧
    (placeHold q s).gas = s.gas ∧ (placeHold q s).line.station = s.line.station ∧
    (placeHold q s).line.condition = s.line.condition ∧ (placeHold q s).line.faultSlot = s.line.faultSlot ∧
    (placeHold q s).line.shutSlot = s.line.shutSlot ∧ (placeHold q s).line.openSlot = s.line.openSlot ∧
    (placeHold q s).line.statusSlot = s.line.statusSlot ∧
    (placeHold q s).line.resultSlot = s.line.resultSlot ∧ (placeHold q s).line.attempt = s.line.attempt ∧
    (placeHold q s).line.abort = s.line.abort ∧ (placeHold q s).line.badCount = s.line.badCount ∧
    (placeHold q s).draw = s.draw ∧ (placeHold q s).hold = s.hold ∧ (placeHold q s).result = s.result ∧
    (placeHold q s).recipe = s.recipe ∧ (placeHold q s).fault = s.fault :=
  by simp [placeHold]

@[simp] theorem placeShut_keeps (samples : Nat) (s : State) :
    (placeShut samples s).pending = s.pending ∧ (placeShut samples s).clock = s.clock ∧
    (placeShut samples s).freeCount = s.freeCount ∧ (placeShut samples s).gasFb = s.gasFb ∧
    (placeShut samples s).context = s.context ∧ (placeShut samples s).cycle = s.cycle ∧
    (placeShut samples s).crimp = s.crimp ∧ (placeShut samples s).sensor = s.sensor ∧
    (placeShut samples s).dose = s.dose ∧ (placeShut samples s).gas = s.gas ∧
    (placeShut samples s).line.station = s.line.station ∧
    (placeShut samples s).line.condition = s.line.condition ∧
    (placeShut samples s).line.faultSlot = s.line.faultSlot ∧
    (placeShut samples s).line.holdSlot = s.line.holdSlot ∧
    (placeShut samples s).line.openSlot = s.line.openSlot ∧
    (placeShut samples s).line.statusSlot = s.line.statusSlot ∧
    (placeShut samples s).line.resultSlot = s.line.resultSlot ∧
    (placeShut samples s).line.attempt = s.line.attempt ∧ (placeShut samples s).line.abort = s.line.abort ∧
    (placeShut samples s).line.badCount = s.line.badCount ∧ (placeShut samples s).draw = s.draw ∧
    (placeShut samples s).hold = s.hold ∧ (placeShut samples s).result = s.result ∧
    (placeShut samples s).recipe = s.recipe ∧ (placeShut samples s).fault = s.fault :=
  by simp [placeShut]

@[simp] theorem placeOpen_keeps (s : State) :
    (placeOpen s).pending = s.pending ∧ (placeOpen s).clock = s.clock ∧
    (placeOpen s).freeCount = s.freeCount ∧ (placeOpen s).gasFb = s.gasFb ∧
    (placeOpen s).context = s.context ∧ (placeOpen s).cycle = s.cycle ∧ (placeOpen s).crimp = s.crimp ∧
    (placeOpen s).sensor = s.sensor ∧ (placeOpen s).dose = s.dose ∧ (placeOpen s).gas = s.gas ∧
    (placeOpen s).line.station = s.line.station ∧ (placeOpen s).line.condition = s.line.condition ∧
    (placeOpen s).line.faultSlot = s.line.faultSlot ∧ (placeOpen s).line.holdSlot = s.line.holdSlot ∧
    (placeOpen s).line.shutSlot = s.line.shutSlot ∧ (placeOpen s).line.statusSlot = s.line.statusSlot ∧
    (placeOpen s).line.resultSlot = s.line.resultSlot ∧ (placeOpen s).line.attempt = s.line.attempt ∧
    (placeOpen s).line.abort = s.line.abort ∧ (placeOpen s).line.badCount = s.line.badCount ∧
    (placeOpen s).draw = s.draw ∧ (placeOpen s).hold = s.hold ∧ (placeOpen s).result = s.result ∧
    (placeOpen s).recipe = s.recipe ∧ (placeOpen s).fault = s.fault :=
  by simp [placeOpen]

@[simp] theorem withdrawOpen_keeps (s : State) :
    (withdrawOpen s).pending = s.pending ∧ (withdrawOpen s).clock = s.clock ∧
    (withdrawOpen s).freeCount = s.freeCount ∧ (withdrawOpen s).gasFb = s.gasFb ∧
    (withdrawOpen s).context = s.context ∧ (withdrawOpen s).cycle = s.cycle ∧
    (withdrawOpen s).crimp = s.crimp ∧ (withdrawOpen s).sensor = s.sensor ∧
    (withdrawOpen s).dose.running = s.dose.running ∧ (withdrawOpen s).dose.planned = s.dose.planned ∧
    (withdrawOpen s).dose.elapsed = s.dose.elapsed ∧
    (withdrawOpen s).dose.massAtStart = s.dose.massAtStart ∧ (withdrawOpen s).gas = s.gas ∧
    (withdrawOpen s).line.station = s.line.station ∧ (withdrawOpen s).line.condition = s.line.condition ∧
    (withdrawOpen s).line.faultSlot = s.line.faultSlot ∧ (withdrawOpen s).line.holdSlot = s.line.holdSlot ∧
    (withdrawOpen s).line.shutSlot = s.line.shutSlot ∧
    (withdrawOpen s).line.statusSlot = s.line.statusSlot ∧
    (withdrawOpen s).line.resultSlot = s.line.resultSlot ∧ (withdrawOpen s).line.attempt = s.line.attempt ∧
    (withdrawOpen s).line.abort = s.line.abort ∧ (withdrawOpen s).line.badCount = s.line.badCount ∧
    (withdrawOpen s).draw = s.draw ∧ (withdrawOpen s).hold = s.hold ∧ (withdrawOpen s).result = s.result ∧
    (withdrawOpen s).recipe = s.recipe ∧ (withdrawOpen s).fault = s.fault :=
  by simp [withdrawOpen]

@[simp] theorem syncResult_keeps (s : State) :
    (syncResult s).pending = s.pending ∧ (syncResult s).clock = s.clock ∧
    (syncResult s).freeCount = s.freeCount ∧ (syncResult s).gasFb = s.gasFb ∧
    (syncResult s).context = s.context ∧ (syncResult s).cycle = s.cycle ∧ (syncResult s).crimp = s.crimp ∧
    (syncResult s).sensor = s.sensor ∧ (syncResult s).dose = s.dose ∧ (syncResult s).gas = s.gas ∧
    (syncResult s).line.station = s.line.station ∧ (syncResult s).line.condition = s.line.condition ∧
    (syncResult s).line.faultSlot = s.line.faultSlot ∧ (syncResult s).line.holdSlot = s.line.holdSlot ∧
    (syncResult s).line.shutSlot = s.line.shutSlot ∧ (syncResult s).line.openSlot = s.line.openSlot ∧
    (syncResult s).line.statusSlot = s.line.statusSlot ∧ (syncResult s).line.attempt = s.line.attempt ∧
    (syncResult s).line.abort = s.line.abort ∧ (syncResult s).line.badCount = s.line.badCount ∧
    (syncResult s).draw = s.draw ∧ (syncResult s).hold = s.hold ∧ (syncResult s).result = s.result ∧
    (syncResult s).recipe = s.recipe ∧ (syncResult s).fault = s.fault :=
  by unfold syncResult; (try dsimp only); (repeat' split) <;> simp

@[simp] theorem formAlert_keeps (s : State) :
    (formAlert s).pending = s.pending ∧ (formAlert s).clock = s.clock ∧
    (formAlert s).freeCount = s.freeCount ∧ (formAlert s).gasFb = s.gasFb ∧
    (formAlert s).context = s.context ∧ (formAlert s).cycle = s.cycle ∧ (formAlert s).crimp = s.crimp ∧
    (formAlert s).sensor = s.sensor ∧ (formAlert s).dose = s.dose ∧ (formAlert s).gas = s.gas ∧
    (formAlert s).line = s.line ∧ (formAlert s).draw = s.draw ∧ (formAlert s).hold = s.hold ∧
    (formAlert s).result = s.result ∧ (formAlert s).recipe = s.recipe ∧
    (formAlert s).fault.latched = s.fault.latched ∧ (formAlert s).fault.enables = s.fault.enables :=
  by simp [formAlert]

@[simp] theorem latch_keeps (c : Cell) (s : State) :
    (latch c s).pending = s.pending ∧ (latch c s).clock = s.clock ∧ (latch c s).freeCount = s.freeCount ∧
    (latch c s).gasFb = s.gasFb ∧ (latch c s).context = s.context ∧ (latch c s).cycle = s.cycle ∧
    (latch c s).crimp = s.crimp ∧ (latch c s).sensor = s.sensor ∧ (latch c s).dose = s.dose ∧
    (latch c s).gas = s.gas ∧ (latch c s).line = s.line ∧ (latch c s).draw = s.draw ∧
    (latch c s).hold = s.hold ∧ (latch c s).result = s.result ∧ (latch c s).recipe = s.recipe ∧
    (latch c s).fault.enables = s.fault.enables ∧ (latch c s).fault.alert = s.fault.alert :=
  by simp [latch]

@[simp] theorem reportA_keeps (c : Cell) (s : State) :
    (reportA c s).pending = s.pending ∧ (reportA c s).clock = s.clock ∧
    (reportA c s).freeCount = s.freeCount ∧ (reportA c s).gasFb = s.gasFb ∧
    (reportA c s).context = s.context ∧ (reportA c s).cycle = s.cycle ∧ (reportA c s).crimp = s.crimp ∧
    (reportA c s).sensor = s.sensor ∧ (reportA c s).dose = s.dose ∧ (reportA c s).gas = s.gas ∧
    (reportA c s).line.station = s.line.station ∧ (reportA c s).line.condition = s.line.condition ∧
    (reportA c s).line.faultSlot = s.line.faultSlot ∧ (reportA c s).line.holdSlot = s.line.holdSlot ∧
    (reportA c s).line.shutSlot = s.line.shutSlot ∧ (reportA c s).line.openSlot = s.line.openSlot ∧
    (reportA c s).line.resultSlot = s.line.resultSlot ∧ (reportA c s).line.attempt = s.line.attempt ∧
    (reportA c s).line.abort = s.line.abort ∧ (reportA c s).line.badCount = s.line.badCount ∧
    (reportA c s).draw = s.draw ∧ (reportA c s).hold = s.hold ∧ (reportA c s).result = s.result ∧
    (reportA c s).recipe = s.recipe ∧ (reportA c s).fault.enables = s.fault.enables :=
  by unfold reportA; (try dsimp only); (repeat' split) <;> simp

@[simp] theorem countReject_keeps (r : Reason) (s : State) :
    (countReject r s).pending = s.pending ∧ (countReject r s).clock = s.clock ∧
    (countReject r s).freeCount = s.freeCount ∧ (countReject r s).gasFb = s.gasFb ∧
    (countReject r s).context = s.context ∧ (countReject r s).cycle = s.cycle ∧
    (countReject r s).crimp = s.crimp ∧ (countReject r s).sensor = s.sensor ∧
    (countReject r s).dose = s.dose ∧ (countReject r s).gas = s.gas ∧
    (countReject r s).line.station = s.line.station ∧ (countReject r s).line.condition = s.line.condition ∧
    (countReject r s).line.faultSlot = s.line.faultSlot ∧
    (countReject r s).line.holdSlot = s.line.holdSlot ∧ (countReject r s).line.shutSlot = s.line.shutSlot ∧
    (countReject r s).line.openSlot = s.line.openSlot ∧
    (countReject r s).line.resultSlot = s.line.resultSlot ∧
    (countReject r s).line.attempt = s.line.attempt ∧ (countReject r s).line.abort = s.line.abort ∧
    (countReject r s).line.badCount = s.line.badCount ∧ (countReject r s).draw = s.draw ∧
    (countReject r s).hold = s.hold ∧ (countReject r s).result.queue = s.result.queue ∧
    (countReject r s).result.sequence = s.result.sequence ∧
    (countReject r s).result.dropCount = s.result.dropCount ∧ (countReject r s).recipe = s.recipe ∧
    (countReject r s).fault.enables = s.fault.enables :=
  by unfold countReject; (try dsimp only); (repeat' split) <;> simp

@[simp] theorem queueRecord_keeps (r : Record) (s : State) :
    (queueRecord r s).pending = s.pending ∧ (queueRecord r s).clock = s.clock ∧
    (queueRecord r s).freeCount = s.freeCount ∧ (queueRecord r s).gasFb = s.gasFb ∧
    (queueRecord r s).context = s.context ∧ (queueRecord r s).cycle = s.cycle ∧
    (queueRecord r s).crimp = s.crimp ∧ (queueRecord r s).sensor = s.sensor ∧
    (queueRecord r s).dose = s.dose ∧ (queueRecord r s).gas = s.gas ∧
    (queueRecord r s).line.station = s.line.station ∧ (queueRecord r s).line.condition = s.line.condition ∧
    (queueRecord r s).line.faultSlot = s.line.faultSlot ∧
    (queueRecord r s).line.holdSlot = s.line.holdSlot ∧ (queueRecord r s).line.shutSlot = s.line.shutSlot ∧
    (queueRecord r s).line.openSlot = s.line.openSlot ∧
    (queueRecord r s).line.statusSlot = s.line.statusSlot ∧
    (queueRecord r s).line.attempt = s.line.attempt ∧ (queueRecord r s).line.abort = s.line.abort ∧
    (queueRecord r s).line.badCount = s.line.badCount ∧ (queueRecord r s).draw = s.draw ∧
    (queueRecord r s).hold = s.hold ∧ (queueRecord r s).result.sequence = s.result.sequence ∧
    (queueRecord r s).result.rejectRun = s.result.rejectRun ∧ (queueRecord r s).recipe = s.recipe ∧
    (queueRecord r s).fault = s.fault :=
  by unfold queueRecord; (try dsimp only); (repeat' split) <;> simp

@[simp] theorem accrueDebt_keeps (s : State) :
    (accrueDebt s).pending = s.pending ∧ (accrueDebt s).clock = s.clock ∧
    (accrueDebt s).freeCount = s.freeCount ∧ (accrueDebt s).gasFb = s.gasFb ∧
    (accrueDebt s).context = s.context ∧ (accrueDebt s).cycle = s.cycle ∧ (accrueDebt s).crimp = s.crimp ∧
    (accrueDebt s).sensor.header = s.sensor.header ∧ (accrueDebt s).sensor.bell = s.sensor.bell ∧
    (accrueDebt s).sensor.transaction = s.sensor.transaction ∧
    (accrueDebt s).sensor.lastPair = s.sensor.lastPair ∧
    (accrueDebt s).sensor.zeroOffset = s.sensor.zeroOffset ∧
    (accrueDebt s).sensor.zeroing = s.sensor.zeroing ∧
    (accrueDebt s).sensor.zeroSamples = s.sensor.zeroSamples ∧
    (accrueDebt s).sensor.sample = s.sensor.sample ∧ (accrueDebt s).dose = s.dose ∧
    (accrueDebt s).gas = s.gas ∧ (accrueDebt s).line.station = s.line.station ∧
    (accrueDebt s).line.condition = s.line.condition ∧ (accrueDebt s).line.faultSlot = s.line.faultSlot ∧
    (accrueDebt s).line.holdSlot = s.line.holdSlot ∧ (accrueDebt s).line.shutSlot = s.line.shutSlot ∧
    (accrueDebt s).line.openSlot = s.line.openSlot ∧ (accrueDebt s).line.resultSlot = s.line.resultSlot ∧
    (accrueDebt s).line.attempt = s.line.attempt ∧ (accrueDebt s).line.abort = s.line.abort ∧
    (accrueDebt s).line.badCount = s.line.badCount ∧ (accrueDebt s).draw = s.draw ∧
    (accrueDebt s).hold = s.hold ∧ (accrueDebt s).result = s.result ∧ (accrueDebt s).recipe = s.recipe ∧
    (accrueDebt s).fault = s.fault :=
  by unfold accrueDebt; (try dsimp only); (repeat' split) <;> simp

@[simp] theorem closeContext_keeps (s : State) :
    (closeContext s).pending = s.pending ∧ (closeContext s).clock = s.clock ∧
    (closeContext s).freeCount = s.freeCount ∧ (closeContext s).gasFb = s.gasFb ∧
    (closeContext s).cycle = s.cycle ∧ (closeContext s).crimp = s.crimp ∧
    (closeContext s).sensor.header = s.sensor.header ∧ (closeContext s).sensor.bell = s.sensor.bell ∧
    (closeContext s).sensor.transaction = s.sensor.transaction ∧
    (closeContext s).sensor.lastPair = s.sensor.lastPair ∧
    (closeContext s).sensor.zeroOffset = s.sensor.zeroOffset ∧
    (closeContext s).sensor.zeroing = s.sensor.zeroing ∧
    (closeContext s).sensor.zeroSamples = s.sensor.zeroSamples ∧
    (closeContext s).sensor.sample = s.sensor.sample ∧ (closeContext s).dose = s.dose ∧
    (closeContext s).gas = s.gas ∧ (closeContext s).line.station = s.line.station ∧
    (closeContext s).line.condition = s.line.condition ∧
    (closeContext s).line.faultSlot = s.line.faultSlot ∧ (closeContext s).line.holdSlot = s.line.holdSlot ∧
    (closeContext s).line.shutSlot = s.line.shutSlot ∧ (closeContext s).line.openSlot = s.line.openSlot ∧
    (closeContext s).line.attempt = s.line.attempt ∧ (closeContext s).line.abort = s.line.abort ∧
    (closeContext s).line.badCount = s.line.badCount ∧ (closeContext s).draw = s.draw ∧
    (closeContext s).hold = s.hold ∧ (closeContext s).recipe = s.recipe ∧
    (closeContext s).fault.enables = s.fault.enables :=
  by unfold closeContext; (try dsimp only); (repeat' split) <;> simp

@[simp] theorem startZeroing_keeps (s : State) :
    (startZeroing s).pending = s.pending ∧ (startZeroing s).clock = s.clock ∧
    (startZeroing s).freeCount = s.freeCount ∧ (startZeroing s).gasFb = s.gasFb ∧
    (startZeroing s).context = s.context ∧ (startZeroing s).cycle.station = s.cycle.station ∧
    (startZeroing s).cycle.phase = s.cycle.phase ∧ (startZeroing s).cycle.counter = s.cycle.counter ∧
    (startZeroing s).cycle.stopPending = s.cycle.stopPending ∧
    (startZeroing s).cycle.startRefusal = s.cycle.startRefusal ∧ (startZeroing s).crimp = s.crimp ∧
    (startZeroing s).sensor.header = s.sensor.header ∧ (startZeroing s).sensor.bell = s.sensor.bell ∧
    (startZeroing s).sensor.transaction = s.sensor.transaction ∧
    (startZeroing s).sensor.lastPair = s.sensor.lastPair ∧
    (startZeroing s).sensor.zeroOffset = s.sensor.zeroOffset ∧
    (startZeroing s).sensor.zeroDebt = s.sensor.zeroDebt ∧
    (startZeroing s).sensor.sample = s.sensor.sample ∧ (startZeroing s).dose = s.dose ∧
    (startZeroing s).gas = s.gas ∧ (startZeroing s).line = s.line ∧ (startZeroing s).draw = s.draw ∧
    (startZeroing s).hold = s.hold ∧ (startZeroing s).result = s.result ∧
    (startZeroing s).recipe = s.recipe ∧ (startZeroing s).fault = s.fault :=
  by simp [startZeroing]

@[simp] theorem endGrant_keeps (s : State) :
    (endGrant s).pending = s.pending ∧ (endGrant s).clock = s.clock ∧
    (endGrant s).freeCount = s.freeCount ∧ (endGrant s).gasFb = s.gasFb ∧
    (endGrant s).context = s.context ∧ (endGrant s).cycle.station = s.cycle.station ∧
    (endGrant s).cycle.phase = s.cycle.phase ∧ (endGrant s).cycle.counter = s.cycle.counter ∧
    (endGrant s).cycle.stopPending = s.cycle.stopPending ∧
    (endGrant s).cycle.startRefusal = s.cycle.startRefusal ∧ (endGrant s).crimp = s.crimp ∧
    (endGrant s).sensor.header = s.sensor.header ∧ (endGrant s).sensor.bell = s.sensor.bell ∧
    (endGrant s).sensor.transaction = s.sensor.transaction ∧
    (endGrant s).sensor.lastPair = s.sensor.lastPair ∧
    (endGrant s).sensor.zeroOffset = s.sensor.zeroOffset ∧
    (endGrant s).sensor.zeroDebt = s.sensor.zeroDebt ∧ (endGrant s).sensor.sample = s.sensor.sample ∧
    (endGrant s).dose = s.dose ∧ (endGrant s).gas = s.gas ∧ (endGrant s).line = s.line ∧
    (endGrant s).draw = s.draw ∧ (endGrant s).hold = s.hold ∧ (endGrant s).result = s.result ∧
    (endGrant s).recipe = s.recipe ∧ (endGrant s).fault = s.fault :=
  by unfold endGrant; (try dsimp only); (repeat' split) <;> simp

@[simp] theorem grantPassPocket_keeps (s : State) :
    (grantPassPocket s).pending = s.pending ∧ (grantPassPocket s).clock = s.clock ∧
    (grantPassPocket s).freeCount = s.freeCount ∧ (grantPassPocket s).gasFb = s.gasFb ∧
    (grantPassPocket s).context = s.context ∧ (grantPassPocket s).cycle.station = s.cycle.station ∧
    (grantPassPocket s).cycle.phase = s.cycle.phase ∧ (grantPassPocket s).cycle.counter = s.cycle.counter ∧
    (grantPassPocket s).cycle.stopPending = s.cycle.stopPending ∧
    (grantPassPocket s).cycle.startRefusal = s.cycle.startRefusal ∧ (grantPassPocket s).crimp = s.crimp ∧
    (grantPassPocket s).sensor.header = s.sensor.header ∧ (grantPassPocket s).sensor.bell = s.sensor.bell ∧
    (grantPassPocket s).sensor.transaction = s.sensor.transaction ∧
    (grantPassPocket s).sensor.lastPair = s.sensor.lastPair ∧
    (grantPassPocket s).sensor.zeroOffset = s.sensor.zeroOffset ∧
    (grantPassPocket s).sensor.zeroDebt = s.sensor.zeroDebt ∧
    (grantPassPocket s).sensor.sample = s.sensor.sample ∧ (grantPassPocket s).dose = s.dose ∧
    (grantPassPocket s).gas = s.gas ∧ (grantPassPocket s).line = s.line ∧
    (grantPassPocket s).draw = s.draw ∧ (grantPassPocket s).hold = s.hold ∧
    (grantPassPocket s).result = s.result ∧ (grantPassPocket s).recipe = s.recipe ∧
    (grantPassPocket s).fault = s.fault :=
  by unfold grantPassPocket; (try dsimp only); (repeat' split) <;> simp

@[simp] theorem setClaim_keeps (c : Claim) (s : State) :
    (setClaim c s).pending = s.pending ∧ (setClaim c s).clock = s.clock ∧
    (setClaim c s).freeCount = s.freeCount ∧ (setClaim c s).gasFb = s.gasFb ∧
    (setClaim c s).context = s.context ∧ (setClaim c s).cycle = s.cycle ∧ (setClaim c s).crimp = s.crimp ∧
    (setClaim c s).sensor = s.sensor ∧ (setClaim c s).dose = s.dose ∧ (setClaim c s).gas = s.gas ∧
    (setClaim c s).line = s.line ∧ (setClaim c s).draw.self = s.draw.self ∧
    (setClaim c s).draw.keyed = s.draw.keyed ∧ (setClaim c s).draw.phantoms = s.draw.phantoms ∧
    (setClaim c s).hold = s.hold ∧ (setClaim c s).result = s.result ∧ (setClaim c s).recipe = s.recipe ∧
    (setClaim c s).fault = s.fault :=
  by simp [setClaim]

@[simp] theorem retest_keeps (s : State) :
    (retest s).pending = s.pending ∧ (retest s).clock = s.clock ∧ (retest s).freeCount = s.freeCount ∧
    (retest s).gasFb = s.gasFb ∧ (retest s).cycle = s.cycle ∧ (retest s).crimp = s.crimp ∧
    (retest s).sensor = s.sensor ∧ (retest s).dose.running = s.dose.running ∧
    (retest s).dose.planned = s.dose.planned ∧ (retest s).dose.elapsed = s.dose.elapsed ∧
    (retest s).dose.massAtStart = s.dose.massAtStart ∧ (retest s).gas = s.gas ∧
    (retest s).line.station = s.line.station ∧ (retest s).line.condition = s.line.condition ∧
    (retest s).line.faultSlot = s.line.faultSlot ∧ (retest s).line.holdSlot = s.line.holdSlot ∧
    (retest s).line.shutSlot = s.line.shutSlot ∧ (retest s).line.statusSlot = s.line.statusSlot ∧
    (retest s).line.resultSlot = s.line.resultSlot ∧ (retest s).line.attempt = s.line.attempt ∧
    (retest s).line.abort = s.line.abort ∧ (retest s).line.badCount = s.line.badCount ∧
    (retest s).draw.self = s.draw.self ∧ (retest s).draw.keyed = s.draw.keyed ∧
    (retest s).draw.phantoms = s.draw.phantoms ∧ (retest s).hold = s.hold ∧ (retest s).result = s.result ∧
    (retest s).recipe = s.recipe ∧ (retest s).fault = s.fault :=
  by unfold retest; (try dsimp only); (repeat' split) <;> simp

@[simp] theorem requestClaim_keeps (s : State) :
    (requestClaim s).pending = s.pending ∧ (requestClaim s).clock = s.clock ∧
    (requestClaim s).freeCount = s.freeCount ∧ (requestClaim s).gasFb = s.gasFb ∧
    (requestClaim s).cycle = s.cycle ∧ (requestClaim s).crimp = s.crimp ∧
    (requestClaim s).sensor = s.sensor ∧ (requestClaim s).dose = s.dose ∧ (requestClaim s).gas = s.gas ∧
    (requestClaim s).line.station = s.line.station ∧ (requestClaim s).line.condition = s.line.condition ∧
    (requestClaim s).line.faultSlot = s.line.faultSlot ∧ (requestClaim s).line.holdSlot = s.line.holdSlot ∧
    (requestClaim s).line.shutSlot = s.line.shutSlot ∧
    (requestClaim s).line.statusSlot = s.line.statusSlot ∧
    (requestClaim s).line.resultSlot = s.line.resultSlot ∧ (requestClaim s).line.attempt = s.line.attempt ∧
    (requestClaim s).line.abort = s.line.abort ∧ (requestClaim s).line.badCount = s.line.badCount ∧
    (requestClaim s).draw.self = s.draw.self ∧ (requestClaim s).draw.keyed = s.draw.keyed ∧
    (requestClaim s).draw.phantoms = s.draw.phantoms ∧ (requestClaim s).hold = s.hold ∧
    (requestClaim s).result = s.result ∧ (requestClaim s).recipe = s.recipe ∧
    (requestClaim s).fault = s.fault :=
  by unfold requestClaim; (try dsimp only); (repeat' split) <;> simp

@[simp] theorem takeHeldRequest_keeps (s : State) :
    (takeHeldRequest s).pending = s.pending ∧ (takeHeldRequest s).clock = s.clock ∧
    (takeHeldRequest s).freeCount = s.freeCount ∧ (takeHeldRequest s).gasFb = s.gasFb ∧
    (takeHeldRequest s).cycle = s.cycle ∧ (takeHeldRequest s).crimp = s.crimp ∧
    (takeHeldRequest s).sensor = s.sensor ∧ (takeHeldRequest s).dose = s.dose ∧
    (takeHeldRequest s).gas = s.gas ∧ (takeHeldRequest s).line.station = s.line.station ∧
    (takeHeldRequest s).line.condition = s.line.condition ∧
    (takeHeldRequest s).line.faultSlot = s.line.faultSlot ∧
    (takeHeldRequest s).line.holdSlot = s.line.holdSlot ∧
    (takeHeldRequest s).line.shutSlot = s.line.shutSlot ∧
    (takeHeldRequest s).line.statusSlot = s.line.statusSlot ∧
    (takeHeldRequest s).line.resultSlot = s.line.resultSlot ∧
    (takeHeldRequest s).line.attempt = s.line.attempt ∧ (takeHeldRequest s).line.abort = s.line.abort ∧
    (takeHeldRequest s).line.badCount = s.line.badCount ∧ (takeHeldRequest s).draw.self = s.draw.self ∧
    (takeHeldRequest s).draw.keyed = s.draw.keyed ∧ (takeHeldRequest s).draw.phantoms = s.draw.phantoms ∧
    (takeHeldRequest s).hold = s.hold ∧ (takeHeldRequest s).result = s.result ∧
    (takeHeldRequest s).recipe = s.recipe ∧ (takeHeldRequest s).fault = s.fault :=
  by unfold takeHeldRequest; (try dsimp only); (repeat' split) <;> simp

@[simp] theorem cancelClaim_keeps (s : State) :
    (cancelClaim s).pending = s.pending ∧ (cancelClaim s).clock = s.clock ∧
    (cancelClaim s).freeCount = s.freeCount ∧ (cancelClaim s).gasFb = s.gasFb ∧
    (cancelClaim s).context = s.context ∧ (cancelClaim s).cycle = s.cycle ∧
    (cancelClaim s).crimp = s.crimp ∧ (cancelClaim s).sensor = s.sensor ∧
    (cancelClaim s).dose.running = s.dose.running ∧ (cancelClaim s).dose.planned = s.dose.planned ∧
    (cancelClaim s).dose.elapsed = s.dose.elapsed ∧ (cancelClaim s).dose.massAtStart = s.dose.massAtStart ∧
    (cancelClaim s).gas = s.gas ∧ (cancelClaim s).line.station = s.line.station ∧
    (cancelClaim s).line.condition = s.line.condition ∧ (cancelClaim s).line.faultSlot = s.line.faultSlot ∧
    (cancelClaim s).line.holdSlot = s.line.holdSlot ∧ (cancelClaim s).line.shutSlot = s.line.shutSlot ∧
    (cancelClaim s).line.statusSlot = s.line.statusSlot ∧
    (cancelClaim s).line.resultSlot = s.line.resultSlot ∧ (cancelClaim s).line.attempt = s.line.attempt ∧
    (cancelClaim s).line.abort = s.line.abort ∧ (cancelClaim s).line.badCount = s.line.badCount ∧
    (cancelClaim s).draw.self = s.draw.self ∧ (cancelClaim s).draw.keyed = s.draw.keyed ∧
    (cancelClaim s).draw.phantoms = s.draw.phantoms ∧ (cancelClaim s).hold = s.hold ∧
    (cancelClaim s).result = s.result ∧ (cancelClaim s).recipe = s.recipe ∧
    (cancelClaim s).fault = s.fault :=
  by unfold cancelClaim; (try dsimp only); (repeat' split) <;> simp

@[simp] theorem addSelf_keeps (s : State) :
    (addSelf s).pending = s.pending ∧ (addSelf s).clock = s.clock ∧ (addSelf s).freeCount = s.freeCount ∧
    (addSelf s).gasFb = s.gasFb ∧ (addSelf s).context = s.context ∧ (addSelf s).cycle = s.cycle ∧
    (addSelf s).crimp = s.crimp ∧ (addSelf s).sensor = s.sensor ∧ (addSelf s).dose = s.dose ∧
    (addSelf s).gas = s.gas ∧ (addSelf s).line = s.line ∧ (addSelf s).draw.keyed = s.draw.keyed ∧
    (addSelf s).draw.phantoms = s.draw.phantoms ∧ (addSelf s).draw.claim = s.draw.claim ∧
    (addSelf s).hold = s.hold ∧ (addSelf s).result = s.result ∧ (addSelf s).recipe = s.recipe ∧
    (addSelf s).fault = s.fault :=
  by simp [addSelf]

@[simp] theorem closeSelf_keeps (s : State) :
    (closeSelf s).pending = s.pending ∧ (closeSelf s).clock = s.clock ∧
    (closeSelf s).freeCount = s.freeCount ∧ (closeSelf s).gasFb = s.gasFb ∧
    (closeSelf s).context = s.context ∧ (closeSelf s).cycle = s.cycle ∧ (closeSelf s).crimp = s.crimp ∧
    (closeSelf s).sensor = s.sensor ∧ (closeSelf s).dose = s.dose ∧ (closeSelf s).gas = s.gas ∧
    (closeSelf s).line = s.line ∧ (closeSelf s).draw.keyed = s.draw.keyed ∧
    (closeSelf s).draw.phantoms = s.draw.phantoms ∧ (closeSelf s).draw.claim = s.draw.claim ∧
    (closeSelf s).hold = s.hold ∧ (closeSelf s).result = s.result ∧ (closeSelf s).recipe = s.recipe ∧
    (closeSelf s).fault = s.fault :=
  by unfold closeSelf; (try dsimp only); (repeat' split) <;> simp

@[simp] theorem reportClosed_keeps (s : State) :
    (reportClosed s).pending = s.pending ∧ (reportClosed s).clock = s.clock ∧
    (reportClosed s).freeCount = s.freeCount ∧ (reportClosed s).gasFb = s.gasFb ∧
    (reportClosed s).context = s.context ∧ (reportClosed s).cycle = s.cycle ∧
    (reportClosed s).crimp = s.crimp ∧ (reportClosed s).sensor = s.sensor ∧
    (reportClosed s).dose = s.dose ∧ (reportClosed s).gas = s.gas ∧
    (reportClosed s).line.station = s.line.station ∧ (reportClosed s).line.condition = s.line.condition ∧
    (reportClosed s).line.faultSlot = s.line.faultSlot ∧ (reportClosed s).line.holdSlot = s.line.holdSlot ∧
    (reportClosed s).line.openSlot = s.line.openSlot ∧
    (reportClosed s).line.resultSlot = s.line.resultSlot ∧ (reportClosed s).line.attempt = s.line.attempt ∧
    (reportClosed s).line.abort = s.line.abort ∧ (reportClosed s).line.badCount = s.line.badCount ∧
    (reportClosed s).draw.keyed = s.draw.keyed ∧ (reportClosed s).draw.phantoms = s.draw.phantoms ∧
    (reportClosed s).draw.claim = s.draw.claim ∧ (reportClosed s).hold = s.hold ∧
    (reportClosed s).result = s.result ∧ (reportClosed s).recipe = s.recipe ∧
    (reportClosed s).fault = s.fault :=
  by unfold reportClosed; (try dsimp only); (repeat' split) <;> simp

@[simp] theorem stuckSelf_keeps (s : State) :
    (stuckSelf s).pending = s.pending ∧ (stuckSelf s).clock = s.clock ∧
    (stuckSelf s).freeCount = s.freeCount ∧ (stuckSelf s).gasFb = s.gasFb ∧
    (stuckSelf s).context = s.context ∧ (stuckSelf s).cycle = s.cycle ∧ (stuckSelf s).crimp = s.crimp ∧
    (stuckSelf s).sensor = s.sensor ∧ (stuckSelf s).dose = s.dose ∧ (stuckSelf s).gas = s.gas ∧
    (stuckSelf s).line.station = s.line.station ∧ (stuckSelf s).line.condition = s.line.condition ∧
    (stuckSelf s).line.faultSlot = s.line.faultSlot ∧ (stuckSelf s).line.holdSlot = s.line.holdSlot ∧
    (stuckSelf s).line.shutSlot = s.line.shutSlot ∧ (stuckSelf s).line.openSlot = s.line.openSlot ∧
    (stuckSelf s).line.resultSlot = s.line.resultSlot ∧ (stuckSelf s).line.attempt = s.line.attempt ∧
    (stuckSelf s).line.abort = s.line.abort ∧ (stuckSelf s).line.badCount = s.line.badCount ∧
    (stuckSelf s).draw.keyed = s.draw.keyed ∧ (stuckSelf s).draw.phantoms = s.draw.phantoms ∧
    (stuckSelf s).draw.claim = s.draw.claim ∧ (stuckSelf s).hold = s.hold ∧
    (stuckSelf s).result = s.result ∧ (stuckSelf s).recipe = s.recipe ∧ (stuckSelf s).fault = s.fault :=
  by simp [stuckSelf]

@[simp] theorem readStuckEpisode_keeps (s : State) :
    (readStuckEpisode s).pending = s.pending ∧ (readStuckEpisode s).clock = s.clock ∧
    (readStuckEpisode s).freeCount = s.freeCount ∧ (readStuckEpisode s).gasFb = s.gasFb ∧
    (readStuckEpisode s).context = s.context ∧ (readStuckEpisode s).cycle = s.cycle ∧
    (readStuckEpisode s).crimp = s.crimp ∧ (readStuckEpisode s).sensor = s.sensor ∧
    (readStuckEpisode s).dose = s.dose ∧ (readStuckEpisode s).gas = s.gas ∧
    (readStuckEpisode s).line.station = s.line.station ∧
    (readStuckEpisode s).line.condition = s.line.condition ∧
    (readStuckEpisode s).line.faultSlot = s.line.faultSlot ∧
    (readStuckEpisode s).line.holdSlot = s.line.holdSlot ∧
    (readStuckEpisode s).line.shutSlot = s.line.shutSlot ∧
    (readStuckEpisode s).line.openSlot = s.line.openSlot ∧
    (readStuckEpisode s).line.resultSlot = s.line.resultSlot ∧
    (readStuckEpisode s).line.attempt = s.line.attempt ∧ (readStuckEpisode s).line.abort = s.line.abort ∧
    (readStuckEpisode s).line.badCount = s.line.badCount ∧ (readStuckEpisode s).draw.keyed = s.draw.keyed ∧
    (readStuckEpisode s).draw.phantoms = s.draw.phantoms ∧ (readStuckEpisode s).draw.claim = s.draw.claim ∧
    (readStuckEpisode s).hold = s.hold ∧ (readStuckEpisode s).result = s.result ∧
    (readStuckEpisode s).recipe = s.recipe ∧ (readStuckEpisode s).fault = s.fault :=
  by unfold readStuckEpisode; (try dsimp only); (repeat' split) <;> simp

@[simp] theorem peerOpens_keeps (sender : StationNo) (length : Half) (s : State) :
    (peerOpens sender length s).pending = s.pending ∧ (peerOpens sender length s).clock = s.clock ∧
    (peerOpens sender length s).freeCount = s.freeCount ∧ (peerOpens sender length s).gasFb = s.gasFb ∧
    (peerOpens sender length s).context = s.context ∧ (peerOpens sender length s).cycle = s.cycle ∧
    (peerOpens sender length s).crimp = s.crimp ∧ (peerOpens sender length s).sensor = s.sensor ∧
    (peerOpens sender length s).dose = s.dose ∧ (peerOpens sender length s).gas = s.gas ∧
    (peerOpens sender length s).line = s.line ∧ (peerOpens sender length s).draw.self = s.draw.self ∧
    (peerOpens sender length s).draw.phantoms = s.draw.phantoms ∧
    (peerOpens sender length s).draw.claim = s.draw.claim ∧ (peerOpens sender length s).hold = s.hold ∧
    (peerOpens sender length s).result = s.result ∧ (peerOpens sender length s).recipe = s.recipe ∧
    (peerOpens sender length s).fault = s.fault :=
  by unfold peerOpens; (try dsimp only); (repeat' split) <;> simp

@[simp] theorem removeKeyed_keeps (sender : StationNo) (s : State) :
    (removeKeyed sender s).pending = s.pending ∧ (removeKeyed sender s).clock = s.clock ∧
    (removeKeyed sender s).freeCount = s.freeCount ∧ (removeKeyed sender s).gasFb = s.gasFb ∧
    (removeKeyed sender s).context = s.context ∧ (removeKeyed sender s).cycle = s.cycle ∧
    (removeKeyed sender s).crimp = s.crimp ∧ (removeKeyed sender s).sensor = s.sensor ∧
    (removeKeyed sender s).dose = s.dose ∧ (removeKeyed sender s).gas = s.gas ∧
    (removeKeyed sender s).line.station = s.line.station ∧
    (removeKeyed sender s).line.condition = s.line.condition ∧
    (removeKeyed sender s).line.faultSlot = s.line.faultSlot ∧
    (removeKeyed sender s).line.holdSlot = s.line.holdSlot ∧
    (removeKeyed sender s).line.shutSlot = s.line.shutSlot ∧
    (removeKeyed sender s).line.openSlot = s.line.openSlot ∧
    (removeKeyed sender s).line.resultSlot = s.line.resultSlot ∧
    (removeKeyed sender s).line.attempt = s.line.attempt ∧
    (removeKeyed sender s).line.abort = s.line.abort ∧
    (removeKeyed sender s).line.badCount = s.line.badCount ∧
    (removeKeyed sender s).draw.self = s.draw.self ∧
    (removeKeyed sender s).draw.phantoms = s.draw.phantoms ∧
    (removeKeyed sender s).draw.claim = s.draw.claim ∧ (removeKeyed sender s).hold = s.hold ∧
    (removeKeyed sender s).result = s.result ∧ (removeKeyed sender s).recipe = s.recipe ∧
    (removeKeyed sender s).fault = s.fault :=
  by unfold removeKeyed; (try dsimp only); (repeat' split) <;> simp

@[simp] theorem makeStuck_keeps (sender : StationNo) (s : State) :
    (makeStuck sender s).pending = s.pending ∧ (makeStuck sender s).clock = s.clock ∧
    (makeStuck sender s).freeCount = s.freeCount ∧ (makeStuck sender s).gasFb = s.gasFb ∧
    (makeStuck sender s).context = s.context ∧ (makeStuck sender s).cycle = s.cycle ∧
    (makeStuck sender s).crimp = s.crimp ∧ (makeStuck sender s).sensor = s.sensor ∧
    (makeStuck sender s).dose = s.dose ∧ (makeStuck sender s).gas = s.gas ∧
    (makeStuck sender s).line.station = s.line.station ∧
    (makeStuck sender s).line.condition = s.line.condition ∧
    (makeStuck sender s).line.faultSlot = s.line.faultSlot ∧
    (makeStuck sender s).line.holdSlot = s.line.holdSlot ∧
    (makeStuck sender s).line.shutSlot = s.line.shutSlot ∧
    (makeStuck sender s).line.openSlot = s.line.openSlot ∧
    (makeStuck sender s).line.resultSlot = s.line.resultSlot ∧
    (makeStuck sender s).line.attempt = s.line.attempt ∧ (makeStuck sender s).line.abort = s.line.abort ∧
    (makeStuck sender s).line.badCount = s.line.badCount ∧ (makeStuck sender s).draw.self = s.draw.self ∧
    (makeStuck sender s).draw.phantoms = s.draw.phantoms ∧ (makeStuck sender s).draw.claim = s.draw.claim ∧
    (makeStuck sender s).hold = s.hold ∧ (makeStuck sender s).result = s.result ∧
    (makeStuck sender s).recipe = s.recipe ∧ (makeStuck sender s).fault = s.fault :=
  by unfold makeStuck; (try dsimp only); (repeat' split) <;> simp

@[simp] theorem peerFaults_keeps (sender : StationNo) (code : Byte) (s : State) :
    (peerFaults sender code s).pending = s.pending ∧ (peerFaults sender code s).clock = s.clock ∧
    (peerFaults sender code s).freeCount = s.freeCount ∧ (peerFaults sender code s).gasFb = s.gasFb ∧
    (peerFaults sender code s).context = s.context ∧ (peerFaults sender code s).cycle = s.cycle ∧
    (peerFaults sender code s).crimp = s.crimp ∧ (peerFaults sender code s).sensor = s.sensor ∧
    (peerFaults sender code s).dose = s.dose ∧ (peerFaults sender code s).gas = s.gas ∧
    (peerFaults sender code s).line.station = s.line.station ∧
    (peerFaults sender code s).line.condition = s.line.condition ∧
    (peerFaults sender code s).line.faultSlot = s.line.faultSlot ∧
    (peerFaults sender code s).line.holdSlot = s.line.holdSlot ∧
    (peerFaults sender code s).line.shutSlot = s.line.shutSlot ∧
    (peerFaults sender code s).line.openSlot = s.line.openSlot ∧
    (peerFaults sender code s).line.resultSlot = s.line.resultSlot ∧
    (peerFaults sender code s).line.attempt = s.line.attempt ∧
    (peerFaults sender code s).line.abort = s.line.abort ∧
    (peerFaults sender code s).line.badCount = s.line.badCount ∧
    (peerFaults sender code s).draw.self = s.draw.self ∧
    (peerFaults sender code s).draw.phantoms = s.draw.phantoms ∧
    (peerFaults sender code s).draw.claim = s.draw.claim ∧ (peerFaults sender code s).hold = s.hold ∧
    (peerFaults sender code s).result = s.result ∧ (peerFaults sender code s).recipe = s.recipe ∧
    (peerFaults sender code s).fault = s.fault :=
  by unfold peerFaults; (try dsimp only); (repeat' split) <;> simp

@[simp] theorem peerStatus_keeps (sender : StationNo) (payload : List Byte) (s : State) :
    (peerStatus sender payload s).pending = s.pending ∧ (peerStatus sender payload s).clock = s.clock ∧
    (peerStatus sender payload s).freeCount = s.freeCount ∧ (peerStatus sender payload s).gasFb = s.gasFb ∧
    (peerStatus sender payload s).context = s.context ∧ (peerStatus sender payload s).cycle = s.cycle ∧
    (peerStatus sender payload s).crimp = s.crimp ∧ (peerStatus sender payload s).sensor = s.sensor ∧
    (peerStatus sender payload s).dose = s.dose ∧ (peerStatus sender payload s).gas = s.gas ∧
    (peerStatus sender payload s).line.station = s.line.station ∧
    (peerStatus sender payload s).line.condition = s.line.condition ∧
    (peerStatus sender payload s).line.faultSlot = s.line.faultSlot ∧
    (peerStatus sender payload s).line.holdSlot = s.line.holdSlot ∧
    (peerStatus sender payload s).line.shutSlot = s.line.shutSlot ∧
    (peerStatus sender payload s).line.openSlot = s.line.openSlot ∧
    (peerStatus sender payload s).line.resultSlot = s.line.resultSlot ∧
    (peerStatus sender payload s).line.attempt = s.line.attempt ∧
    (peerStatus sender payload s).line.abort = s.line.abort ∧
    (peerStatus sender payload s).line.badCount = s.line.badCount ∧
    (peerStatus sender payload s).draw.self = s.draw.self ∧
    (peerStatus sender payload s).draw.phantoms = s.draw.phantoms ∧
    (peerStatus sender payload s).draw.claim = s.draw.claim ∧ (peerStatus sender payload s).hold = s.hold ∧
    (peerStatus sender payload s).result = s.result ∧ (peerStatus sender payload s).recipe = s.recipe ∧
    (peerStatus sender payload s).fault = s.fault :=
  by unfold peerStatus; (try dsimp only); (repeat' split) <;> simp

@[simp] theorem phantomForBadFrame_keeps (s : State) :
    (phantomForBadFrame s).pending = s.pending ∧ (phantomForBadFrame s).clock = s.clock ∧
    (phantomForBadFrame s).freeCount = s.freeCount ∧ (phantomForBadFrame s).gasFb = s.gasFb ∧
    (phantomForBadFrame s).context = s.context ∧ (phantomForBadFrame s).cycle = s.cycle ∧
    (phantomForBadFrame s).crimp = s.crimp ∧ (phantomForBadFrame s).sensor = s.sensor ∧
    (phantomForBadFrame s).dose = s.dose ∧ (phantomForBadFrame s).gas = s.gas ∧
    (phantomForBadFrame s).line = s.line ∧ (phantomForBadFrame s).draw.self = s.draw.self ∧
    (phantomForBadFrame s).draw.keyed = s.draw.keyed ∧ (phantomForBadFrame s).draw.claim = s.draw.claim ∧
    (phantomForBadFrame s).hold = s.hold ∧ (phantomForBadFrame s).result = s.result ∧
    (phantomForBadFrame s).recipe = s.recipe ∧ (phantomForBadFrame s).fault = s.fault :=
  by unfold phantomForBadFrame; (try dsimp only); (repeat' split) <;> simp

end Sys2Proof.Machine
end

