-- ==== Sys2Proof/Laws/Moves.lean ====
section
/-!
SUPPORT. What each operation of Machine/Gassing.lean and Machine/Faults.lean leaves unchanged.
-/

namespace Sys2Proof.Machine

@[simp] theorem compareDose_keeps (s : State) :
    (compareDose s).pending = s.pending ∧ (compareDose s).clock = s.clock ∧
    (compareDose s).freeCount = s.freeCount ∧ (compareDose s).gasFb = s.gasFb ∧
    (compareDose s).cycle = s.cycle ∧ (compareDose s).crimp = s.crimp ∧ (compareDose s).sensor = s.sensor ∧
    (compareDose s).dose = s.dose ∧ (compareDose s).gas = s.gas ∧ (compareDose s).line = s.line ∧
    (compareDose s).draw = s.draw ∧ (compareDose s).hold = s.hold ∧ (compareDose s).result = s.result ∧
    (compareDose s).recipe = s.recipe ∧ (compareDose s).fault = s.fault :=
  by unfold compareDose; (try dsimp only); (repeat' split) <;> simp

@[simp] theorem enterEnded_keeps (s : State) :
    (enterEnded s).pending = s.pending ∧ (enterEnded s).clock = s.clock ∧
    (enterEnded s).freeCount = s.freeCount ∧ (enterEnded s).gasFb = s.gasFb ∧
    (enterEnded s).cycle = s.cycle ∧ (enterEnded s).crimp = s.crimp ∧ (enterEnded s).sensor = s.sensor ∧
    (enterEnded s).dose = s.dose ∧ (enterEnded s).gas.closeWindow = s.gas.closeWindow ∧
    (enterEnded s).gas.stuckEpisode = s.gas.stuckEpisode ∧ (enterEnded s).line = s.line ∧
    (enterEnded s).draw = s.draw ∧ (enterEnded s).hold = s.hold ∧ (enterEnded s).result = s.result ∧
    (enterEnded s).recipe = s.recipe ∧ (enterEnded s).fault = s.fault :=
  by simp [enterEnded]

@[simp] theorem advancePhase_keeps (before after : Phase) (s : State) :
    (advancePhase before after s).pending = s.pending ∧ (advancePhase before after s).clock = s.clock ∧
    (advancePhase before after s).freeCount = s.freeCount ∧ (advancePhase before after s).gasFb = s.gasFb ∧
    (advancePhase before after s).context = s.context ∧
    (advancePhase before after s).cycle.station = s.cycle.station ∧
    (advancePhase before after s).cycle.counter = s.cycle.counter ∧
    (advancePhase before after s).cycle.stopPending = s.cycle.stopPending ∧
    (advancePhase before after s).cycle.grant = s.cycle.grant ∧
    (advancePhase before after s).cycle.startRefusal = s.cycle.startRefusal ∧
    (advancePhase before after s).crimp = s.crimp ∧ (advancePhase before after s).sensor = s.sensor ∧
    (advancePhase before after s).dose = s.dose ∧ (advancePhase before after s).gas = s.gas ∧
    (advancePhase before after s).line = s.line ∧ (advancePhase before after s).draw = s.draw ∧
    (advancePhase before after s).hold = s.hold ∧ (advancePhase before after s).result = s.result ∧
    (advancePhase before after s).recipe = s.recipe ∧ (advancePhase before after s).fault = s.fault :=
  by unfold advancePhase; (try dsimp only); (repeat' split) <;> simp

@[simp] theorem endGassing_keeps (s : State) :
    (endGassing s).pending = s.pending ∧ (endGassing s).clock = s.clock ∧
    (endGassing s).freeCount = s.freeCount ∧ (endGassing s).gasFb = s.gasFb ∧
    (endGassing s).cycle.station = s.cycle.station ∧ (endGassing s).cycle.counter = s.cycle.counter ∧
    (endGassing s).cycle.stopPending = s.cycle.stopPending ∧ (endGassing s).cycle.grant = s.cycle.grant ∧
    (endGassing s).cycle.startRefusal = s.cycle.startRefusal ∧ (endGassing s).crimp = s.crimp ∧
    (endGassing s).sensor = s.sensor ∧ (endGassing s).dose = s.dose ∧
    (endGassing s).gas.closeWindow = s.gas.closeWindow ∧
    (endGassing s).gas.stuckEpisode = s.gas.stuckEpisode ∧ (endGassing s).line = s.line ∧
    (endGassing s).draw = s.draw ∧ (endGassing s).hold = s.hold ∧ (endGassing s).result = s.result ∧
    (endGassing s).recipe = s.recipe ∧ (endGassing s).fault = s.fault :=
  by simp [endGassing]

@[simp] theorem doseComplete_keeps (s : State) :
    (doseComplete s).pending = s.pending ∧ (doseComplete s).clock = s.clock ∧
    (doseComplete s).freeCount = s.freeCount ∧ (doseComplete s).gasFb = s.gasFb ∧
    (doseComplete s).cycle.station = s.cycle.station ∧ (doseComplete s).cycle.counter = s.cycle.counter ∧
    (doseComplete s).cycle.stopPending = s.cycle.stopPending ∧
    (doseComplete s).cycle.grant = s.cycle.grant ∧
    (doseComplete s).cycle.startRefusal = s.cycle.startRefusal ∧ (doseComplete s).crimp = s.crimp ∧
    (doseComplete s).sensor = s.sensor ∧ (doseComplete s).dose = s.dose ∧
    (doseComplete s).gas.closeWindow = s.gas.closeWindow ∧
    (doseComplete s).gas.stuckEpisode = s.gas.stuckEpisode ∧ (doseComplete s).line = s.line ∧
    (doseComplete s).draw = s.draw ∧ (doseComplete s).hold = s.hold ∧ (doseComplete s).result = s.result ∧
    (doseComplete s).recipe = s.recipe ∧ (doseComplete s).fault = s.fault :=
  by unfold doseComplete; (try dsimp only); (repeat' split) <;> simp

@[simp] theorem noteNoDrive_keeps (a : PlanAnswer) (s : State) :
    (noteNoDrive a s).pending = s.pending ∧ (noteNoDrive a s).clock = s.clock ∧
    (noteNoDrive a s).freeCount = s.freeCount ∧ (noteNoDrive a s).gasFb = s.gasFb ∧
    (noteNoDrive a s).cycle = s.cycle ∧ (noteNoDrive a s).crimp = s.crimp ∧
    (noteNoDrive a s).sensor = s.sensor ∧ (noteNoDrive a s).dose = s.dose ∧ (noteNoDrive a s).gas = s.gas ∧
    (noteNoDrive a s).line = s.line ∧ (noteNoDrive a s).draw = s.draw ∧ (noteNoDrive a s).hold = s.hold ∧
    (noteNoDrive a s).result = s.result ∧ (noteNoDrive a s).recipe = s.recipe ∧
    (noteNoDrive a s).fault = s.fault :=
  by unfold noteNoDrive; (try dsimp only); (repeat' split) <;> simp

@[simp] theorem actOnAnswer_keeps (a : PlanAnswer) (s : State) :
    (actOnAnswer a s).pending = s.pending ∧ (actOnAnswer a s).clock = s.clock ∧
    (actOnAnswer a s).freeCount = s.freeCount ∧ (actOnAnswer a s).gasFb = s.gasFb ∧
    (actOnAnswer a s).cycle = s.cycle ∧ (actOnAnswer a s).crimp = s.crimp ∧
    (actOnAnswer a s).sensor = s.sensor ∧ (actOnAnswer a s).dose = s.dose ∧
    (actOnAnswer a s).gas.closeWindow = s.gas.closeWindow ∧
    (actOnAnswer a s).gas.stuckEpisode = s.gas.stuckEpisode ∧
    (actOnAnswer a s).line.station = s.line.station ∧ (actOnAnswer a s).line.condition = s.line.condition ∧
    (actOnAnswer a s).line.faultSlot = s.line.faultSlot ∧
    (actOnAnswer a s).line.holdSlot = s.line.holdSlot ∧ (actOnAnswer a s).line.shutSlot = s.line.shutSlot ∧
    (actOnAnswer a s).line.statusSlot = s.line.statusSlot ∧
    (actOnAnswer a s).line.resultSlot = s.line.resultSlot ∧
    (actOnAnswer a s).line.attempt = s.line.attempt ∧ (actOnAnswer a s).line.abort = s.line.abort ∧
    (actOnAnswer a s).line.badCount = s.line.badCount ∧ (actOnAnswer a s).draw.self = s.draw.self ∧
    (actOnAnswer a s).draw.keyed = s.draw.keyed ∧ (actOnAnswer a s).draw.phantoms = s.draw.phantoms ∧
    (actOnAnswer a s).hold = s.hold ∧ (actOnAnswer a s).result = s.result ∧
    (actOnAnswer a s).recipe = s.recipe ∧ (actOnAnswer a s).fault = s.fault :=
  by unfold actOnAnswer; (try dsimp only); (repeat' split) <;> simp

@[simp] theorem decideInPlan_keeps (s : State) :
    (decideInPlan s).pending = s.pending ∧ (decideInPlan s).clock = s.clock ∧
    (decideInPlan s).freeCount = s.freeCount ∧ (decideInPlan s).gasFb = s.gasFb ∧
    (decideInPlan s).cycle.station = s.cycle.station ∧ (decideInPlan s).cycle.counter = s.cycle.counter ∧
    (decideInPlan s).cycle.stopPending = s.cycle.stopPending ∧
    (decideInPlan s).cycle.grant = s.cycle.grant ∧
    (decideInPlan s).cycle.startRefusal = s.cycle.startRefusal ∧ (decideInPlan s).crimp = s.crimp ∧
    (decideInPlan s).sensor = s.sensor ∧ (decideInPlan s).dose = s.dose ∧
    (decideInPlan s).gas.closeWindow = s.gas.closeWindow ∧
    (decideInPlan s).gas.stuckEpisode = s.gas.stuckEpisode ∧
    (decideInPlan s).line.station = s.line.station ∧ (decideInPlan s).line.condition = s.line.condition ∧
    (decideInPlan s).line.faultSlot = s.line.faultSlot ∧ (decideInPlan s).line.holdSlot = s.line.holdSlot ∧
    (decideInPlan s).line.shutSlot = s.line.shutSlot ∧
    (decideInPlan s).line.statusSlot = s.line.statusSlot ∧
    (decideInPlan s).line.resultSlot = s.line.resultSlot ∧ (decideInPlan s).line.attempt = s.line.attempt ∧
    (decideInPlan s).line.abort = s.line.abort ∧ (decideInPlan s).line.badCount = s.line.badCount ∧
    (decideInPlan s).draw.self = s.draw.self ∧ (decideInPlan s).draw.keyed = s.draw.keyed ∧
    (decideInPlan s).draw.phantoms = s.draw.phantoms ∧ (decideInPlan s).hold = s.hold ∧
    (decideInPlan s).result = s.result ∧ (decideInPlan s).recipe = s.recipe ∧
    (decideInPlan s).fault = s.fault :=
  by unfold decideInPlan; (try dsimp only); (repeat' split) <;> simp

@[simp] theorem enterPlan_keeps (s : State) :
    (enterPlan s).pending = s.pending ∧ (enterPlan s).clock = s.clock ∧
    (enterPlan s).freeCount = s.freeCount ∧ (enterPlan s).gasFb = s.gasFb ∧
    (enterPlan s).cycle.station = s.cycle.station ∧ (enterPlan s).cycle.counter = s.cycle.counter ∧
    (enterPlan s).cycle.stopPending = s.cycle.stopPending ∧ (enterPlan s).cycle.grant = s.cycle.grant ∧
    (enterPlan s).cycle.startRefusal = s.cycle.startRefusal ∧ (enterPlan s).crimp = s.crimp ∧
    (enterPlan s).sensor = s.sensor ∧ (enterPlan s).dose = s.dose ∧
    (enterPlan s).gas.closeWindow = s.gas.closeWindow ∧
    (enterPlan s).gas.stuckEpisode = s.gas.stuckEpisode ∧ (enterPlan s).line.station = s.line.station ∧
    (enterPlan s).line.condition = s.line.condition ∧ (enterPlan s).line.faultSlot = s.line.faultSlot ∧
    (enterPlan s).line.holdSlot = s.line.holdSlot ∧ (enterPlan s).line.shutSlot = s.line.shutSlot ∧
    (enterPlan s).line.statusSlot = s.line.statusSlot ∧ (enterPlan s).line.resultSlot = s.line.resultSlot ∧
    (enterPlan s).line.attempt = s.line.attempt ∧ (enterPlan s).line.abort = s.line.abort ∧
    (enterPlan s).line.badCount = s.line.badCount ∧ (enterPlan s).draw.self = s.draw.self ∧
    (enterPlan s).draw.keyed = s.draw.keyed ∧ (enterPlan s).draw.phantoms = s.draw.phantoms ∧
    (enterPlan s).hold = s.hold ∧ (enterPlan s).result = s.result ∧ (enterPlan s).recipe = s.recipe ∧
    (enterPlan s).fault = s.fault :=
  by simp [enterPlan]

@[simp] theorem startSettle_keeps (s : State) :
    (startSettle s).pending = s.pending ∧ (startSettle s).clock = s.clock ∧
    (startSettle s).freeCount = s.freeCount ∧ (startSettle s).gasFb = s.gasFb ∧
    (startSettle s).cycle.station = s.cycle.station ∧ (startSettle s).cycle.counter = s.cycle.counter ∧
    (startSettle s).cycle.stopPending = s.cycle.stopPending ∧ (startSettle s).cycle.grant = s.cycle.grant ∧
    (startSettle s).cycle.startRefusal = s.cycle.startRefusal ∧ (startSettle s).crimp = s.crimp ∧
    (startSettle s).sensor = s.sensor ∧ (startSettle s).dose = s.dose ∧
    (startSettle s).gas.closeWindow = s.gas.closeWindow ∧
    (startSettle s).gas.stuckEpisode = s.gas.stuckEpisode ∧ (startSettle s).line.station = s.line.station ∧
    (startSettle s).line.condition = s.line.condition ∧ (startSettle s).line.faultSlot = s.line.faultSlot ∧
    (startSettle s).line.holdSlot = s.line.holdSlot ∧ (startSettle s).line.shutSlot = s.line.shutSlot ∧
    (startSettle s).line.statusSlot = s.line.statusSlot ∧
    (startSettle s).line.resultSlot = s.line.resultSlot ∧ (startSettle s).line.attempt = s.line.attempt ∧
    (startSettle s).line.abort = s.line.abort ∧ (startSettle s).line.badCount = s.line.badCount ∧
    (startSettle s).draw.self = s.draw.self ∧ (startSettle s).draw.keyed = s.draw.keyed ∧
    (startSettle s).draw.phantoms = s.draw.phantoms ∧ (startSettle s).hold = s.hold ∧
    (startSettle s).result = s.result ∧ (startSettle s).recipe = s.recipe ∧
    (startSettle s).fault = s.fault :=
  by unfold startSettle; (try dsimp only); (repeat' split) <;> simp

@[simp] theorem valveClosed_keeps (s : State) :
    (valveClosed s).pending = s.pending ∧ (valveClosed s).clock = s.clock ∧
    (valveClosed s).freeCount = s.freeCount ∧ (valveClosed s).gasFb = s.gasFb ∧
    (valveClosed s).cycle.station = s.cycle.station ∧ (valveClosed s).cycle.counter = s.cycle.counter ∧
    (valveClosed s).cycle.stopPending = s.cycle.stopPending ∧ (valveClosed s).cycle.grant = s.cycle.grant ∧
    (valveClosed s).cycle.startRefusal = s.cycle.startRefusal ∧ (valveClosed s).crimp = s.crimp ∧
    (valveClosed s).sensor = s.sensor ∧ (valveClosed s).dose = s.dose ∧
    (valveClosed s).gas.stuckEpisode = s.gas.stuckEpisode ∧ (valveClosed s).line.station = s.line.station ∧
    (valveClosed s).line.condition = s.line.condition ∧ (valveClosed s).line.faultSlot = s.line.faultSlot ∧
    (valveClosed s).line.holdSlot = s.line.holdSlot ∧ (valveClosed s).line.resultSlot = s.line.resultSlot ∧
    (valveClosed s).line.attempt = s.line.attempt ∧ (valveClosed s).line.abort = s.line.abort ∧
    (valveClosed s).line.badCount = s.line.badCount ∧ (valveClosed s).draw.keyed = s.draw.keyed ∧
    (valveClosed s).draw.phantoms = s.draw.phantoms ∧ (valveClosed s).hold = s.hold ∧
    (valveClosed s).result = s.result ∧ (valveClosed s).recipe = s.recipe ∧
    (valveClosed s).fault = s.fault :=
  by simp [valveClosed]

@[simp] theorem closeIfShut_keeps (s : State) :
    (closeIfShut s).pending = s.pending ∧ (closeIfShut s).clock = s.clock ∧
    (closeIfShut s).freeCount = s.freeCount ∧ (closeIfShut s).gasFb = s.gasFb ∧
    (closeIfShut s).cycle.station = s.cycle.station ∧ (closeIfShut s).cycle.counter = s.cycle.counter ∧
    (closeIfShut s).cycle.stopPending = s.cycle.stopPending ∧ (closeIfShut s).cycle.grant = s.cycle.grant ∧
    (closeIfShut s).cycle.startRefusal = s.cycle.startRefusal ∧ (closeIfShut s).crimp = s.crimp ∧
    (closeIfShut s).sensor = s.sensor ∧ (closeIfShut s).dose = s.dose ∧
    (closeIfShut s).gas.stuckEpisode = s.gas.stuckEpisode ∧ (closeIfShut s).line.station = s.line.station ∧
    (closeIfShut s).line.condition = s.line.condition ∧ (closeIfShut s).line.faultSlot = s.line.faultSlot ∧
    (closeIfShut s).line.holdSlot = s.line.holdSlot ∧ (closeIfShut s).line.resultSlot = s.line.resultSlot ∧
    (closeIfShut s).line.attempt = s.line.attempt ∧ (closeIfShut s).line.abort = s.line.abort ∧
    (closeIfShut s).line.badCount = s.line.badCount ∧ (closeIfShut s).draw.keyed = s.draw.keyed ∧
    (closeIfShut s).draw.phantoms = s.draw.phantoms ∧ (closeIfShut s).hold = s.hold ∧
    (closeIfShut s).result = s.result ∧ (closeIfShut s).recipe = s.recipe ∧
    (closeIfShut s).fault = s.fault :=
  by unfold closeIfShut; (try dsimp only); (repeat' split) <;> simp

@[simp] theorem endPulse_keeps (o : PulseOutcome) (s : State) :
    (endPulse o s).pending = s.pending ∧ (endPulse o s).clock = s.clock ∧
    (endPulse o s).freeCount = s.freeCount ∧ (endPulse o s).gasFb = s.gasFb ∧
    (endPulse o s).cycle = s.cycle ∧ (endPulse o s).crimp = s.crimp ∧ (endPulse o s).sensor = s.sensor ∧
    (endPulse o s).dose.planned = s.dose.planned ∧ (endPulse o s).dose.elapsed = s.dose.elapsed ∧
    (endPulse o s).dose.massAtStart = s.dose.massAtStart ∧
    (endPulse o s).dose.attemptLength = s.dose.attemptLength ∧ (endPulse o s).gas.stage = s.gas.stage ∧
    (endPulse o s).gas.stuckEpisode = s.gas.stuckEpisode ∧ (endPulse o s).line = s.line ∧
    (endPulse o s).draw.keyed = s.draw.keyed ∧ (endPulse o s).draw.phantoms = s.draw.phantoms ∧
    (endPulse o s).draw.claim = s.draw.claim ∧ (endPulse o s).hold = s.hold ∧
    (endPulse o s).result = s.result ∧ (endPulse o s).recipe = s.recipe ∧ (endPulse o s).fault = s.fault :=
  by simp [endPulse]

@[simp] theorem takeBack_keeps (s : State) :
    (takeBack s).pending = s.pending ∧ (takeBack s).clock = s.clock ∧
    (takeBack s).freeCount = s.freeCount ∧ (takeBack s).gasFb = s.gasFb ∧ (takeBack s).cycle = s.cycle ∧
    (takeBack s).crimp = s.crimp ∧ (takeBack s).sensor = s.sensor ∧ (takeBack s).dose = s.dose ∧
    (takeBack s).gas = s.gas ∧ (takeBack s).line = s.line ∧ (takeBack s).draw = s.draw ∧
    (takeBack s).hold = s.hold ∧ (takeBack s).result = s.result ∧ (takeBack s).recipe = s.recipe ∧
    (takeBack s).fault = s.fault :=
  by simp [takeBack]

@[simp] theorem setStage_keeps (g : GasStage) (s : State) :
    (setStage g s).pending = s.pending ∧ (setStage g s).clock = s.clock ∧
    (setStage g s).freeCount = s.freeCount ∧ (setStage g s).gasFb = s.gasFb ∧
    (setStage g s).context = s.context ∧ (setStage g s).cycle = s.cycle ∧ (setStage g s).crimp = s.crimp ∧
    (setStage g s).sensor = s.sensor ∧ (setStage g s).dose = s.dose ∧
    (setStage g s).gas.closeWindow = s.gas.closeWindow ∧
    (setStage g s).gas.stuckEpisode = s.gas.stuckEpisode ∧ (setStage g s).line = s.line ∧
    (setStage g s).draw = s.draw ∧ (setStage g s).hold = s.hold ∧ (setStage g s).result = s.result ∧
    (setStage g s).recipe = s.recipe ∧ (setStage g s).fault = s.fault :=
  by simp [setStage]

@[simp] theorem deadPulse_keeps (s : State) :
    (deadPulse s).pending = s.pending ∧ (deadPulse s).clock = s.clock ∧
    (deadPulse s).freeCount = s.freeCount ∧ (deadPulse s).gasFb = s.gasFb ∧
    (deadPulse s).cycle.station = s.cycle.station ∧ (deadPulse s).cycle.counter = s.cycle.counter ∧
    (deadPulse s).cycle.stopPending = s.cycle.stopPending ∧ (deadPulse s).cycle.grant = s.cycle.grant ∧
    (deadPulse s).cycle.startRefusal = s.cycle.startRefusal ∧ (deadPulse s).crimp = s.crimp ∧
    (deadPulse s).sensor = s.sensor ∧ (deadPulse s).dose.planned = s.dose.planned ∧
    (deadPulse s).dose.elapsed = s.dose.elapsed ∧ (deadPulse s).dose.massAtStart = s.dose.massAtStart ∧
    (deadPulse s).dose.attemptLength = s.dose.attemptLength ∧
    (deadPulse s).gas.stuckEpisode = s.gas.stuckEpisode ∧ (deadPulse s).line.station = s.line.station ∧
    (deadPulse s).line.condition = s.line.condition ∧ (deadPulse s).line.faultSlot = s.line.faultSlot ∧
    (deadPulse s).line.holdSlot = s.line.holdSlot ∧ (deadPulse s).line.resultSlot = s.line.resultSlot ∧
    (deadPulse s).line.attempt = s.line.attempt ∧ (deadPulse s).line.abort = s.line.abort ∧
    (deadPulse s).line.badCount = s.line.badCount ∧ (deadPulse s).draw.keyed = s.draw.keyed ∧
    (deadPulse s).draw.phantoms = s.draw.phantoms ∧ (deadPulse s).hold = s.hold ∧
    (deadPulse s).result = s.result ∧ (deadPulse s).recipe = s.recipe ∧ (deadPulse s).fault = s.fault :=
  by unfold deadPulse; (try dsimp only); (repeat' split) <;> simp

@[simp] theorem judgePulse_keeps (s : State) :
    (judgePulse s).pending = s.pending ∧ (judgePulse s).clock = s.clock ∧
    (judgePulse s).freeCount = s.freeCount ∧ (judgePulse s).gasFb = s.gasFb ∧
    (judgePulse s).cycle.station = s.cycle.station ∧ (judgePulse s).cycle.counter = s.cycle.counter ∧
    (judgePulse s).cycle.stopPending = s.cycle.stopPending ∧ (judgePulse s).cycle.grant = s.cycle.grant ∧
    (judgePulse s).cycle.startRefusal = s.cycle.startRefusal ∧ (judgePulse s).crimp = s.crimp ∧
    (judgePulse s).sensor = s.sensor ∧ (judgePulse s).dose.planned = s.dose.planned ∧
    (judgePulse s).dose.elapsed = s.dose.elapsed ∧ (judgePulse s).dose.massAtStart = s.dose.massAtStart ∧
    (judgePulse s).dose.attemptLength = s.dose.attemptLength ∧
    (judgePulse s).gas.stuckEpisode = s.gas.stuckEpisode ∧ (judgePulse s).line.station = s.line.station ∧
    (judgePulse s).line.condition = s.line.condition ∧ (judgePulse s).line.faultSlot = s.line.faultSlot ∧
    (judgePulse s).line.holdSlot = s.line.holdSlot ∧ (judgePulse s).line.resultSlot = s.line.resultSlot ∧
    (judgePulse s).line.attempt = s.line.attempt ∧ (judgePulse s).line.abort = s.line.abort ∧
    (judgePulse s).line.badCount = s.line.badCount ∧ (judgePulse s).draw.keyed = s.draw.keyed ∧
    (judgePulse s).draw.phantoms = s.draw.phantoms ∧ (judgePulse s).hold = s.hold ∧
    (judgePulse s).result = s.result ∧ (judgePulse s).recipe = s.recipe ∧ (judgePulse s).fault = s.fault :=
  by unfold judgePulse; (try dsimp only); (repeat' split) <;> simp

@[simp] theorem startPulse_keeps (s : State) :
    (startPulse s).pending = s.pending ∧ (startPulse s).clock = s.clock ∧
    (startPulse s).freeCount = s.freeCount ∧ (startPulse s).gasFb = s.gasFb ∧
    (startPulse s).cycle = s.cycle ∧ (startPulse s).crimp = s.crimp ∧ (startPulse s).sensor = s.sensor ∧
    (startPulse s).gas.stuckEpisode = s.gas.stuckEpisode ∧ (startPulse s).line = s.line ∧
    (startPulse s).draw.keyed = s.draw.keyed ∧ (startPulse s).draw.phantoms = s.draw.phantoms ∧
    (startPulse s).hold = s.hold ∧ (startPulse s).result = s.result ∧ (startPulse s).recipe = s.recipe ∧
    (startPulse s).fault = s.fault :=
  by unfold startPulse; (try dsimp only); (repeat' split) <;> simp

@[simp] theorem cutCheckPart_keeps (s : State) :
    (cutCheckPart s).pending = s.pending ∧ (cutCheckPart s).clock = s.clock ∧
    (cutCheckPart s).freeCount = s.freeCount ∧ (cutCheckPart s).gasFb = s.gasFb ∧
    (cutCheckPart s).cycle = s.cycle ∧ (cutCheckPart s).crimp = s.crimp ∧
    (cutCheckPart s).sensor = s.sensor ∧ (cutCheckPart s).dose = s.dose ∧ (cutCheckPart s).gas = s.gas ∧
    (cutCheckPart s).line = s.line ∧ (cutCheckPart s).draw = s.draw ∧ (cutCheckPart s).hold = s.hold ∧
    (cutCheckPart s).result = s.result ∧ (cutCheckPart s).recipe = s.recipe ∧
    (cutCheckPart s).fault = s.fault :=
  by simp [cutCheckPart]

@[simp] theorem stopStage_keeps (s : State) :
    (stopStage s).pending = s.pending ∧ (stopStage s).clock = s.clock ∧
    (stopStage s).freeCount = s.freeCount ∧ (stopStage s).gasFb = s.gasFb ∧ (stopStage s).cycle = s.cycle ∧
    (stopStage s).crimp = s.crimp ∧ (stopStage s).sensor = s.sensor ∧
    (stopStage s).dose.planned = s.dose.planned ∧ (stopStage s).dose.elapsed = s.dose.elapsed ∧
    (stopStage s).dose.massAtStart = s.dose.massAtStart ∧ (stopStage s).gas.stage = s.gas.stage ∧
    (stopStage s).gas.stuckEpisode = s.gas.stuckEpisode ∧ (stopStage s).line.station = s.line.station ∧
    (stopStage s).line.condition = s.line.condition ∧ (stopStage s).line.faultSlot = s.line.faultSlot ∧
    (stopStage s).line.holdSlot = s.line.holdSlot ∧ (stopStage s).line.shutSlot = s.line.shutSlot ∧
    (stopStage s).line.statusSlot = s.line.statusSlot ∧ (stopStage s).line.resultSlot = s.line.resultSlot ∧
    (stopStage s).line.attempt = s.line.attempt ∧ (stopStage s).line.abort = s.line.abort ∧
    (stopStage s).line.badCount = s.line.badCount ∧ (stopStage s).draw.keyed = s.draw.keyed ∧
    (stopStage s).draw.phantoms = s.draw.phantoms ∧ (stopStage s).hold = s.hold ∧
    (stopStage s).result = s.result ∧ (stopStage s).recipe = s.recipe ∧ (stopStage s).fault = s.fault :=
  by unfold stopStage; (try dsimp only); (repeat' split) <;> simp

@[simp] theorem closeAfter_keeps (before : GasStage) (s : State) :
    (closeAfter before s).pending = s.pending ∧ (closeAfter before s).clock = s.clock ∧
    (closeAfter before s).freeCount = s.freeCount ∧ (closeAfter before s).gasFb = s.gasFb ∧
    (closeAfter before s).cycle.station = s.cycle.station ∧
    (closeAfter before s).cycle.counter = s.cycle.counter ∧
    (closeAfter before s).cycle.stopPending = s.cycle.stopPending ∧
    (closeAfter before s).cycle.grant = s.cycle.grant ∧
    (closeAfter before s).cycle.startRefusal = s.cycle.startRefusal ∧
    (closeAfter before s).crimp = s.crimp ∧ (closeAfter before s).sensor = s.sensor ∧
    (closeAfter before s).dose = s.dose ∧ (closeAfter before s).gas.stuckEpisode = s.gas.stuckEpisode ∧
    (closeAfter before s).line.station = s.line.station ∧
    (closeAfter before s).line.condition = s.line.condition ∧
    (closeAfter before s).line.faultSlot = s.line.faultSlot ∧
    (closeAfter before s).line.holdSlot = s.line.holdSlot ∧
    (closeAfter before s).line.resultSlot = s.line.resultSlot ∧
    (closeAfter before s).line.attempt = s.line.attempt ∧ (closeAfter before s).line.abort = s.line.abort ∧
    (closeAfter before s).line.badCount = s.line.badCount ∧
    (closeAfter before s).draw.keyed = s.draw.keyed ∧
    (closeAfter before s).draw.phantoms = s.draw.phantoms ∧ (closeAfter before s).hold = s.hold ∧
    (closeAfter before s).result = s.result ∧ (closeAfter before s).recipe = s.recipe ∧
    (closeAfter before s).fault = s.fault :=
  by unfold closeAfter; (try dsimp only); (repeat' split) <;> simp

@[simp] theorem abandonGas_keeps (s : State) :
    (abandonGas s).pending = s.pending ∧ (abandonGas s).clock = s.clock ∧
    (abandonGas s).freeCount = s.freeCount ∧ (abandonGas s).gasFb = s.gasFb ∧
    (abandonGas s).cycle.station = s.cycle.station ∧ (abandonGas s).cycle.counter = s.cycle.counter ∧
    (abandonGas s).cycle.stopPending = s.cycle.stopPending ∧ (abandonGas s).cycle.grant = s.cycle.grant ∧
    (abandonGas s).cycle.startRefusal = s.cycle.startRefusal ∧ (abandonGas s).crimp = s.crimp ∧
    (abandonGas s).sensor = s.sensor ∧ (abandonGas s).dose.planned = s.dose.planned ∧
    (abandonGas s).dose.elapsed = s.dose.elapsed ∧ (abandonGas s).dose.massAtStart = s.dose.massAtStart ∧
    (abandonGas s).gas.stuckEpisode = s.gas.stuckEpisode ∧ (abandonGas s).line.station = s.line.station ∧
    (abandonGas s).line.condition = s.line.condition ∧ (abandonGas s).line.faultSlot = s.line.faultSlot ∧
    (abandonGas s).line.holdSlot = s.line.holdSlot ∧ (abandonGas s).line.resultSlot = s.line.resultSlot ∧
    (abandonGas s).line.attempt = s.line.attempt ∧ (abandonGas s).line.abort = s.line.abort ∧
    (abandonGas s).line.badCount = s.line.badCount ∧ (abandonGas s).draw.keyed = s.draw.keyed ∧
    (abandonGas s).draw.phantoms = s.draw.phantoms ∧ (abandonGas s).hold = s.hold ∧
    (abandonGas s).result = s.result ∧ (abandonGas s).recipe = s.recipe ∧ (abandonGas s).fault = s.fault :=
  by unfold abandonGas; (try dsimp only); (repeat' split) <;> simp

@[simp] theorem returnGas_keeps (s : State) :
    (returnGas s).pending = s.pending ∧ (returnGas s).clock = s.clock ∧
    (returnGas s).freeCount = s.freeCount ∧ (returnGas s).gasFb = s.gasFb ∧
    (returnGas s).context = s.context ∧ (returnGas s).cycle = s.cycle ∧ (returnGas s).crimp = s.crimp ∧
    (returnGas s).sensor = s.sensor ∧ (returnGas s).dose = s.dose ∧
    (returnGas s).gas.closeWindow = s.gas.closeWindow ∧
    (returnGas s).gas.stuckEpisode = s.gas.stuckEpisode ∧ (returnGas s).line = s.line ∧
    (returnGas s).draw = s.draw ∧ (returnGas s).hold = s.hold ∧ (returnGas s).result = s.result ∧
    (returnGas s).recipe = s.recipe ∧ (returnGas s).fault = s.fault :=
  by unfold returnGas; (try dsimp only); (repeat' split) <;> simp

@[simp] theorem startGas_keeps (s : State) :
    (startGas s).pending = s.pending ∧ (startGas s).clock = s.clock ∧
    (startGas s).freeCount = s.freeCount ∧ (startGas s).gasFb = s.gasFb ∧
    (startGas s).cycle.station = s.cycle.station ∧ (startGas s).cycle.counter = s.cycle.counter ∧
    (startGas s).cycle.stopPending = s.cycle.stopPending ∧ (startGas s).cycle.grant = s.cycle.grant ∧
    (startGas s).cycle.startRefusal = s.cycle.startRefusal ∧ (startGas s).crimp = s.crimp ∧
    (startGas s).sensor = s.sensor ∧ (startGas s).dose.planned = s.dose.planned ∧
    (startGas s).dose.elapsed = s.dose.elapsed ∧ (startGas s).dose.massAtStart = s.dose.massAtStart ∧
    (startGas s).gas.stuckEpisode = s.gas.stuckEpisode ∧ (startGas s).line.station = s.line.station ∧
    (startGas s).line.condition = s.line.condition ∧ (startGas s).line.faultSlot = s.line.faultSlot ∧
    (startGas s).line.holdSlot = s.line.holdSlot ∧ (startGas s).line.resultSlot = s.line.resultSlot ∧
    (startGas s).line.attempt = s.line.attempt ∧ (startGas s).line.abort = s.line.abort ∧
    (startGas s).line.badCount = s.line.badCount ∧ (startGas s).draw.keyed = s.draw.keyed ∧
    (startGas s).draw.phantoms = s.draw.phantoms ∧ (startGas s).hold = s.hold ∧
    (startGas s).result = s.result ∧ (startGas s).recipe = s.recipe ∧ (startGas s).fault = s.fault :=
  by unfold startGas; (try dsimp only); (repeat' split) <;> simp

@[simp] theorem enterGas_keeps (s : State) :
    (enterGas s).pending = s.pending ∧ (enterGas s).clock = s.clock ∧
    (enterGas s).freeCount = s.freeCount ∧ (enterGas s).gasFb = s.gasFb ∧
    (enterGas s).cycle.station = s.cycle.station ∧ (enterGas s).cycle.counter = s.cycle.counter ∧
    (enterGas s).cycle.stopPending = s.cycle.stopPending ∧ (enterGas s).cycle.grant = s.cycle.grant ∧
    (enterGas s).cycle.startRefusal = s.cycle.startRefusal ∧ (enterGas s).crimp = s.crimp ∧
    (enterGas s).sensor = s.sensor ∧ (enterGas s).dose.planned = s.dose.planned ∧
    (enterGas s).dose.elapsed = s.dose.elapsed ∧ (enterGas s).dose.massAtStart = s.dose.massAtStart ∧
    (enterGas s).gas.stuckEpisode = s.gas.stuckEpisode ∧ (enterGas s).line.station = s.line.station ∧
    (enterGas s).line.condition = s.line.condition ∧ (enterGas s).line.faultSlot = s.line.faultSlot ∧
    (enterGas s).line.holdSlot = s.line.holdSlot ∧ (enterGas s).line.resultSlot = s.line.resultSlot ∧
    (enterGas s).line.attempt = s.line.attempt ∧ (enterGas s).line.abort = s.line.abort ∧
    (enterGas s).line.badCount = s.line.badCount ∧ (enterGas s).draw.keyed = s.draw.keyed ∧
    (enterGas s).draw.phantoms = s.draw.phantoms ∧ (enterGas s).hold = s.hold ∧
    (enterGas s).result = s.result ∧ (enterGas s).recipe = s.recipe ∧ (enterGas s).fault = s.fault :=
  by simp [enterGas]

@[simp] theorem cutReason_keeps (s : State) :
    (cutReason s).pending = s.pending ∧ (cutReason s).clock = s.clock ∧
    (cutReason s).freeCount = s.freeCount ∧ (cutReason s).gasFb = s.gasFb ∧ (cutReason s).cycle = s.cycle ∧
    (cutReason s).crimp = s.crimp ∧ (cutReason s).sensor = s.sensor ∧ (cutReason s).dose = s.dose ∧
    (cutReason s).gas = s.gas ∧ (cutReason s).line = s.line ∧ (cutReason s).draw = s.draw ∧
    (cutReason s).hold = s.hold ∧ (cutReason s).result = s.result ∧ (cutReason s).recipe = s.recipe ∧
    (cutReason s).fault = s.fault :=
  by unfold cutReason; (try dsimp only); (repeat' split) <;> simp

@[simp] theorem cutWindow_keeps (s : State) :
    (cutWindow s).pending = s.pending ∧ (cutWindow s).clock = s.clock ∧
    (cutWindow s).freeCount = s.freeCount ∧ (cutWindow s).gasFb = s.gasFb ∧
    (cutWindow s).cycle.station = s.cycle.station ∧ (cutWindow s).cycle.counter = s.cycle.counter ∧
    (cutWindow s).cycle.stopPending = s.cycle.stopPending ∧ (cutWindow s).cycle.grant = s.cycle.grant ∧
    (cutWindow s).cycle.startRefusal = s.cycle.startRefusal ∧ (cutWindow s).crimp = s.crimp ∧
    (cutWindow s).sensor = s.sensor ∧ (cutWindow s).dose.planned = s.dose.planned ∧
    (cutWindow s).dose.elapsed = s.dose.elapsed ∧ (cutWindow s).dose.massAtStart = s.dose.massAtStart ∧
    (cutWindow s).gas.stuckEpisode = s.gas.stuckEpisode ∧ (cutWindow s).line.station = s.line.station ∧
    (cutWindow s).line.condition = s.line.condition ∧ (cutWindow s).line.faultSlot = s.line.faultSlot ∧
    (cutWindow s).line.holdSlot = s.line.holdSlot ∧ (cutWindow s).line.resultSlot = s.line.resultSlot ∧
    (cutWindow s).line.attempt = s.line.attempt ∧ (cutWindow s).line.abort = s.line.abort ∧
    (cutWindow s).line.badCount = s.line.badCount ∧ (cutWindow s).draw.keyed = s.draw.keyed ∧
    (cutWindow s).draw.phantoms = s.draw.phantoms ∧ (cutWindow s).hold = s.hold ∧
    (cutWindow s).result = s.result ∧ (cutWindow s).recipe = s.recipe ∧ (cutWindow s).fault = s.fault :=
  by unfold cutWindow; (try dsimp only); (repeat' split) <;> simp

@[simp] theorem cutCheck_keeps (s : State) :
    (cutCheck s).pending = s.pending ∧ (cutCheck s).clock = s.clock ∧
    (cutCheck s).freeCount = s.freeCount ∧ (cutCheck s).gasFb = s.gasFb ∧ (cutCheck s).cycle = s.cycle ∧
    (cutCheck s).crimp = s.crimp ∧ (cutCheck s).sensor = s.sensor ∧ (cutCheck s).dose = s.dose ∧
    (cutCheck s).gas.closeWindow = s.gas.closeWindow ∧ (cutCheck s).gas.stuckEpisode = s.gas.stuckEpisode ∧
    (cutCheck s).line = s.line ∧ (cutCheck s).draw = s.draw ∧ (cutCheck s).hold = s.hold ∧
    (cutCheck s).result = s.result ∧ (cutCheck s).recipe = s.recipe ∧ (cutCheck s).fault = s.fault :=
  by unfold cutCheck; (try dsimp only); (repeat' split) <;> simp

@[simp] theorem loseSensor_keeps (s : State) :
    (loseSensor s).pending = s.pending ∧ (loseSensor s).clock = s.clock ∧
    (loseSensor s).freeCount = s.freeCount ∧ (loseSensor s).gasFb = s.gasFb ∧
    (loseSensor s).cycle.station = s.cycle.station ∧ (loseSensor s).cycle.counter = s.cycle.counter ∧
    (loseSensor s).cycle.stopPending = s.cycle.stopPending ∧ (loseSensor s).cycle.grant = s.cycle.grant ∧
    (loseSensor s).cycle.startRefusal = s.cycle.startRefusal ∧ (loseSensor s).crimp = s.crimp ∧
    (loseSensor s).sensor = s.sensor ∧ (loseSensor s).dose.planned = s.dose.planned ∧
    (loseSensor s).dose.elapsed = s.dose.elapsed ∧ (loseSensor s).dose.massAtStart = s.dose.massAtStart ∧
    (loseSensor s).gas.stuckEpisode = s.gas.stuckEpisode ∧ (loseSensor s).line.station = s.line.station ∧
    (loseSensor s).line.condition = s.line.condition ∧ (loseSensor s).line.faultSlot = s.line.faultSlot ∧
    (loseSensor s).line.holdSlot = s.line.holdSlot ∧ (loseSensor s).line.resultSlot = s.line.resultSlot ∧
    (loseSensor s).line.attempt = s.line.attempt ∧ (loseSensor s).line.abort = s.line.abort ∧
    (loseSensor s).line.badCount = s.line.badCount ∧ (loseSensor s).draw.keyed = s.draw.keyed ∧
    (loseSensor s).draw.phantoms = s.draw.phantoms ∧ (loseSensor s).hold = s.hold ∧
    (loseSensor s).result = s.result ∧ (loseSensor s).recipe = s.recipe ∧ (loseSensor s).fault = s.fault :=
  by simp [loseSensor]

@[simp] theorem formDrive_keeps (s : State) :
    (formDrive s).pending = s.pending ∧ (formDrive s).clock = s.clock ∧ (formDrive s).gasFb = s.gasFb ∧
    (formDrive s).context = s.context ∧ (formDrive s).cycle = s.cycle ∧ (formDrive s).crimp = s.crimp ∧
    (formDrive s).sensor = s.sensor ∧ (formDrive s).dose.running = s.dose.running ∧
    (formDrive s).dose.planned = s.dose.planned ∧ (formDrive s).dose.elapsed = s.dose.elapsed ∧
    (formDrive s).dose.massAtStart = s.dose.massAtStart ∧
    (formDrive s).dose.attemptLength = s.dose.attemptLength ∧ (formDrive s).gas = s.gas ∧
    (formDrive s).line = s.line ∧ (formDrive s).draw = s.draw ∧ (formDrive s).hold = s.hold ∧
    (formDrive s).result = s.result ∧ (formDrive s).recipe = s.recipe ∧ (formDrive s).fault = s.fault :=
  by unfold formDrive; (try dsimp only); (repeat' split) <;> simp

@[simp] theorem creditSample_keeps (f : Nat) (s : State) :
    (creditSample f s).pending = s.pending ∧ (creditSample f s).clock = s.clock ∧
    (creditSample f s).freeCount = s.freeCount ∧ (creditSample f s).gasFb = s.gasFb ∧
    (creditSample f s).cycle = s.cycle ∧ (creditSample f s).crimp = s.crimp ∧
    (creditSample f s).sensor = s.sensor ∧ (creditSample f s).dose = s.dose ∧
    (creditSample f s).gas = s.gas ∧ (creditSample f s).line = s.line ∧ (creditSample f s).draw = s.draw ∧
    (creditSample f s).hold = s.hold ∧ (creditSample f s).result = s.result ∧
    (creditSample f s).recipe = s.recipe ∧ (creditSample f s).fault = s.fault :=
  by unfold creditSample; (try dsimp only); (repeat' split) <;> simp

@[simp] theorem countSample_keeps (s : State) :
    (countSample s).pending = s.pending ∧ (countSample s).clock = s.clock ∧
    (countSample s).freeCount = s.freeCount ∧ (countSample s).gasFb = s.gasFb ∧
    (countSample s).cycle = s.cycle ∧ (countSample s).crimp = s.crimp ∧ (countSample s).sensor = s.sensor ∧
    (countSample s).dose.running = s.dose.running ∧ (countSample s).dose.planned = s.dose.planned ∧
    (countSample s).dose.massAtStart = s.dose.massAtStart ∧
    (countSample s).dose.attemptLength = s.dose.attemptLength ∧ (countSample s).gas = s.gas ∧
    (countSample s).line = s.line ∧ (countSample s).draw = s.draw ∧ (countSample s).hold = s.hold ∧
    (countSample s).result = s.result ∧ (countSample s).recipe = s.recipe ∧
    (countSample s).fault = s.fault :=
  by unfold countSample; (try dsimp only); (repeat' split) <;> simp

@[simp] theorem noteHold_keeps (s : State) :
    (noteHold s).pending = s.pending ∧ (noteHold s).clock = s.clock ∧
    (noteHold s).freeCount = s.freeCount ∧ (noteHold s).gasFb = s.gasFb ∧ (noteHold s).cycle = s.cycle ∧
    (noteHold s).crimp = s.crimp ∧ (noteHold s).sensor = s.sensor ∧ (noteHold s).dose = s.dose ∧
    (noteHold s).gas = s.gas ∧ (noteHold s).line = s.line ∧ (noteHold s).draw = s.draw ∧
    (noteHold s).hold = s.hold ∧ (noteHold s).result = s.result ∧ (noteHold s).recipe = s.recipe ∧
    (noteHold s).fault = s.fault :=
  by unfold noteHold; (try dsimp only); (repeat' split) <;> simp

@[simp] theorem gasTakesSample_keeps (s : State) :
    (gasTakesSample s).pending = s.pending ∧ (gasTakesSample s).clock = s.clock ∧
    (gasTakesSample s).freeCount = s.freeCount ∧ (gasTakesSample s).gasFb = s.gasFb ∧
    (gasTakesSample s).cycle.station = s.cycle.station ∧
    (gasTakesSample s).cycle.counter = s.cycle.counter ∧
    (gasTakesSample s).cycle.stopPending = s.cycle.stopPending ∧
    (gasTakesSample s).cycle.grant = s.cycle.grant ∧
    (gasTakesSample s).cycle.startRefusal = s.cycle.startRefusal ∧ (gasTakesSample s).crimp = s.crimp ∧
    (gasTakesSample s).sensor = s.sensor ∧ (gasTakesSample s).dose.planned = s.dose.planned ∧
    (gasTakesSample s).dose.elapsed = s.dose.elapsed ∧
    (gasTakesSample s).dose.massAtStart = s.dose.massAtStart ∧
    (gasTakesSample s).gas.stuckEpisode = s.gas.stuckEpisode ∧
    (gasTakesSample s).line.station = s.line.station ∧
    (gasTakesSample s).line.condition = s.line.condition ∧
    (gasTakesSample s).line.faultSlot = s.line.faultSlot ∧
    (gasTakesSample s).line.holdSlot = s.line.holdSlot ∧
    (gasTakesSample s).line.resultSlot = s.line.resultSlot ∧
    (gasTakesSample s).line.attempt = s.line.attempt ∧ (gasTakesSample s).line.abort = s.line.abort ∧
    (gasTakesSample s).line.badCount = s.line.badCount ∧ (gasTakesSample s).draw.keyed = s.draw.keyed ∧
    (gasTakesSample s).draw.phantoms = s.draw.phantoms ∧ (gasTakesSample s).hold = s.hold ∧
    (gasTakesSample s).result = s.result ∧ (gasTakesSample s).recipe = s.recipe ∧
    (gasTakesSample s).fault = s.fault :=
  by unfold gasTakesSample; (try dsimp only); (repeat' split) <;> simp

@[simp] theorem setAsserted_keeps (b : Bool) (s : State) :
    (setAsserted b s).pending = s.pending ∧ (setAsserted b s).clock = s.clock ∧
    (setAsserted b s).freeCount = s.freeCount ∧ (setAsserted b s).gasFb = s.gasFb ∧
    (setAsserted b s).context = s.context ∧ (setAsserted b s).cycle = s.cycle ∧
    (setAsserted b s).crimp = s.crimp ∧ (setAsserted b s).sensor = s.sensor ∧
    (setAsserted b s).dose = s.dose ∧ (setAsserted b s).gas = s.gas ∧
    (setAsserted b s).line.station = s.line.station ∧ (setAsserted b s).line.condition = s.line.condition ∧
    (setAsserted b s).line.faultSlot = s.line.faultSlot ∧
    (setAsserted b s).line.holdSlot = s.line.holdSlot ∧ (setAsserted b s).line.shutSlot = s.line.shutSlot ∧
    (setAsserted b s).line.openSlot = s.line.openSlot ∧
    (setAsserted b s).line.resultSlot = s.line.resultSlot ∧
    (setAsserted b s).line.attempt = s.line.attempt ∧ (setAsserted b s).line.abort = s.line.abort ∧
    (setAsserted b s).line.badCount = s.line.badCount ∧ (setAsserted b s).draw = s.draw ∧
    (setAsserted b s).hold.table = s.hold.table ∧ (setAsserted b s).hold.resend = s.hold.resend ∧
    (setAsserted b s).result = s.result ∧ (setAsserted b s).recipe = s.recipe ∧
    (setAsserted b s).fault = s.fault :=
  by simp [setAsserted]

@[simp] theorem setOwnEntry_keeps (s : State) :
    (setOwnEntry s).pending = s.pending ∧ (setOwnEntry s).clock = s.clock ∧
    (setOwnEntry s).freeCount = s.freeCount ∧ (setOwnEntry s).gasFb = s.gasFb ∧
    (setOwnEntry s).context = s.context ∧ (setOwnEntry s).cycle = s.cycle ∧
    (setOwnEntry s).crimp = s.crimp ∧ (setOwnEntry s).sensor = s.sensor ∧ (setOwnEntry s).dose = s.dose ∧
    (setOwnEntry s).gas = s.gas ∧ (setOwnEntry s).line = s.line ∧ (setOwnEntry s).draw = s.draw ∧
    (setOwnEntry s).hold.asserted = s.hold.asserted ∧ (setOwnEntry s).hold.resend = s.hold.resend ∧
    (setOwnEntry s).result = s.result ∧ (setOwnEntry s).recipe = s.recipe ∧
    (setOwnEntry s).fault = s.fault :=
  by simp [setOwnEntry]

@[simp] theorem dropOwnEntry_keeps (s : State) :
    (dropOwnEntry s).pending = s.pending ∧ (dropOwnEntry s).clock = s.clock ∧
    (dropOwnEntry s).freeCount = s.freeCount ∧ (dropOwnEntry s).gasFb = s.gasFb ∧
    (dropOwnEntry s).context = s.context ∧ (dropOwnEntry s).cycle = s.cycle ∧
    (dropOwnEntry s).crimp = s.crimp ∧ (dropOwnEntry s).sensor = s.sensor ∧
    (dropOwnEntry s).dose = s.dose ∧ (dropOwnEntry s).gas = s.gas ∧ (dropOwnEntry s).line = s.line ∧
    (dropOwnEntry s).draw = s.draw ∧ (dropOwnEntry s).hold.asserted = s.hold.asserted ∧
    (dropOwnEntry s).result = s.result ∧ (dropOwnEntry s).recipe = s.recipe ∧
    (dropOwnEntry s).fault = s.fault :=
  by simp [dropOwnEntry]

@[simp] theorem releaseHold_keeps (s : State) :
    (releaseHold s).pending = s.pending ∧ (releaseHold s).clock = s.clock ∧
    (releaseHold s).freeCount = s.freeCount ∧ (releaseHold s).gasFb = s.gasFb ∧
    (releaseHold s).cycle = s.cycle ∧ (releaseHold s).crimp = s.crimp ∧ (releaseHold s).sensor = s.sensor ∧
    (releaseHold s).dose.running = s.dose.running ∧ (releaseHold s).dose.planned = s.dose.planned ∧
    (releaseHold s).dose.elapsed = s.dose.elapsed ∧ (releaseHold s).dose.massAtStart = s.dose.massAtStart ∧
    (releaseHold s).gas = s.gas ∧ (releaseHold s).line.station = s.line.station ∧
    (releaseHold s).line.condition = s.line.condition ∧ (releaseHold s).line.faultSlot = s.line.faultSlot ∧
    (releaseHold s).line.shutSlot = s.line.shutSlot ∧ (releaseHold s).line.resultSlot = s.line.resultSlot ∧
    (releaseHold s).line.attempt = s.line.attempt ∧ (releaseHold s).line.abort = s.line.abort ∧
    (releaseHold s).line.badCount = s.line.badCount ∧ (releaseHold s).draw.self = s.draw.self ∧
    (releaseHold s).draw.keyed = s.draw.keyed ∧ (releaseHold s).draw.phantoms = s.draw.phantoms ∧
    (releaseHold s).result = s.result ∧ (releaseHold s).recipe = s.recipe ∧
    (releaseHold s).fault = s.fault :=
  by simp [releaseHold]

@[simp] theorem standDown_keeps (s : State) :
    (standDown s).pending = s.pending ∧ (standDown s).clock = s.clock ∧
    (standDown s).freeCount = s.freeCount ∧ (standDown s).gasFb = s.gasFb ∧
    (standDown s).context = s.context ∧ (standDown s).cycle = s.cycle ∧ (standDown s).crimp = s.crimp ∧
    (standDown s).sensor = s.sensor ∧ (standDown s).dose = s.dose ∧ (standDown s).gas = s.gas ∧
    (standDown s).line.station = s.line.station ∧ (standDown s).line.condition = s.line.condition ∧
    (standDown s).line.faultSlot = s.line.faultSlot ∧ (standDown s).line.holdSlot = s.line.holdSlot ∧
    (standDown s).line.shutSlot = s.line.shutSlot ∧ (standDown s).line.openSlot = s.line.openSlot ∧
    (standDown s).line.resultSlot = s.line.resultSlot ∧ (standDown s).line.attempt = s.line.attempt ∧
    (standDown s).line.abort = s.line.abort ∧ (standDown s).line.badCount = s.line.badCount ∧
    (standDown s).draw = s.draw ∧ (standDown s).result = s.result ∧ (standDown s).recipe = s.recipe ∧
    (standDown s).fault = s.fault :=
  by unfold standDown; (try dsimp only); (repeat' split) <;> simp

@[simp] theorem testAssertion_keeps (s : State) :
    (testAssertion s).pending = s.pending ∧ (testAssertion s).clock = s.clock ∧
    (testAssertion s).freeCount = s.freeCount ∧ (testAssertion s).gasFb = s.gasFb ∧
    (testAssertion s).cycle = s.cycle ∧ (testAssertion s).crimp = s.crimp ∧
    (testAssertion s).sensor = s.sensor ∧ (testAssertion s).dose.running = s.dose.running ∧
    (testAssertion s).dose.planned = s.dose.planned ∧ (testAssertion s).dose.elapsed = s.dose.elapsed ∧
    (testAssertion s).dose.massAtStart = s.dose.massAtStart ∧ (testAssertion s).gas = s.gas ∧
    (testAssertion s).line.station = s.line.station ∧ (testAssertion s).line.condition = s.line.condition ∧
    (testAssertion s).line.faultSlot = s.line.faultSlot ∧
    (testAssertion s).line.shutSlot = s.line.shutSlot ∧
    (testAssertion s).line.resultSlot = s.line.resultSlot ∧
    (testAssertion s).line.attempt = s.line.attempt ∧ (testAssertion s).line.abort = s.line.abort ∧
    (testAssertion s).line.badCount = s.line.badCount ∧ (testAssertion s).draw.self = s.draw.self ∧
    (testAssertion s).draw.keyed = s.draw.keyed ∧ (testAssertion s).draw.phantoms = s.draw.phantoms ∧
    (testAssertion s).hold.resend = s.hold.resend ∧ (testAssertion s).result = s.result ∧
    (testAssertion s).recipe = s.recipe ∧ (testAssertion s).fault = s.fault :=
  by unfold testAssertion; (try dsimp only); (repeat' split) <;> simp

@[simp] theorem holdAtMove_keeps (before after : Station) (s : State) :
    (holdAtMove before after s).pending = s.pending ∧ (holdAtMove before after s).clock = s.clock ∧
    (holdAtMove before after s).freeCount = s.freeCount ∧ (holdAtMove before after s).gasFb = s.gasFb ∧
    (holdAtMove before after s).cycle = s.cycle ∧ (holdAtMove before after s).crimp = s.crimp ∧
    (holdAtMove before after s).sensor = s.sensor ∧
    (holdAtMove before after s).dose.running = s.dose.running ∧
    (holdAtMove before after s).dose.planned = s.dose.planned ∧
    (holdAtMove before after s).dose.elapsed = s.dose.elapsed ∧
    (holdAtMove before after s).dose.massAtStart = s.dose.massAtStart ∧
    (holdAtMove before after s).gas = s.gas ∧ (holdAtMove before after s).line.station = s.line.station ∧
    (holdAtMove before after s).line.condition = s.line.condition ∧
    (holdAtMove before after s).line.faultSlot = s.line.faultSlot ∧
    (holdAtMove before after s).line.shutSlot = s.line.shutSlot ∧
    (holdAtMove before after s).line.resultSlot = s.line.resultSlot ∧
    (holdAtMove before after s).line.attempt = s.line.attempt ∧
    (holdAtMove before after s).line.abort = s.line.abort ∧
    (holdAtMove before after s).line.badCount = s.line.badCount ∧
    (holdAtMove before after s).draw.self = s.draw.self ∧
    (holdAtMove before after s).draw.keyed = s.draw.keyed ∧
    (holdAtMove before after s).draw.phantoms = s.draw.phantoms ∧
    (holdAtMove before after s).result = s.result ∧ (holdAtMove before after s).recipe = s.recipe ∧
    (holdAtMove before after s).fault = s.fault :=
  by unfold holdAtMove; (try dsimp only); (repeat' split) <;> simp

@[simp] theorem drawAtMove_keeps (after : Station) (s : State) :
    (drawAtMove after s).pending = s.pending ∧ (drawAtMove after s).clock = s.clock ∧
    (drawAtMove after s).freeCount = s.freeCount ∧ (drawAtMove after s).gasFb = s.gasFb ∧
    (drawAtMove after s).context = s.context ∧ (drawAtMove after s).cycle = s.cycle ∧
    (drawAtMove after s).crimp = s.crimp ∧ (drawAtMove after s).sensor = s.sensor ∧
    (drawAtMove after s).dose = s.dose ∧ (drawAtMove after s).gas = s.gas ∧
    (drawAtMove after s).line.station = s.line.station ∧
    (drawAtMove after s).line.condition = s.line.condition ∧
    (drawAtMove after s).line.faultSlot = s.line.faultSlot ∧
    (drawAtMove after s).line.holdSlot = s.line.holdSlot ∧
    (drawAtMove after s).line.shutSlot = s.line.shutSlot ∧
    (drawAtMove after s).line.openSlot = s.line.openSlot ∧
    (drawAtMove after s).line.resultSlot = s.line.resultSlot ∧
    (drawAtMove after s).line.attempt = s.line.attempt ∧ (drawAtMove after s).line.abort = s.line.abort ∧
    (drawAtMove after s).line.badCount = s.line.badCount ∧ (drawAtMove after s).hold = s.hold ∧
    (drawAtMove after s).result = s.result ∧ (drawAtMove after s).recipe = s.recipe ∧
    (drawAtMove after s).fault = s.fault :=
  by unfold drawAtMove; (try dsimp only); (repeat' split) <;> simp

@[simp] theorem cycleAtMove_keeps (after : Station) (s : State) :
    (cycleAtMove after s).pending = s.pending ∧ (cycleAtMove after s).clock = s.clock ∧
    (cycleAtMove after s).freeCount = s.freeCount ∧ (cycleAtMove after s).gasFb = s.gasFb ∧
    (cycleAtMove after s).context = s.context ∧ (cycleAtMove after s).cycle.station = s.cycle.station ∧
    (cycleAtMove after s).cycle.phase = s.cycle.phase ∧
    (cycleAtMove after s).cycle.counter = s.cycle.counter ∧
    (cycleAtMove after s).cycle.stopPending = s.cycle.stopPending ∧
    (cycleAtMove after s).cycle.grant = s.cycle.grant ∧
    (cycleAtMove after s).cycle.startRefusal = s.cycle.startRefusal ∧
    (cycleAtMove after s).crimp = s.crimp ∧ (cycleAtMove after s).sensor = s.sensor ∧
    (cycleAtMove after s).dose = s.dose ∧ (cycleAtMove after s).gas = s.gas ∧
    (cycleAtMove after s).line = s.line ∧ (cycleAtMove after s).draw = s.draw ∧
    (cycleAtMove after s).hold = s.hold ∧ (cycleAtMove after s).result = s.result ∧
    (cycleAtMove after s).recipe = s.recipe ∧ (cycleAtMove after s).fault = s.fault :=
  by unfold cycleAtMove; (try dsimp only); (repeat' split) <;> simp

@[simp] theorem moveTo_keeps (after : Station) (s : State) :
    (moveTo after s).pending = s.pending ∧ (moveTo after s).clock = s.clock ∧
    (moveTo after s).freeCount = s.freeCount ∧ (moveTo after s).gasFb = s.gasFb ∧
    (moveTo after s).cycle.phase = s.cycle.phase ∧ (moveTo after s).cycle.counter = s.cycle.counter ∧
    (moveTo after s).cycle.stopPending = s.cycle.stopPending ∧
    (moveTo after s).cycle.grant = s.cycle.grant ∧
    (moveTo after s).cycle.startRefusal = s.cycle.startRefusal ∧ (moveTo after s).crimp = s.crimp ∧
    (moveTo after s).sensor.header = s.sensor.header ∧ (moveTo after s).sensor.bell = s.sensor.bell ∧
    (moveTo after s).sensor.transaction = s.sensor.transaction ∧
    (moveTo after s).sensor.lastPair = s.sensor.lastPair ∧
    (moveTo after s).sensor.zeroOffset = s.sensor.zeroOffset ∧
    (moveTo after s).sensor.zeroing = s.sensor.zeroing ∧
    (moveTo after s).sensor.zeroSamples = s.sensor.zeroSamples ∧
    (moveTo after s).sensor.zeroDebt = s.sensor.zeroDebt ∧
    (moveTo after s).sensor.sample = s.sensor.sample ∧ (moveTo after s).dose.running = s.dose.running ∧
    (moveTo after s).dose.planned = s.dose.planned ∧ (moveTo after s).dose.elapsed = s.dose.elapsed ∧
    (moveTo after s).dose.massAtStart = s.dose.massAtStart ∧ (moveTo after s).gas = s.gas ∧
    (moveTo after s).line.station = s.line.station ∧ (moveTo after s).line.condition = s.line.condition ∧
    (moveTo after s).line.faultSlot = s.line.faultSlot ∧ (moveTo after s).line.shutSlot = s.line.shutSlot ∧
    (moveTo after s).line.resultSlot = s.line.resultSlot ∧ (moveTo after s).line.attempt = s.line.attempt ∧
    (moveTo after s).line.abort = s.line.abort ∧ (moveTo after s).line.badCount = s.line.badCount ∧
    (moveTo after s).result = s.result ∧ (moveTo after s).recipe = s.recipe ∧
    (moveTo after s).fault = s.fault :=
  by unfold moveTo; (try dsimp only); (repeat' split) <;> simp

@[simp] theorem abandonCrimp_keeps (s : State) :
    (abandonCrimp s).pending = s.pending ∧ (abandonCrimp s).clock = s.clock ∧
    (abandonCrimp s).freeCount = s.freeCount ∧ (abandonCrimp s).gasFb = s.gasFb ∧
    (abandonCrimp s).cycle = s.cycle ∧ (abandonCrimp s).sensor = s.sensor ∧
    (abandonCrimp s).dose = s.dose ∧ (abandonCrimp s).gas = s.gas ∧ (abandonCrimp s).line = s.line ∧
    (abandonCrimp s).draw = s.draw ∧ (abandonCrimp s).hold = s.hold ∧ (abandonCrimp s).result = s.result ∧
    (abandonCrimp s).recipe = s.recipe ∧ (abandonCrimp s).fault = s.fault :=
  by unfold abandonCrimp; (try dsimp only); (repeat' split) <;> simp

@[simp] theorem abandonContext_keeps (s : State) :
    (abandonContext s).pending = s.pending ∧ (abandonContext s).clock = s.clock ∧
    (abandonContext s).freeCount = s.freeCount ∧ (abandonContext s).gasFb = s.gasFb ∧
    (abandonContext s).cycle.station = s.cycle.station ∧
    (abandonContext s).cycle.counter = s.cycle.counter ∧
    (abandonContext s).cycle.stopPending = s.cycle.stopPending ∧
    (abandonContext s).cycle.grant = s.cycle.grant ∧
    (abandonContext s).cycle.startRefusal = s.cycle.startRefusal ∧
    (abandonContext s).sensor.header = s.sensor.header ∧ (abandonContext s).sensor.bell = s.sensor.bell ∧
    (abandonContext s).sensor.transaction = s.sensor.transaction ∧
    (abandonContext s).sensor.lastPair = s.sensor.lastPair ∧
    (abandonContext s).sensor.zeroOffset = s.sensor.zeroOffset ∧
    (abandonContext s).sensor.zeroing = s.sensor.zeroing ∧
    (abandonContext s).sensor.zeroSamples = s.sensor.zeroSamples ∧
    (abandonContext s).sensor.sample = s.sensor.sample ∧ (abandonContext s).dose.planned = s.dose.planned ∧
    (abandonContext s).dose.elapsed = s.dose.elapsed ∧
    (abandonContext s).dose.massAtStart = s.dose.massAtStart ∧
    (abandonContext s).gas.stuckEpisode = s.gas.stuckEpisode ∧
    (abandonContext s).line.station = s.line.station ∧
    (abandonContext s).line.condition = s.line.condition ∧
    (abandonContext s).line.faultSlot = s.line.faultSlot ∧
    (abandonContext s).line.holdSlot = s.line.holdSlot ∧ (abandonContext s).line.attempt = s.line.attempt ∧
    (abandonContext s).line.abort = s.line.abort ∧ (abandonContext s).line.badCount = s.line.badCount ∧
    (abandonContext s).draw.keyed = s.draw.keyed ∧ (abandonContext s).draw.phantoms = s.draw.phantoms ∧
    (abandonContext s).hold = s.hold ∧ (abandonContext s).recipe = s.recipe ∧
    (abandonContext s).fault.enables = s.fault.enables :=
  by unfold abandonContext; (try dsimp only); (repeat' split) <;> simp

@[simp] theorem enterFaulted_keeps (s : State) :
    (enterFaulted s).pending = s.pending ∧ (enterFaulted s).clock = s.clock ∧
    (enterFaulted s).freeCount = s.freeCount ∧ (enterFaulted s).gasFb = s.gasFb ∧
    (enterFaulted s).cycle.counter = s.cycle.counter ∧
    (enterFaulted s).cycle.startRefusal = s.cycle.startRefusal ∧
    (enterFaulted s).sensor.header = s.sensor.header ∧ (enterFaulted s).sensor.bell = s.sensor.bell ∧
    (enterFaulted s).sensor.transaction = s.sensor.transaction ∧
    (enterFaulted s).sensor.lastPair = s.sensor.lastPair ∧
    (enterFaulted s).sensor.zeroOffset = s.sensor.zeroOffset ∧
    (enterFaulted s).sensor.sample = s.sensor.sample ∧ (enterFaulted s).dose.planned = s.dose.planned ∧
    (enterFaulted s).dose.elapsed = s.dose.elapsed ∧
    (enterFaulted s).dose.massAtStart = s.dose.massAtStart ∧
    (enterFaulted s).gas.stuckEpisode = s.gas.stuckEpisode ∧
    (enterFaulted s).line.station = s.line.station ∧ (enterFaulted s).line.condition = s.line.condition ∧
    (enterFaulted s).line.faultSlot = s.line.faultSlot ∧ (enterFaulted s).line.attempt = s.line.attempt ∧
    (enterFaulted s).line.abort = s.line.abort ∧ (enterFaulted s).line.badCount = s.line.badCount ∧
    (enterFaulted s).recipe = s.recipe ∧ (enterFaulted s).fault.enables = s.fault.enables :=
  by simp [enterFaulted]

@[simp] theorem retestIfDead_keeps (c : Cell) (s : State) :
    (retestIfDead c s).pending = s.pending ∧ (retestIfDead c s).clock = s.clock ∧
    (retestIfDead c s).freeCount = s.freeCount ∧ (retestIfDead c s).gasFb = s.gasFb ∧
    (retestIfDead c s).cycle = s.cycle ∧ (retestIfDead c s).crimp = s.crimp ∧
    (retestIfDead c s).sensor = s.sensor ∧ (retestIfDead c s).dose.running = s.dose.running ∧
    (retestIfDead c s).dose.planned = s.dose.planned ∧ (retestIfDead c s).dose.elapsed = s.dose.elapsed ∧
    (retestIfDead c s).dose.massAtStart = s.dose.massAtStart ∧ (retestIfDead c s).gas = s.gas ∧
    (retestIfDead c s).line.station = s.line.station ∧
    (retestIfDead c s).line.condition = s.line.condition ∧
    (retestIfDead c s).line.faultSlot = s.line.faultSlot ∧
    (retestIfDead c s).line.holdSlot = s.line.holdSlot ∧
    (retestIfDead c s).line.shutSlot = s.line.shutSlot ∧
    (retestIfDead c s).line.statusSlot = s.line.statusSlot ∧
    (retestIfDead c s).line.resultSlot = s.line.resultSlot ∧
    (retestIfDead c s).line.attempt = s.line.attempt ∧ (retestIfDead c s).line.abort = s.line.abort ∧
    (retestIfDead c s).line.badCount = s.line.badCount ∧ (retestIfDead c s).draw.self = s.draw.self ∧
    (retestIfDead c s).draw.keyed = s.draw.keyed ∧ (retestIfDead c s).draw.phantoms = s.draw.phantoms ∧
    (retestIfDead c s).hold = s.hold ∧ (retestIfDead c s).result = s.result ∧
    (retestIfDead c s).recipe = s.recipe ∧ (retestIfDead c s).fault = s.fault :=
  by unfold retestIfDead; (try dsimp only); (repeat' split) <;> simp

@[simp] theorem reportF_keeps (c : Cell) (s : State) :
    (reportF c s).pending = s.pending ∧ (reportF c s).clock = s.clock ∧
    (reportF c s).freeCount = s.freeCount ∧ (reportF c s).gasFb = s.gasFb ∧
    (reportF c s).cycle.counter = s.cycle.counter ∧
    (reportF c s).cycle.startRefusal = s.cycle.startRefusal ∧
    (reportF c s).sensor.header = s.sensor.header ∧ (reportF c s).sensor.bell = s.sensor.bell ∧
    (reportF c s).sensor.transaction = s.sensor.transaction ∧
    (reportF c s).sensor.lastPair = s.sensor.lastPair ∧
    (reportF c s).sensor.zeroOffset = s.sensor.zeroOffset ∧ (reportF c s).sensor.sample = s.sensor.sample ∧
    (reportF c s).dose.planned = s.dose.planned ∧ (reportF c s).dose.elapsed = s.dose.elapsed ∧
    (reportF c s).dose.massAtStart = s.dose.massAtStart ∧
    (reportF c s).gas.stuckEpisode = s.gas.stuckEpisode ∧ (reportF c s).line.station = s.line.station ∧
    (reportF c s).line.condition = s.line.condition ∧ (reportF c s).line.attempt = s.line.attempt ∧
    (reportF c s).line.abort = s.line.abort ∧ (reportF c s).line.badCount = s.line.badCount ∧
    (reportF c s).recipe = s.recipe ∧ (reportF c s).fault.enables = s.fault.enables :=
  by unfold reportF; (try dsimp only); (repeat' split) <;> simp

@[simp] theorem drawTakesStuck_keeps (s : State) :
    (drawTakesStuck s).pending = s.pending ∧ (drawTakesStuck s).clock = s.clock ∧
    (drawTakesStuck s).freeCount = s.freeCount ∧ (drawTakesStuck s).gasFb = s.gasFb ∧
    (drawTakesStuck s).context = s.context ∧ (drawTakesStuck s).cycle = s.cycle ∧
    (drawTakesStuck s).crimp = s.crimp ∧ (drawTakesStuck s).sensor = s.sensor ∧
    (drawTakesStuck s).dose = s.dose ∧ (drawTakesStuck s).gas = s.gas ∧
    (drawTakesStuck s).line.station = s.line.station ∧
    (drawTakesStuck s).line.condition = s.line.condition ∧
    (drawTakesStuck s).line.faultSlot = s.line.faultSlot ∧
    (drawTakesStuck s).line.holdSlot = s.line.holdSlot ∧
    (drawTakesStuck s).line.shutSlot = s.line.shutSlot ∧
    (drawTakesStuck s).line.openSlot = s.line.openSlot ∧
    (drawTakesStuck s).line.resultSlot = s.line.resultSlot ∧
    (drawTakesStuck s).line.attempt = s.line.attempt ∧ (drawTakesStuck s).line.abort = s.line.abort ∧
    (drawTakesStuck s).line.badCount = s.line.badCount ∧ (drawTakesStuck s).draw.keyed = s.draw.keyed ∧
    (drawTakesStuck s).draw.phantoms = s.draw.phantoms ∧ (drawTakesStuck s).draw.claim = s.draw.claim ∧
    (drawTakesStuck s).hold = s.hold ∧ (drawTakesStuck s).result = s.result ∧
    (drawTakesStuck s).recipe = s.recipe ∧ (drawTakesStuck s).fault = s.fault :=
  by unfold drawTakesStuck; (try dsimp only); (repeat' split) <;> simp

@[simp] theorem findStuckValve_keeps (s : State) :
    (findStuckValve s).pending = s.pending ∧ (findStuckValve s).clock = s.clock ∧
    (findStuckValve s).freeCount = s.freeCount ∧ (findStuckValve s).gasFb = s.gasFb ∧
    (findStuckValve s).cycle.counter = s.cycle.counter ∧
    (findStuckValve s).cycle.startRefusal = s.cycle.startRefusal ∧
    (findStuckValve s).sensor.header = s.sensor.header ∧ (findStuckValve s).sensor.bell = s.sensor.bell ∧
    (findStuckValve s).sensor.transaction = s.sensor.transaction ∧
    (findStuckValve s).sensor.lastPair = s.sensor.lastPair ∧
    (findStuckValve s).sensor.zeroOffset = s.sensor.zeroOffset ∧
    (findStuckValve s).sensor.sample = s.sensor.sample ∧ (findStuckValve s).dose.planned = s.dose.planned ∧
    (findStuckValve s).dose.elapsed = s.dose.elapsed ∧
    (findStuckValve s).dose.massAtStart = s.dose.massAtStart ∧
    (findStuckValve s).line.station = s.line.station ∧
    (findStuckValve s).line.condition = s.line.condition ∧
    (findStuckValve s).line.attempt = s.line.attempt ∧ (findStuckValve s).line.abort = s.line.abort ∧
    (findStuckValve s).line.badCount = s.line.badCount ∧ (findStuckValve s).recipe = s.recipe ∧
    (findStuckValve s).fault.enables = s.fault.enables :=
  by unfold findStuckValve; (try dsimp only); (repeat' split) <;> simp

@[simp] theorem parkTest_keeps (s : State) :
    (parkTest s).pending = s.pending ∧ (parkTest s).clock = s.clock ∧
    (parkTest s).freeCount = s.freeCount ∧ (parkTest s).gasFb = s.gasFb ∧
    (parkTest s).cycle.phase = s.cycle.phase ∧ (parkTest s).cycle.counter = s.cycle.counter ∧
    (parkTest s).cycle.stopPending = s.cycle.stopPending ∧ (parkTest s).cycle.grant = s.cycle.grant ∧
    (parkTest s).cycle.startRefusal = s.cycle.startRefusal ∧ (parkTest s).crimp = s.crimp ∧
    (parkTest s).sensor.header = s.sensor.header ∧ (parkTest s).sensor.bell = s.sensor.bell ∧
    (parkTest s).sensor.transaction = s.sensor.transaction ∧
    (parkTest s).sensor.lastPair = s.sensor.lastPair ∧
    (parkTest s).sensor.zeroOffset = s.sensor.zeroOffset ∧ (parkTest s).sensor.zeroing = s.sensor.zeroing ∧
    (parkTest s).sensor.zeroSamples = s.sensor.zeroSamples ∧
    (parkTest s).sensor.zeroDebt = s.sensor.zeroDebt ∧ (parkTest s).sensor.sample = s.sensor.sample ∧
    (parkTest s).dose.running = s.dose.running ∧ (parkTest s).dose.planned = s.dose.planned ∧
    (parkTest s).dose.elapsed = s.dose.elapsed ∧ (parkTest s).dose.massAtStart = s.dose.massAtStart ∧
    (parkTest s).gas = s.gas ∧ (parkTest s).line.station = s.line.station ∧
    (parkTest s).line.condition = s.line.condition ∧ (parkTest s).line.faultSlot = s.line.faultSlot ∧
    (parkTest s).line.shutSlot = s.line.shutSlot ∧ (parkTest s).line.resultSlot = s.line.resultSlot ∧
    (parkTest s).line.attempt = s.line.attempt ∧ (parkTest s).line.abort = s.line.abort ∧
    (parkTest s).line.badCount = s.line.badCount ∧ (parkTest s).result = s.result ∧
    (parkTest s).recipe = s.recipe ∧ (parkTest s).fault = s.fault :=
  by unfold parkTest; (try dsimp only); (repeat' split) <;> simp

end Sys2Proof.Machine
end

