-- ==== Sys2Proof/Laws/Commands.lean ====
section
/-!
SUPPORT. What each operation of the command files leaves unchanged.
-/

namespace Sys2Proof.Machine

@[simp] theorem setCrimp_keeps (c : CrimpState) (t : CrimpTimer) (s : State) :
    (setCrimp c t s).pending = s.pending ∧ (setCrimp c t s).clock = s.clock ∧
    (setCrimp c t s).freeCount = s.freeCount ∧ (setCrimp c t s).gasFb = s.gasFb ∧
    (setCrimp c t s).context = s.context ∧ (setCrimp c t s).cycle = s.cycle ∧
    (setCrimp c t s).sensor = s.sensor ∧ (setCrimp c t s).dose = s.dose ∧ (setCrimp c t s).gas = s.gas ∧
    (setCrimp c t s).line = s.line ∧ (setCrimp c t s).draw = s.draw ∧ (setCrimp c t s).hold = s.hold ∧
    (setCrimp c t s).result = s.result ∧ (setCrimp c t s).recipe = s.recipe ∧
    (setCrimp c t s).fault = s.fault :=
  by simp [setCrimp]

@[simp] theorem startCrimp_keeps (s : State) :
    (startCrimp s).pending = s.pending ∧ (startCrimp s).clock = s.clock ∧
    (startCrimp s).freeCount = s.freeCount ∧ (startCrimp s).gasFb = s.gasFb ∧
    (startCrimp s).cycle = s.cycle ∧ (startCrimp s).sensor = s.sensor ∧ (startCrimp s).dose = s.dose ∧
    (startCrimp s).gas = s.gas ∧ (startCrimp s).line = s.line ∧ (startCrimp s).draw = s.draw ∧
    (startCrimp s).hold = s.hold ∧ (startCrimp s).result = s.result ∧ (startCrimp s).recipe = s.recipe ∧
    (startCrimp s).fault = s.fault :=
  by simp [startCrimp]

@[simp] theorem addFailureCondition_keeps (f : CrimpFailure) (s : State) :
    (addFailureCondition f s).pending = s.pending ∧ (addFailureCondition f s).clock = s.clock ∧
    (addFailureCondition f s).freeCount = s.freeCount ∧ (addFailureCondition f s).gasFb = s.gasFb ∧
    (addFailureCondition f s).cycle = s.cycle ∧ (addFailureCondition f s).crimp = s.crimp ∧
    (addFailureCondition f s).sensor = s.sensor ∧ (addFailureCondition f s).dose = s.dose ∧
    (addFailureCondition f s).gas = s.gas ∧ (addFailureCondition f s).line = s.line ∧
    (addFailureCondition f s).draw = s.draw ∧ (addFailureCondition f s).hold = s.hold ∧
    (addFailureCondition f s).result = s.result ∧ (addFailureCondition f s).recipe = s.recipe ∧
    (addFailureCondition f s).fault = s.fault :=
  by unfold addFailureCondition; (try dsimp only); (repeat' split) <;> simp

@[simp] theorem enterRelease_keeps (s : State) :
    (enterRelease s).pending = s.pending ∧ (enterRelease s).clock = s.clock ∧
    (enterRelease s).freeCount = s.freeCount ∧ (enterRelease s).gasFb = s.gasFb ∧
    (enterRelease s).cycle = s.cycle ∧ (enterRelease s).sensor = s.sensor ∧
    (enterRelease s).dose = s.dose ∧ (enterRelease s).gas = s.gas ∧ (enterRelease s).line = s.line ∧
    (enterRelease s).draw = s.draw ∧ (enterRelease s).hold = s.hold ∧ (enterRelease s).result = s.result ∧
    (enterRelease s).recipe = s.recipe ∧ (enterRelease s).fault = s.fault :=
  by simp [enterRelease]

@[simp] theorem failCrimp_keeps (f : CrimpFailure) (s : State) :
    (failCrimp f s).pending = s.pending ∧ (failCrimp f s).clock = s.clock ∧
    (failCrimp f s).freeCount = s.freeCount ∧ (failCrimp f s).gasFb = s.gasFb ∧
    (failCrimp f s).cycle = s.cycle ∧ (failCrimp f s).sensor = s.sensor ∧ (failCrimp f s).dose = s.dose ∧
    (failCrimp f s).gas = s.gas ∧ (failCrimp f s).line = s.line ∧ (failCrimp f s).draw = s.draw ∧
    (failCrimp f s).hold = s.hold ∧ (failCrimp f s).result = s.result ∧ (failCrimp f s).recipe = s.recipe ∧
    (failCrimp f s).fault = s.fault :=
  by simp [failCrimp]

@[simp] theorem enterDwell_keeps (s : State) :
    (enterDwell s).pending = s.pending ∧ (enterDwell s).clock = s.clock ∧
    (enterDwell s).freeCount = s.freeCount ∧ (enterDwell s).gasFb = s.gasFb ∧
    (enterDwell s).cycle = s.cycle ∧ (enterDwell s).sensor = s.sensor ∧ (enterDwell s).dose = s.dose ∧
    (enterDwell s).gas = s.gas ∧ (enterDwell s).line = s.line ∧ (enterDwell s).draw = s.draw ∧
    (enterDwell s).hold = s.hold ∧ (enterDwell s).result = s.result ∧ (enterDwell s).recipe = s.recipe ∧
    (enterDwell s).fault = s.fault :=
  by unfold enterDwell; (try dsimp only); (repeat' split) <;> simp

@[simp] theorem readCrimpSample_keeps (force depth : Nat) (s : State) :
    (readCrimpSample force depth s).pending = s.pending ∧ (readCrimpSample force depth s).clock = s.clock ∧
    (readCrimpSample force depth s).freeCount = s.freeCount ∧
    (readCrimpSample force depth s).gasFb = s.gasFb ∧ (readCrimpSample force depth s).cycle = s.cycle ∧
    (readCrimpSample force depth s).crimp.state = s.crimp.state ∧
    (readCrimpSample force depth s).sensor = s.sensor ∧ (readCrimpSample force depth s).dose = s.dose ∧
    (readCrimpSample force depth s).gas = s.gas ∧ (readCrimpSample force depth s).line = s.line ∧
    (readCrimpSample force depth s).draw = s.draw ∧ (readCrimpSample force depth s).hold = s.hold ∧
    (readCrimpSample force depth s).result = s.result ∧ (readCrimpSample force depth s).recipe = s.recipe ∧
    (readCrimpSample force depth s).fault = s.fault :=
  by simp [readCrimpSample]

@[simp] theorem crimpVerdict_keeps (good : Bool) (s : State) :
    (crimpVerdict good s).pending = s.pending ∧ (crimpVerdict good s).clock = s.clock ∧
    (crimpVerdict good s).freeCount = s.freeCount ∧ (crimpVerdict good s).gasFb = s.gasFb ∧
    (crimpVerdict good s).cycle.station = s.cycle.station ∧
    (crimpVerdict good s).cycle.counter = s.cycle.counter ∧
    (crimpVerdict good s).cycle.stopPending = s.cycle.stopPending ∧
    (crimpVerdict good s).cycle.grant = s.cycle.grant ∧
    (crimpVerdict good s).cycle.startRefusal = s.cycle.startRefusal ∧
    (crimpVerdict good s).crimp = s.crimp ∧ (crimpVerdict good s).sensor = s.sensor ∧
    (crimpVerdict good s).dose.planned = s.dose.planned ∧
    (crimpVerdict good s).dose.elapsed = s.dose.elapsed ∧
    (crimpVerdict good s).dose.massAtStart = s.dose.massAtStart ∧
    (crimpVerdict good s).gas.stuckEpisode = s.gas.stuckEpisode ∧
    (crimpVerdict good s).line.station = s.line.station ∧
    (crimpVerdict good s).line.condition = s.line.condition ∧
    (crimpVerdict good s).line.faultSlot = s.line.faultSlot ∧
    (crimpVerdict good s).line.holdSlot = s.line.holdSlot ∧
    (crimpVerdict good s).line.resultSlot = s.line.resultSlot ∧
    (crimpVerdict good s).line.attempt = s.line.attempt ∧ (crimpVerdict good s).line.abort = s.line.abort ∧
    (crimpVerdict good s).line.badCount = s.line.badCount ∧
    (crimpVerdict good s).draw.keyed = s.draw.keyed ∧
    (crimpVerdict good s).draw.phantoms = s.draw.phantoms ∧ (crimpVerdict good s).hold = s.hold ∧
    (crimpVerdict good s).result = s.result ∧ (crimpVerdict good s).recipe = s.recipe ∧
    (crimpVerdict good s).fault = s.fault :=
  by unfold crimpVerdict; (try dsimp only); (repeat' split) <;> simp

@[simp] theorem enterDone_keeps (s : State) :
    (enterDone s).pending = s.pending ∧ (enterDone s).clock = s.clock ∧
    (enterDone s).freeCount = s.freeCount ∧ (enterDone s).gasFb = s.gasFb ∧
    (enterDone s).cycle.station = s.cycle.station ∧ (enterDone s).cycle.counter = s.cycle.counter ∧
    (enterDone s).cycle.stopPending = s.cycle.stopPending ∧ (enterDone s).cycle.grant = s.cycle.grant ∧
    (enterDone s).cycle.startRefusal = s.cycle.startRefusal ∧ (enterDone s).sensor = s.sensor ∧
    (enterDone s).dose.planned = s.dose.planned ∧ (enterDone s).dose.elapsed = s.dose.elapsed ∧
    (enterDone s).dose.massAtStart = s.dose.massAtStart ∧
    (enterDone s).gas.stuckEpisode = s.gas.stuckEpisode ∧ (enterDone s).line.station = s.line.station ∧
    (enterDone s).line.condition = s.line.condition ∧ (enterDone s).line.faultSlot = s.line.faultSlot ∧
    (enterDone s).line.holdSlot = s.line.holdSlot ∧ (enterDone s).line.resultSlot = s.line.resultSlot ∧
    (enterDone s).line.attempt = s.line.attempt ∧ (enterDone s).line.abort = s.line.abort ∧
    (enterDone s).line.badCount = s.line.badCount ∧ (enterDone s).draw.keyed = s.draw.keyed ∧
    (enterDone s).draw.phantoms = s.draw.phantoms ∧ (enterDone s).hold = s.hold ∧
    (enterDone s).result = s.result ∧ (enterDone s).recipe = s.recipe ∧ (enterDone s).fault = s.fault :=
  by unfold enterDone; (try dsimp only); (repeat' split) <;> simp

@[simp] theorem sampleInForm_keeps (force depth : Nat) (s : State) :
    (sampleInForm force depth s).pending = s.pending ∧ (sampleInForm force depth s).clock = s.clock ∧
    (sampleInForm force depth s).freeCount = s.freeCount ∧ (sampleInForm force depth s).gasFb = s.gasFb ∧
    (sampleInForm force depth s).cycle = s.cycle ∧ (sampleInForm force depth s).sensor = s.sensor ∧
    (sampleInForm force depth s).dose = s.dose ∧ (sampleInForm force depth s).gas = s.gas ∧
    (sampleInForm force depth s).line = s.line ∧ (sampleInForm force depth s).draw = s.draw ∧
    (sampleInForm force depth s).hold = s.hold ∧ (sampleInForm force depth s).result = s.result ∧
    (sampleInForm force depth s).recipe = s.recipe ∧ (sampleInForm force depth s).fault = s.fault :=
  by unfold sampleInForm; (try dsimp only); (repeat' split) <;> simp

@[simp] theorem takeCrimpSample_keeps (force depth : Nat) (s : State) :
    (takeCrimpSample force depth s).pending = s.pending ∧ (takeCrimpSample force depth s).clock = s.clock ∧
    (takeCrimpSample force depth s).freeCount = s.freeCount ∧
    (takeCrimpSample force depth s).gasFb = s.gasFb ∧
    (takeCrimpSample force depth s).cycle.station = s.cycle.station ∧
    (takeCrimpSample force depth s).cycle.counter = s.cycle.counter ∧
    (takeCrimpSample force depth s).cycle.stopPending = s.cycle.stopPending ∧
    (takeCrimpSample force depth s).cycle.grant = s.cycle.grant ∧
    (takeCrimpSample force depth s).cycle.startRefusal = s.cycle.startRefusal ∧
    (takeCrimpSample force depth s).sensor = s.sensor ∧
    (takeCrimpSample force depth s).dose.planned = s.dose.planned ∧
    (takeCrimpSample force depth s).dose.elapsed = s.dose.elapsed ∧
    (takeCrimpSample force depth s).dose.massAtStart = s.dose.massAtStart ∧
    (takeCrimpSample force depth s).gas.stuckEpisode = s.gas.stuckEpisode ∧
    (takeCrimpSample force depth s).line.station = s.line.station ∧
    (takeCrimpSample force depth s).line.condition = s.line.condition ∧
    (takeCrimpSample force depth s).line.faultSlot = s.line.faultSlot ∧
    (takeCrimpSample force depth s).line.holdSlot = s.line.holdSlot ∧
    (takeCrimpSample force depth s).line.resultSlot = s.line.resultSlot ∧
    (takeCrimpSample force depth s).line.attempt = s.line.attempt ∧
    (takeCrimpSample force depth s).line.abort = s.line.abort ∧
    (takeCrimpSample force depth s).line.badCount = s.line.badCount ∧
    (takeCrimpSample force depth s).draw.keyed = s.draw.keyed ∧
    (takeCrimpSample force depth s).draw.phantoms = s.draw.phantoms ∧
    (takeCrimpSample force depth s).hold = s.hold ∧ (takeCrimpSample force depth s).result = s.result ∧
    (takeCrimpSample force depth s).recipe = s.recipe ∧ (takeCrimpSample force depth s).fault = s.fault :=
  by unfold takeCrimpSample; (try dsimp only); (repeat' split) <;> simp

@[simp] theorem jamCrimp_keeps (s : State) :
    (jamCrimp s).pending = s.pending ∧ (jamCrimp s).clock = s.clock ∧
    (jamCrimp s).freeCount = s.freeCount ∧ (jamCrimp s).gasFb = s.gasFb ∧
    (jamCrimp s).cycle.counter = s.cycle.counter ∧ (jamCrimp s).cycle.startRefusal = s.cycle.startRefusal ∧
    (jamCrimp s).sensor.header = s.sensor.header ∧ (jamCrimp s).sensor.bell = s.sensor.bell ∧
    (jamCrimp s).sensor.transaction = s.sensor.transaction ∧
    (jamCrimp s).sensor.lastPair = s.sensor.lastPair ∧
    (jamCrimp s).sensor.zeroOffset = s.sensor.zeroOffset ∧ (jamCrimp s).sensor.sample = s.sensor.sample ∧
    (jamCrimp s).dose.planned = s.dose.planned ∧ (jamCrimp s).dose.elapsed = s.dose.elapsed ∧
    (jamCrimp s).dose.massAtStart = s.dose.massAtStart ∧
    (jamCrimp s).gas.stuckEpisode = s.gas.stuckEpisode ∧ (jamCrimp s).line.station = s.line.station ∧
    (jamCrimp s).line.condition = s.line.condition ∧ (jamCrimp s).line.attempt = s.line.attempt ∧
    (jamCrimp s).line.abort = s.line.abort ∧ (jamCrimp s).line.badCount = s.line.badCount ∧
    (jamCrimp s).recipe = s.recipe ∧ (jamCrimp s).fault.enables = s.fault.enables :=
  by simp [jamCrimp]

@[simp] theorem openContext_keeps (canPresent : Bool) (reasons : List Reason) (s : State) :
    (openContext canPresent reasons s).pending = s.pending ∧
    (openContext canPresent reasons s).clock = s.clock ∧
    (openContext canPresent reasons s).freeCount = s.freeCount ∧
    (openContext canPresent reasons s).gasFb = s.gasFb ∧
    (openContext canPresent reasons s).cycle.station = s.cycle.station ∧
    (openContext canPresent reasons s).cycle.phase = s.cycle.phase ∧
    (openContext canPresent reasons s).cycle.stopPending = s.cycle.stopPending ∧
    (openContext canPresent reasons s).cycle.grant = s.cycle.grant ∧
    (openContext canPresent reasons s).cycle.startRefusal = s.cycle.startRefusal ∧
    (openContext canPresent reasons s).crimp = s.crimp ∧
    (openContext canPresent reasons s).sensor = s.sensor ∧
    (openContext canPresent reasons s).dose = s.dose ∧ (openContext canPresent reasons s).gas = s.gas ∧
    (openContext canPresent reasons s).line = s.line ∧ (openContext canPresent reasons s).draw = s.draw ∧
    (openContext canPresent reasons s).hold = s.hold ∧
    (openContext canPresent reasons s).result = s.result ∧
    (openContext canPresent reasons s).recipe = s.recipe ∧
    (openContext canPresent reasons s).fault = s.fault :=
  by simp [openContext]

@[simp] theorem measurePeriod_keeps (s : State) :
    (measurePeriod s).pending = s.pending ∧ (measurePeriod s).clock = s.clock ∧
    (measurePeriod s).freeCount = s.freeCount ∧ (measurePeriod s).gasFb = s.gasFb ∧
    (measurePeriod s).context = s.context ∧ (measurePeriod s).cycle.station = s.cycle.station ∧
    (measurePeriod s).cycle.phase = s.cycle.phase ∧ (measurePeriod s).cycle.counter = s.cycle.counter ∧
    (measurePeriod s).cycle.stopPending = s.cycle.stopPending ∧
    (measurePeriod s).cycle.grant = s.cycle.grant ∧
    (measurePeriod s).cycle.startRefusal = s.cycle.startRefusal ∧ (measurePeriod s).crimp = s.crimp ∧
    (measurePeriod s).sensor = s.sensor ∧ (measurePeriod s).dose = s.dose ∧ (measurePeriod s).gas = s.gas ∧
    (measurePeriod s).line = s.line ∧ (measurePeriod s).draw = s.draw ∧ (measurePeriod s).hold = s.hold ∧
    (measurePeriod s).result = s.result ∧ (measurePeriod s).recipe = s.recipe ∧
    (measurePeriod s).fault = s.fault :=
  by simp [measurePeriod]

@[simp] theorem passPocket_keeps (canPresent : Bool) (r : Reason) (s : State) :
    (passPocket canPresent r s).pending = s.pending ∧ (passPocket canPresent r s).clock = s.clock ∧
    (passPocket canPresent r s).freeCount = s.freeCount ∧ (passPocket canPresent r s).gasFb = s.gasFb ∧
    (passPocket canPresent r s).cycle.station = s.cycle.station ∧
    (passPocket canPresent r s).cycle.stopPending = s.cycle.stopPending ∧
    (passPocket canPresent r s).cycle.grant = s.cycle.grant ∧
    (passPocket canPresent r s).cycle.startRefusal = s.cycle.startRefusal ∧
    (passPocket canPresent r s).crimp = s.crimp ∧
    (passPocket canPresent r s).sensor.header = s.sensor.header ∧
    (passPocket canPresent r s).sensor.bell = s.sensor.bell ∧
    (passPocket canPresent r s).sensor.transaction = s.sensor.transaction ∧
    (passPocket canPresent r s).sensor.lastPair = s.sensor.lastPair ∧
    (passPocket canPresent r s).sensor.zeroOffset = s.sensor.zeroOffset ∧
    (passPocket canPresent r s).sensor.zeroing = s.sensor.zeroing ∧
    (passPocket canPresent r s).sensor.zeroSamples = s.sensor.zeroSamples ∧
    (passPocket canPresent r s).sensor.sample = s.sensor.sample ∧
    (passPocket canPresent r s).dose = s.dose ∧ (passPocket canPresent r s).gas = s.gas ∧
    (passPocket canPresent r s).line.station = s.line.station ∧
    (passPocket canPresent r s).line.condition = s.line.condition ∧
    (passPocket canPresent r s).line.faultSlot = s.line.faultSlot ∧
    (passPocket canPresent r s).line.holdSlot = s.line.holdSlot ∧
    (passPocket canPresent r s).line.shutSlot = s.line.shutSlot ∧
    (passPocket canPresent r s).line.openSlot = s.line.openSlot ∧
    (passPocket canPresent r s).line.attempt = s.line.attempt ∧
    (passPocket canPresent r s).line.abort = s.line.abort ∧
    (passPocket canPresent r s).line.badCount = s.line.badCount ∧
    (passPocket canPresent r s).draw = s.draw ∧ (passPocket canPresent r s).hold = s.hold ∧
    (passPocket canPresent r s).recipe = s.recipe ∧
    (passPocket canPresent r s).fault.enables = s.fault.enables :=
  by simp [passPocket]

@[simp] theorem decidePocket_keeps (canPresent : Bool) (s : State) :
    (decidePocket canPresent s).pending = s.pending ∧ (decidePocket canPresent s).clock = s.clock ∧
    (decidePocket canPresent s).freeCount = s.freeCount ∧ (decidePocket canPresent s).gasFb = s.gasFb ∧
    (decidePocket canPresent s).cycle.station = s.cycle.station ∧
    (decidePocket canPresent s).cycle.stopPending = s.cycle.stopPending ∧
    (decidePocket canPresent s).cycle.startRefusal = s.cycle.startRefusal ∧
    (decidePocket canPresent s).sensor.header = s.sensor.header ∧
    (decidePocket canPresent s).sensor.bell = s.sensor.bell ∧
    (decidePocket canPresent s).sensor.transaction = s.sensor.transaction ∧
    (decidePocket canPresent s).sensor.lastPair = s.sensor.lastPair ∧
    (decidePocket canPresent s).sensor.zeroOffset = s.sensor.zeroOffset ∧
    (decidePocket canPresent s).sensor.sample = s.sensor.sample ∧
    (decidePocket canPresent s).dose = s.dose ∧ (decidePocket canPresent s).gas = s.gas ∧
    (decidePocket canPresent s).line.station = s.line.station ∧
    (decidePocket canPresent s).line.condition = s.line.condition ∧
    (decidePocket canPresent s).line.faultSlot = s.line.faultSlot ∧
    (decidePocket canPresent s).line.holdSlot = s.line.holdSlot ∧
    (decidePocket canPresent s).line.shutSlot = s.line.shutSlot ∧
    (decidePocket canPresent s).line.openSlot = s.line.openSlot ∧
    (decidePocket canPresent s).line.attempt = s.line.attempt ∧
    (decidePocket canPresent s).line.abort = s.line.abort ∧
    (decidePocket canPresent s).line.badCount = s.line.badCount ∧
    (decidePocket canPresent s).draw = s.draw ∧ (decidePocket canPresent s).hold = s.hold ∧
    (decidePocket canPresent s).recipe = s.recipe ∧
    (decidePocket canPresent s).fault.enables = s.fault.enables :=
  by unfold decidePocket; (try dsimp only); (repeat' split) <;> simp

@[simp] theorem startCycle_keeps (canPresent : Bool) (s : State) :
    (startCycle canPresent s).pending = s.pending ∧ (startCycle canPresent s).clock = s.clock ∧
    (startCycle canPresent s).freeCount = s.freeCount ∧ (startCycle canPresent s).gasFb = s.gasFb ∧
    (startCycle canPresent s).cycle.station = s.cycle.station ∧
    (startCycle canPresent s).cycle.stopPending = s.cycle.stopPending ∧
    (startCycle canPresent s).cycle.startRefusal = s.cycle.startRefusal ∧
    (startCycle canPresent s).sensor.header = s.sensor.header ∧
    (startCycle canPresent s).sensor.bell = s.sensor.bell ∧
    (startCycle canPresent s).sensor.transaction = s.sensor.transaction ∧
    (startCycle canPresent s).sensor.lastPair = s.sensor.lastPair ∧
    (startCycle canPresent s).sensor.zeroOffset = s.sensor.zeroOffset ∧
    (startCycle canPresent s).sensor.sample = s.sensor.sample ∧ (startCycle canPresent s).dose = s.dose ∧
    (startCycle canPresent s).gas = s.gas ∧ (startCycle canPresent s).line.station = s.line.station ∧
    (startCycle canPresent s).line.condition = s.line.condition ∧
    (startCycle canPresent s).line.faultSlot = s.line.faultSlot ∧
    (startCycle canPresent s).line.holdSlot = s.line.holdSlot ∧
    (startCycle canPresent s).line.shutSlot = s.line.shutSlot ∧
    (startCycle canPresent s).line.openSlot = s.line.openSlot ∧
    (startCycle canPresent s).line.attempt = s.line.attempt ∧
    (startCycle canPresent s).line.abort = s.line.abort ∧
    (startCycle canPresent s).line.badCount = s.line.badCount ∧ (startCycle canPresent s).draw = s.draw ∧
    (startCycle canPresent s).hold = s.hold ∧ (startCycle canPresent s).recipe = s.recipe ∧
    (startCycle canPresent s).fault.enables = s.fault.enables :=
  by simp [startCycle]

@[simp] theorem recordStopped_keeps (canPresent : Bool) (r : Reason) (s : State) :
    (recordStopped canPresent r s).pending = s.pending ∧ (recordStopped canPresent r s).clock = s.clock ∧
    (recordStopped canPresent r s).freeCount = s.freeCount ∧
    (recordStopped canPresent r s).gasFb = s.gasFb ∧
    (recordStopped canPresent r s).cycle.station = s.cycle.station ∧
    (recordStopped canPresent r s).cycle.phase = s.cycle.phase ∧
    (recordStopped canPresent r s).cycle.stopPending = s.cycle.stopPending ∧
    (recordStopped canPresent r s).cycle.grant = s.cycle.grant ∧
    (recordStopped canPresent r s).cycle.startRefusal = s.cycle.startRefusal ∧
    (recordStopped canPresent r s).crimp = s.crimp ∧
    (recordStopped canPresent r s).sensor.header = s.sensor.header ∧
    (recordStopped canPresent r s).sensor.bell = s.sensor.bell ∧
    (recordStopped canPresent r s).sensor.transaction = s.sensor.transaction ∧
    (recordStopped canPresent r s).sensor.lastPair = s.sensor.lastPair ∧
    (recordStopped canPresent r s).sensor.zeroOffset = s.sensor.zeroOffset ∧
    (recordStopped canPresent r s).sensor.zeroing = s.sensor.zeroing ∧
    (recordStopped canPresent r s).sensor.zeroSamples = s.sensor.zeroSamples ∧
    (recordStopped canPresent r s).sensor.sample = s.sensor.sample ∧
    (recordStopped canPresent r s).dose = s.dose ∧ (recordStopped canPresent r s).gas = s.gas ∧
    (recordStopped canPresent r s).line.station = s.line.station ∧
    (recordStopped canPresent r s).line.condition = s.line.condition ∧
    (recordStopped canPresent r s).line.faultSlot = s.line.faultSlot ∧
    (recordStopped canPresent r s).line.holdSlot = s.line.holdSlot ∧
    (recordStopped canPresent r s).line.shutSlot = s.line.shutSlot ∧
    (recordStopped canPresent r s).line.openSlot = s.line.openSlot ∧
    (recordStopped canPresent r s).line.attempt = s.line.attempt ∧
    (recordStopped canPresent r s).line.abort = s.line.abort ∧
    (recordStopped canPresent r s).line.badCount = s.line.badCount ∧
    (recordStopped canPresent r s).draw = s.draw ∧ (recordStopped canPresent r s).hold = s.hold ∧
    (recordStopped canPresent r s).recipe = s.recipe ∧
    (recordStopped canPresent r s).fault.enables = s.fault.enables :=
  by simp [recordStopped]

@[simp] theorem closeOutOfOrder_keeps (s : State) :
    (closeOutOfOrder s).pending = s.pending ∧ (closeOutOfOrder s).clock = s.clock ∧
    (closeOutOfOrder s).freeCount = s.freeCount ∧ (closeOutOfOrder s).gasFb = s.gasFb ∧
    (closeOutOfOrder s).cycle.station = s.cycle.station ∧
    (closeOutOfOrder s).cycle.counter = s.cycle.counter ∧
    (closeOutOfOrder s).cycle.stopPending = s.cycle.stopPending ∧
    (closeOutOfOrder s).cycle.grant = s.cycle.grant ∧
    (closeOutOfOrder s).cycle.startRefusal = s.cycle.startRefusal ∧
    (closeOutOfOrder s).sensor.header = s.sensor.header ∧ (closeOutOfOrder s).sensor.bell = s.sensor.bell ∧
    (closeOutOfOrder s).sensor.transaction = s.sensor.transaction ∧
    (closeOutOfOrder s).sensor.lastPair = s.sensor.lastPair ∧
    (closeOutOfOrder s).sensor.zeroOffset = s.sensor.zeroOffset ∧
    (closeOutOfOrder s).sensor.zeroing = s.sensor.zeroing ∧
    (closeOutOfOrder s).sensor.zeroSamples = s.sensor.zeroSamples ∧
    (closeOutOfOrder s).sensor.sample = s.sensor.sample ∧
    (closeOutOfOrder s).dose.planned = s.dose.planned ∧ (closeOutOfOrder s).dose.elapsed = s.dose.elapsed ∧
    (closeOutOfOrder s).dose.massAtStart = s.dose.massAtStart ∧
    (closeOutOfOrder s).gas.stuckEpisode = s.gas.stuckEpisode ∧
    (closeOutOfOrder s).line.station = s.line.station ∧
    (closeOutOfOrder s).line.condition = s.line.condition ∧
    (closeOutOfOrder s).line.faultSlot = s.line.faultSlot ∧
    (closeOutOfOrder s).line.holdSlot = s.line.holdSlot ∧
    (closeOutOfOrder s).line.attempt = s.line.attempt ∧ (closeOutOfOrder s).line.abort = s.line.abort ∧
    (closeOutOfOrder s).line.badCount = s.line.badCount ∧ (closeOutOfOrder s).draw.keyed = s.draw.keyed ∧
    (closeOutOfOrder s).draw.phantoms = s.draw.phantoms ∧ (closeOutOfOrder s).hold = s.hold ∧
    (closeOutOfOrder s).recipe = s.recipe ∧ (closeOutOfOrder s).fault.enables = s.fault.enables :=
  by unfold closeOutOfOrder; (try dsimp only); (repeat' split) <;> simp

@[simp] theorem completeStop_keeps (s : State) :
    (completeStop s).pending = s.pending ∧ (completeStop s).clock = s.clock ∧
    (completeStop s).freeCount = s.freeCount ∧ (completeStop s).gasFb = s.gasFb ∧
    (completeStop s).cycle.phase = s.cycle.phase ∧ (completeStop s).cycle.counter = s.cycle.counter ∧
    (completeStop s).cycle.grant = s.cycle.grant ∧
    (completeStop s).cycle.startRefusal = s.cycle.startRefusal ∧ (completeStop s).crimp = s.crimp ∧
    (completeStop s).sensor.header = s.sensor.header ∧ (completeStop s).sensor.bell = s.sensor.bell ∧
    (completeStop s).sensor.transaction = s.sensor.transaction ∧
    (completeStop s).sensor.lastPair = s.sensor.lastPair ∧
    (completeStop s).sensor.zeroOffset = s.sensor.zeroOffset ∧
    (completeStop s).sensor.zeroing = s.sensor.zeroing ∧
    (completeStop s).sensor.zeroSamples = s.sensor.zeroSamples ∧
    (completeStop s).sensor.zeroDebt = s.sensor.zeroDebt ∧
    (completeStop s).sensor.sample = s.sensor.sample ∧ (completeStop s).dose.running = s.dose.running ∧
    (completeStop s).dose.planned = s.dose.planned ∧ (completeStop s).dose.elapsed = s.dose.elapsed ∧
    (completeStop s).dose.massAtStart = s.dose.massAtStart ∧ (completeStop s).gas = s.gas ∧
    (completeStop s).line.station = s.line.station ∧ (completeStop s).line.condition = s.line.condition ∧
    (completeStop s).line.faultSlot = s.line.faultSlot ∧ (completeStop s).line.shutSlot = s.line.shutSlot ∧
    (completeStop s).line.resultSlot = s.line.resultSlot ∧ (completeStop s).line.attempt = s.line.attempt ∧
    (completeStop s).line.abort = s.line.abort ∧ (completeStop s).line.badCount = s.line.badCount ∧
    (completeStop s).result = s.result ∧ (completeStop s).recipe = s.recipe ∧
    (completeStop s).fault = s.fault :=
  by unfold completeStop; (try dsimp only); (repeat' split) <;> simp

@[simp] theorem handleAgain_keeps (canPresent : Bool) (s : State) :
    (handleAgain canPresent s).pending = s.pending ∧ (handleAgain canPresent s).clock = s.clock ∧
    (handleAgain canPresent s).freeCount = s.freeCount ∧ (handleAgain canPresent s).gasFb = s.gasFb ∧
    (handleAgain canPresent s).cycle.station = s.cycle.station ∧
    (handleAgain canPresent s).cycle.stopPending = s.cycle.stopPending ∧
    (handleAgain canPresent s).cycle.startRefusal = s.cycle.startRefusal ∧
    (handleAgain canPresent s).sensor.header = s.sensor.header ∧
    (handleAgain canPresent s).sensor.bell = s.sensor.bell ∧
    (handleAgain canPresent s).sensor.transaction = s.sensor.transaction ∧
    (handleAgain canPresent s).sensor.lastPair = s.sensor.lastPair ∧
    (handleAgain canPresent s).sensor.zeroOffset = s.sensor.zeroOffset ∧
    (handleAgain canPresent s).sensor.sample = s.sensor.sample ∧ (handleAgain canPresent s).dose = s.dose ∧
    (handleAgain canPresent s).gas = s.gas ∧ (handleAgain canPresent s).line.station = s.line.station ∧
    (handleAgain canPresent s).line.condition = s.line.condition ∧
    (handleAgain canPresent s).line.faultSlot = s.line.faultSlot ∧
    (handleAgain canPresent s).line.holdSlot = s.line.holdSlot ∧
    (handleAgain canPresent s).line.shutSlot = s.line.shutSlot ∧
    (handleAgain canPresent s).line.openSlot = s.line.openSlot ∧
    (handleAgain canPresent s).line.attempt = s.line.attempt ∧
    (handleAgain canPresent s).line.abort = s.line.abort ∧
    (handleAgain canPresent s).line.badCount = s.line.badCount ∧ (handleAgain canPresent s).draw = s.draw ∧
    (handleAgain canPresent s).hold = s.hold ∧ (handleAgain canPresent s).recipe = s.recipe ∧
    (handleAgain canPresent s).fault.enables = s.fault.enables :=
  by unfold handleAgain; (try dsimp only); (repeat' split) <;> simp

@[simp] theorem infeedOutOfOrder_keeps (canPresent : Bool) (s : State) :
    (infeedOutOfOrder canPresent s).pending = s.pending ∧ (infeedOutOfOrder canPresent s).clock = s.clock ∧
    (infeedOutOfOrder canPresent s).freeCount = s.freeCount ∧
    (infeedOutOfOrder canPresent s).gasFb = s.gasFb ∧
    (infeedOutOfOrder canPresent s).cycle.startRefusal = s.cycle.startRefusal ∧
    (infeedOutOfOrder canPresent s).sensor.header = s.sensor.header ∧
    (infeedOutOfOrder canPresent s).sensor.bell = s.sensor.bell ∧
    (infeedOutOfOrder canPresent s).sensor.transaction = s.sensor.transaction ∧
    (infeedOutOfOrder canPresent s).sensor.lastPair = s.sensor.lastPair ∧
    (infeedOutOfOrder canPresent s).sensor.zeroOffset = s.sensor.zeroOffset ∧
    (infeedOutOfOrder canPresent s).sensor.sample = s.sensor.sample ∧
    (infeedOutOfOrder canPresent s).dose.planned = s.dose.planned ∧
    (infeedOutOfOrder canPresent s).dose.elapsed = s.dose.elapsed ∧
    (infeedOutOfOrder canPresent s).dose.massAtStart = s.dose.massAtStart ∧
    (infeedOutOfOrder canPresent s).gas.stuckEpisode = s.gas.stuckEpisode ∧
    (infeedOutOfOrder canPresent s).line.station = s.line.station ∧
    (infeedOutOfOrder canPresent s).line.condition = s.line.condition ∧
    (infeedOutOfOrder canPresent s).line.faultSlot = s.line.faultSlot ∧
    (infeedOutOfOrder canPresent s).line.attempt = s.line.attempt ∧
    (infeedOutOfOrder canPresent s).line.abort = s.line.abort ∧
    (infeedOutOfOrder canPresent s).line.badCount = s.line.badCount ∧
    (infeedOutOfOrder canPresent s).recipe = s.recipe ∧
    (infeedOutOfOrder canPresent s).fault.enables = s.fault.enables :=
  by simp [infeedOutOfOrder]

@[simp] theorem wake_keeps (canPresent : Bool) (s : State) :
    (wake canPresent s).pending = s.pending ∧ (wake canPresent s).clock = s.clock ∧
    (wake canPresent s).freeCount = s.freeCount ∧ (wake canPresent s).gasFb = s.gasFb ∧
    (wake canPresent s).cycle.stopPending = s.cycle.stopPending ∧
    (wake canPresent s).cycle.startRefusal = s.cycle.startRefusal ∧
    (wake canPresent s).sensor.header = s.sensor.header ∧ (wake canPresent s).sensor.bell = s.sensor.bell ∧
    (wake canPresent s).sensor.transaction = s.sensor.transaction ∧
    (wake canPresent s).sensor.lastPair = s.sensor.lastPair ∧
    (wake canPresent s).sensor.zeroOffset = s.sensor.zeroOffset ∧
    (wake canPresent s).sensor.sample = s.sensor.sample ∧
    (wake canPresent s).dose.running = s.dose.running ∧ (wake canPresent s).dose.planned = s.dose.planned ∧
    (wake canPresent s).dose.elapsed = s.dose.elapsed ∧
    (wake canPresent s).dose.massAtStart = s.dose.massAtStart ∧ (wake canPresent s).gas = s.gas ∧
    (wake canPresent s).line.station = s.line.station ∧
    (wake canPresent s).line.condition = s.line.condition ∧
    (wake canPresent s).line.faultSlot = s.line.faultSlot ∧
    (wake canPresent s).line.shutSlot = s.line.shutSlot ∧
    (wake canPresent s).line.attempt = s.line.attempt ∧ (wake canPresent s).line.abort = s.line.abort ∧
    (wake canPresent s).line.badCount = s.line.badCount ∧ (wake canPresent s).recipe = s.recipe ∧
    (wake canPresent s).fault.enables = s.fault.enables :=
  by simp [wake]

@[simp] theorem takeGasOpen_keeps (s : State) :
    (takeGasOpen s).pending = s.pending ∧ (takeGasOpen s).clock = s.clock ∧
    (takeGasOpen s).freeCount = s.freeCount ∧ (takeGasOpen s).gasFb = s.gasFb ∧
    (takeGasOpen s).cycle.station = s.cycle.station ∧ (takeGasOpen s).cycle.counter = s.cycle.counter ∧
    (takeGasOpen s).cycle.stopPending = s.cycle.stopPending ∧ (takeGasOpen s).cycle.grant = s.cycle.grant ∧
    (takeGasOpen s).cycle.startRefusal = s.cycle.startRefusal ∧ (takeGasOpen s).crimp = s.crimp ∧
    (takeGasOpen s).sensor = s.sensor ∧ (takeGasOpen s).dose.planned = s.dose.planned ∧
    (takeGasOpen s).dose.elapsed = s.dose.elapsed ∧ (takeGasOpen s).dose.massAtStart = s.dose.massAtStart ∧
    (takeGasOpen s).gas.stuckEpisode = s.gas.stuckEpisode ∧ (takeGasOpen s).line.station = s.line.station ∧
    (takeGasOpen s).line.condition = s.line.condition ∧ (takeGasOpen s).line.faultSlot = s.line.faultSlot ∧
    (takeGasOpen s).line.holdSlot = s.line.holdSlot ∧ (takeGasOpen s).line.resultSlot = s.line.resultSlot ∧
    (takeGasOpen s).line.attempt = s.line.attempt ∧ (takeGasOpen s).line.abort = s.line.abort ∧
    (takeGasOpen s).line.badCount = s.line.badCount ∧ (takeGasOpen s).draw.keyed = s.draw.keyed ∧
    (takeGasOpen s).draw.phantoms = s.draw.phantoms ∧ (takeGasOpen s).hold = s.hold ∧
    (takeGasOpen s).result = s.result ∧ (takeGasOpen s).recipe = s.recipe ∧
    (takeGasOpen s).fault = s.fault :=
  by unfold takeGasOpen; (try dsimp only); (repeat' split) <;> simp

@[simp] theorem setPhase_keeps (p : Phase) (s : State) :
    (setPhase p s).pending = s.pending ∧ (setPhase p s).clock = s.clock ∧
    (setPhase p s).freeCount = s.freeCount ∧ (setPhase p s).gasFb = s.gasFb ∧
    (setPhase p s).context = s.context ∧ (setPhase p s).cycle.station = s.cycle.station ∧
    (setPhase p s).cycle.counter = s.cycle.counter ∧
    (setPhase p s).cycle.stopPending = s.cycle.stopPending ∧ (setPhase p s).cycle.grant = s.cycle.grant ∧
    (setPhase p s).cycle.startRefusal = s.cycle.startRefusal ∧ (setPhase p s).crimp = s.crimp ∧
    (setPhase p s).sensor = s.sensor ∧ (setPhase p s).dose = s.dose ∧ (setPhase p s).gas = s.gas ∧
    (setPhase p s).line = s.line ∧ (setPhase p s).draw = s.draw ∧ (setPhase p s).hold = s.hold ∧
    (setPhase p s).result = s.result ∧ (setPhase p s).recipe = s.recipe ∧ (setPhase p s).fault = s.fault :=
  by simp [setPhase]

@[simp] theorem takeGasClose_keeps (s : State) :
    (takeGasClose s).pending = s.pending ∧ (takeGasClose s).clock = s.clock ∧
    (takeGasClose s).freeCount = s.freeCount ∧ (takeGasClose s).gasFb = s.gasFb ∧
    (takeGasClose s).cycle.station = s.cycle.station ∧ (takeGasClose s).cycle.counter = s.cycle.counter ∧
    (takeGasClose s).cycle.stopPending = s.cycle.stopPending ∧
    (takeGasClose s).cycle.grant = s.cycle.grant ∧
    (takeGasClose s).cycle.startRefusal = s.cycle.startRefusal ∧ (takeGasClose s).crimp = s.crimp ∧
    (takeGasClose s).sensor = s.sensor ∧ (takeGasClose s).dose.planned = s.dose.planned ∧
    (takeGasClose s).dose.elapsed = s.dose.elapsed ∧
    (takeGasClose s).dose.massAtStart = s.dose.massAtStart ∧
    (takeGasClose s).gas.stuckEpisode = s.gas.stuckEpisode ∧
    (takeGasClose s).line.station = s.line.station ∧ (takeGasClose s).line.condition = s.line.condition ∧
    (takeGasClose s).line.faultSlot = s.line.faultSlot ∧ (takeGasClose s).line.holdSlot = s.line.holdSlot ∧
    (takeGasClose s).line.resultSlot = s.line.resultSlot ∧ (takeGasClose s).line.attempt = s.line.attempt ∧
    (takeGasClose s).line.abort = s.line.abort ∧ (takeGasClose s).line.badCount = s.line.badCount ∧
    (takeGasClose s).draw.keyed = s.draw.keyed ∧ (takeGasClose s).draw.phantoms = s.draw.phantoms ∧
    (takeGasClose s).hold = s.hold ∧ (takeGasClose s).result = s.result ∧
    (takeGasClose s).recipe = s.recipe ∧ (takeGasClose s).fault = s.fault :=
  by unfold takeGasClose; (try dsimp only); (repeat' split) <;> simp

@[simp] theorem returnCrimp_keeps (s : State) :
    (returnCrimp s).pending = s.pending ∧ (returnCrimp s).clock = s.clock ∧
    (returnCrimp s).freeCount = s.freeCount ∧ (returnCrimp s).gasFb = s.gasFb ∧
    (returnCrimp s).context = s.context ∧ (returnCrimp s).cycle = s.cycle ∧
    (returnCrimp s).sensor = s.sensor ∧ (returnCrimp s).dose = s.dose ∧ (returnCrimp s).gas = s.gas ∧
    (returnCrimp s).line = s.line ∧ (returnCrimp s).draw = s.draw ∧ (returnCrimp s).hold = s.hold ∧
    (returnCrimp s).result = s.result ∧ (returnCrimp s).recipe = s.recipe ∧
    (returnCrimp s).fault = s.fault :=
  by simp [returnCrimp]

@[simp] theorem beginZeroTest_keeps (s : State) :
    (beginZeroTest s).pending = s.pending ∧ (beginZeroTest s).clock = s.clock ∧
    (beginZeroTest s).freeCount = s.freeCount ∧ (beginZeroTest s).gasFb = s.gasFb ∧
    (beginZeroTest s).context = s.context ∧ (beginZeroTest s).cycle.station = s.cycle.station ∧
    (beginZeroTest s).cycle.phase = s.cycle.phase ∧ (beginZeroTest s).cycle.counter = s.cycle.counter ∧
    (beginZeroTest s).cycle.stopPending = s.cycle.stopPending ∧
    (beginZeroTest s).cycle.grant = s.cycle.grant ∧
    (beginZeroTest s).cycle.startRefusal = s.cycle.startRefusal ∧ (beginZeroTest s).crimp = s.crimp ∧
    (beginZeroTest s).sensor = s.sensor ∧ (beginZeroTest s).dose = s.dose ∧ (beginZeroTest s).gas = s.gas ∧
    (beginZeroTest s).line = s.line ∧ (beginZeroTest s).draw = s.draw ∧ (beginZeroTest s).hold = s.hold ∧
    (beginZeroTest s).result = s.result ∧ (beginZeroTest s).recipe = s.recipe ∧
    (beginZeroTest s).fault = s.fault :=
  by unfold beginZeroTest; (try dsimp only); (repeat' split) <;> simp

@[simp] theorem discharge_keeps (s : State) :
    (discharge s).pending = s.pending ∧ (discharge s).clock = s.clock ∧
    (discharge s).freeCount = s.freeCount ∧ (discharge s).gasFb = s.gasFb ∧
    (discharge s).cycle.counter = s.cycle.counter ∧ (discharge s).cycle.grant = s.cycle.grant ∧
    (discharge s).cycle.startRefusal = s.cycle.startRefusal ∧
    (discharge s).sensor.header = s.sensor.header ∧ (discharge s).sensor.bell = s.sensor.bell ∧
    (discharge s).sensor.transaction = s.sensor.transaction ∧
    (discharge s).sensor.lastPair = s.sensor.lastPair ∧
    (discharge s).sensor.zeroOffset = s.sensor.zeroOffset ∧
    (discharge s).sensor.zeroing = s.sensor.zeroing ∧
    (discharge s).sensor.zeroSamples = s.sensor.zeroSamples ∧
    (discharge s).sensor.sample = s.sensor.sample ∧ (discharge s).dose.running = s.dose.running ∧
    (discharge s).dose.planned = s.dose.planned ∧ (discharge s).dose.elapsed = s.dose.elapsed ∧
    (discharge s).dose.massAtStart = s.dose.massAtStart ∧
    (discharge s).gas.closeWindow = s.gas.closeWindow ∧
    (discharge s).gas.stuckEpisode = s.gas.stuckEpisode ∧ (discharge s).line.station = s.line.station ∧
    (discharge s).line.condition = s.line.condition ∧ (discharge s).line.faultSlot = s.line.faultSlot ∧
    (discharge s).line.shutSlot = s.line.shutSlot ∧ (discharge s).line.attempt = s.line.attempt ∧
    (discharge s).line.abort = s.line.abort ∧ (discharge s).line.badCount = s.line.badCount ∧
    (discharge s).recipe = s.recipe ∧ (discharge s).fault.enables = s.fault.enables :=
  by unfold discharge; (try dsimp only); (repeat' split) <;> simp

@[simp] theorem dischargeEarly_keeps (s : State) :
    (dischargeEarly s).pending = s.pending ∧ (dischargeEarly s).clock = s.clock ∧
    (dischargeEarly s).freeCount = s.freeCount ∧ (dischargeEarly s).gasFb = s.gasFb ∧
    (dischargeEarly s).cycle.counter = s.cycle.counter ∧ (dischargeEarly s).cycle.grant = s.cycle.grant ∧
    (dischargeEarly s).cycle.startRefusal = s.cycle.startRefusal ∧
    (dischargeEarly s).sensor.header = s.sensor.header ∧ (dischargeEarly s).sensor.bell = s.sensor.bell ∧
    (dischargeEarly s).sensor.transaction = s.sensor.transaction ∧
    (dischargeEarly s).sensor.lastPair = s.sensor.lastPair ∧
    (dischargeEarly s).sensor.zeroOffset = s.sensor.zeroOffset ∧
    (dischargeEarly s).sensor.zeroing = s.sensor.zeroing ∧
    (dischargeEarly s).sensor.zeroSamples = s.sensor.zeroSamples ∧
    (dischargeEarly s).sensor.sample = s.sensor.sample ∧ (dischargeEarly s).dose.planned = s.dose.planned ∧
    (dischargeEarly s).dose.elapsed = s.dose.elapsed ∧
    (dischargeEarly s).dose.massAtStart = s.dose.massAtStart ∧
    (dischargeEarly s).gas.stuckEpisode = s.gas.stuckEpisode ∧
    (dischargeEarly s).line.station = s.line.station ∧
    (dischargeEarly s).line.condition = s.line.condition ∧
    (dischargeEarly s).line.faultSlot = s.line.faultSlot ∧
    (dischargeEarly s).line.attempt = s.line.attempt ∧ (dischargeEarly s).line.abort = s.line.abort ∧
    (dischargeEarly s).line.badCount = s.line.badCount ∧ (dischargeEarly s).recipe = s.recipe ∧
    (dischargeEarly s).fault.enables = s.fault.enables :=
  by unfold dischargeEarly; (try dsimp only); (repeat' split) <;> simp

@[simp] theorem takeDischarge_keeps (s : State) :
    (takeDischarge s).pending = s.pending ∧ (takeDischarge s).clock = s.clock ∧
    (takeDischarge s).freeCount = s.freeCount ∧ (takeDischarge s).gasFb = s.gasFb ∧
    (takeDischarge s).cycle.counter = s.cycle.counter ∧ (takeDischarge s).cycle.grant = s.cycle.grant ∧
    (takeDischarge s).cycle.startRefusal = s.cycle.startRefusal ∧
    (takeDischarge s).sensor.header = s.sensor.header ∧ (takeDischarge s).sensor.bell = s.sensor.bell ∧
    (takeDischarge s).sensor.transaction = s.sensor.transaction ∧
    (takeDischarge s).sensor.lastPair = s.sensor.lastPair ∧
    (takeDischarge s).sensor.zeroOffset = s.sensor.zeroOffset ∧
    (takeDischarge s).sensor.zeroing = s.sensor.zeroing ∧
    (takeDischarge s).sensor.zeroSamples = s.sensor.zeroSamples ∧
    (takeDischarge s).sensor.sample = s.sensor.sample ∧ (takeDischarge s).dose.planned = s.dose.planned ∧
    (takeDischarge s).dose.elapsed = s.dose.elapsed ∧
    (takeDischarge s).dose.massAtStart = s.dose.massAtStart ∧
    (takeDischarge s).gas.stuckEpisode = s.gas.stuckEpisode ∧
    (takeDischarge s).line.station = s.line.station ∧ (takeDischarge s).line.condition = s.line.condition ∧
    (takeDischarge s).line.faultSlot = s.line.faultSlot ∧ (takeDischarge s).line.attempt = s.line.attempt ∧
    (takeDischarge s).line.abort = s.line.abort ∧ (takeDischarge s).line.badCount = s.line.badCount ∧
    (takeDischarge s).recipe = s.recipe ∧ (takeDischarge s).fault.enables = s.fault.enables :=
  by unfold takeDischarge; (try dsimp only); (repeat' split) <;> simp

@[simp] theorem makeZeroTest_keeps (dischargedAt : Nat) (s : State) :
    (makeZeroTest dischargedAt s).pending = s.pending ∧ (makeZeroTest dischargedAt s).clock = s.clock ∧
    (makeZeroTest dischargedAt s).freeCount = s.freeCount ∧ (makeZeroTest dischargedAt s).gasFb = s.gasFb ∧
    (makeZeroTest dischargedAt s).context = s.context ∧
    (makeZeroTest dischargedAt s).cycle.station = s.cycle.station ∧
    (makeZeroTest dischargedAt s).cycle.phase = s.cycle.phase ∧
    (makeZeroTest dischargedAt s).cycle.counter = s.cycle.counter ∧
    (makeZeroTest dischargedAt s).cycle.stopPending = s.cycle.stopPending ∧
    (makeZeroTest dischargedAt s).cycle.startRefusal = s.cycle.startRefusal ∧
    (makeZeroTest dischargedAt s).crimp = s.crimp ∧
    (makeZeroTest dischargedAt s).sensor.header = s.sensor.header ∧
    (makeZeroTest dischargedAt s).sensor.bell = s.sensor.bell ∧
    (makeZeroTest dischargedAt s).sensor.transaction = s.sensor.transaction ∧
    (makeZeroTest dischargedAt s).sensor.lastPair = s.sensor.lastPair ∧
    (makeZeroTest dischargedAt s).sensor.zeroOffset = s.sensor.zeroOffset ∧
    (makeZeroTest dischargedAt s).sensor.zeroDebt = s.sensor.zeroDebt ∧
    (makeZeroTest dischargedAt s).sensor.sample = s.sensor.sample ∧
    (makeZeroTest dischargedAt s).dose = s.dose ∧ (makeZeroTest dischargedAt s).gas = s.gas ∧
    (makeZeroTest dischargedAt s).line = s.line ∧ (makeZeroTest dischargedAt s).draw = s.draw ∧
    (makeZeroTest dischargedAt s).hold = s.hold ∧ (makeZeroTest dischargedAt s).result = s.result ∧
    (makeZeroTest dischargedAt s).recipe = s.recipe ∧ (makeZeroTest dischargedAt s).fault = s.fault :=
  by unfold makeZeroTest; (try dsimp only); (repeat' split) <;> simp

@[simp] theorem noteClamped_keeps (s : State) :
    (noteClamped s).pending = s.pending ∧ (noteClamped s).clock = s.clock ∧
    (noteClamped s).freeCount = s.freeCount ∧ (noteClamped s).gasFb = s.gasFb ∧
    (noteClamped s).cycle = s.cycle ∧ (noteClamped s).crimp = s.crimp ∧ (noteClamped s).sensor = s.sensor ∧
    (noteClamped s).dose = s.dose ∧ (noteClamped s).gas = s.gas ∧ (noteClamped s).line = s.line ∧
    (noteClamped s).draw = s.draw ∧ (noteClamped s).hold = s.hold ∧ (noteClamped s).result = s.result ∧
    (noteClamped s).recipe = s.recipe ∧ (noteClamped s).fault = s.fault :=
  by unfold noteClamped; (try dsimp only); (repeat' split) <;> simp

@[simp] theorem watermarkTest_keeps (s : State) :
    (watermarkTest s).pending = s.pending ∧ (watermarkTest s).clock = s.clock ∧
    (watermarkTest s).freeCount = s.freeCount ∧ (watermarkTest s).gasFb = s.gasFb ∧
    (watermarkTest s).cycle = s.cycle ∧ (watermarkTest s).crimp = s.crimp ∧
    (watermarkTest s).sensor = s.sensor ∧ (watermarkTest s).dose.running = s.dose.running ∧
    (watermarkTest s).dose.planned = s.dose.planned ∧ (watermarkTest s).dose.elapsed = s.dose.elapsed ∧
    (watermarkTest s).dose.massAtStart = s.dose.massAtStart ∧ (watermarkTest s).gas = s.gas ∧
    (watermarkTest s).line.station = s.line.station ∧ (watermarkTest s).line.condition = s.line.condition ∧
    (watermarkTest s).line.faultSlot = s.line.faultSlot ∧
    (watermarkTest s).line.shutSlot = s.line.shutSlot ∧
    (watermarkTest s).line.resultSlot = s.line.resultSlot ∧
    (watermarkTest s).line.attempt = s.line.attempt ∧ (watermarkTest s).line.abort = s.line.abort ∧
    (watermarkTest s).line.badCount = s.line.badCount ∧ (watermarkTest s).draw.self = s.draw.self ∧
    (watermarkTest s).draw.keyed = s.draw.keyed ∧ (watermarkTest s).draw.phantoms = s.draw.phantoms ∧
    (watermarkTest s).result = s.result ∧ (watermarkTest s).recipe = s.recipe ∧
    (watermarkTest s).fault = s.fault :=
  by unfold watermarkTest; (try dsimp only); (repeat' split) <;> simp

@[simp] theorem handSample_keeps (s : State) :
    (handSample s).pending = s.pending ∧ (handSample s).clock = s.clock ∧ (handSample s).gasFb = s.gasFb ∧
    (handSample s).cycle.station = s.cycle.station ∧ (handSample s).cycle.counter = s.cycle.counter ∧
    (handSample s).cycle.stopPending = s.cycle.stopPending ∧ (handSample s).cycle.grant = s.cycle.grant ∧
    (handSample s).cycle.startRefusal = s.cycle.startRefusal ∧ (handSample s).crimp = s.crimp ∧
    (handSample s).sensor.header = s.sensor.header ∧ (handSample s).sensor.bell = s.sensor.bell ∧
    (handSample s).sensor.transaction = s.sensor.transaction ∧
    (handSample s).sensor.lastPair = s.sensor.lastPair ∧
    (handSample s).sensor.zeroOffset = s.sensor.zeroOffset ∧
    (handSample s).sensor.zeroing = s.sensor.zeroing ∧
    (handSample s).sensor.zeroSamples = s.sensor.zeroSamples ∧
    (handSample s).sensor.zeroDebt = s.sensor.zeroDebt ∧ (handSample s).dose.planned = s.dose.planned ∧
    (handSample s).dose.massAtStart = s.dose.massAtStart ∧
    (handSample s).gas.stuckEpisode = s.gas.stuckEpisode ∧ (handSample s).line.station = s.line.station ∧
    (handSample s).line.condition = s.line.condition ∧ (handSample s).line.faultSlot = s.line.faultSlot ∧
    (handSample s).line.resultSlot = s.line.resultSlot ∧ (handSample s).line.attempt = s.line.attempt ∧
    (handSample s).line.abort = s.line.abort ∧ (handSample s).line.badCount = s.line.badCount ∧
    (handSample s).draw.keyed = s.draw.keyed ∧ (handSample s).draw.phantoms = s.draw.phantoms ∧
    (handSample s).result = s.result ∧ (handSample s).recipe = s.recipe ∧ (handSample s).fault = s.fault :=
  by simp [handSample]

@[simp] theorem statusIfChanged_keeps (before after : Validity) (s : State) :
    (statusIfChanged before after s).pending = s.pending ∧
    (statusIfChanged before after s).clock = s.clock ∧
    (statusIfChanged before after s).freeCount = s.freeCount ∧
    (statusIfChanged before after s).gasFb = s.gasFb ∧
    (statusIfChanged before after s).context = s.context ∧
    (statusIfChanged before after s).cycle = s.cycle ∧ (statusIfChanged before after s).crimp = s.crimp ∧
    (statusIfChanged before after s).sensor = s.sensor ∧ (statusIfChanged before after s).dose = s.dose ∧
    (statusIfChanged before after s).gas = s.gas ∧
    (statusIfChanged before after s).line.station = s.line.station ∧
    (statusIfChanged before after s).line.condition = s.line.condition ∧
    (statusIfChanged before after s).line.faultSlot = s.line.faultSlot ∧
    (statusIfChanged before after s).line.holdSlot = s.line.holdSlot ∧
    (statusIfChanged before after s).line.shutSlot = s.line.shutSlot ∧
    (statusIfChanged before after s).line.openSlot = s.line.openSlot ∧
    (statusIfChanged before after s).line.resultSlot = s.line.resultSlot ∧
    (statusIfChanged before after s).line.attempt = s.line.attempt ∧
    (statusIfChanged before after s).line.abort = s.line.abort ∧
    (statusIfChanged before after s).line.badCount = s.line.badCount ∧
    (statusIfChanged before after s).draw = s.draw ∧ (statusIfChanged before after s).hold = s.hold ∧
    (statusIfChanged before after s).result = s.result ∧
    (statusIfChanged before after s).recipe = s.recipe ∧ (statusIfChanged before after s).fault = s.fault :=
  by unfold statusIfChanged; (try dsimp only); (repeat' split) <;> simp

@[simp] theorem endHeaderTransaction_keeps (r : SensorReply) (s : State) :
    (endHeaderTransaction r s).pending = s.pending ∧ (endHeaderTransaction r s).clock = s.clock ∧
    (endHeaderTransaction r s).freeCount = s.freeCount ∧ (endHeaderTransaction r s).gasFb = s.gasFb ∧
    (endHeaderTransaction r s).context = s.context ∧ (endHeaderTransaction r s).cycle = s.cycle ∧
    (endHeaderTransaction r s).crimp = s.crimp ∧ (endHeaderTransaction r s).sensor.bell = s.sensor.bell ∧
    (endHeaderTransaction r s).sensor.transaction = s.sensor.transaction ∧
    (endHeaderTransaction r s).sensor.lastPair = s.sensor.lastPair ∧
    (endHeaderTransaction r s).sensor.zeroOffset = s.sensor.zeroOffset ∧
    (endHeaderTransaction r s).sensor.zeroing = s.sensor.zeroing ∧
    (endHeaderTransaction r s).sensor.zeroSamples = s.sensor.zeroSamples ∧
    (endHeaderTransaction r s).sensor.zeroDebt = s.sensor.zeroDebt ∧
    (endHeaderTransaction r s).sensor.sample = s.sensor.sample ∧ (endHeaderTransaction r s).dose = s.dose ∧
    (endHeaderTransaction r s).gas = s.gas ∧ (endHeaderTransaction r s).line.station = s.line.station ∧
    (endHeaderTransaction r s).line.condition = s.line.condition ∧
    (endHeaderTransaction r s).line.faultSlot = s.line.faultSlot ∧
    (endHeaderTransaction r s).line.holdSlot = s.line.holdSlot ∧
    (endHeaderTransaction r s).line.shutSlot = s.line.shutSlot ∧
    (endHeaderTransaction r s).line.openSlot = s.line.openSlot ∧
    (endHeaderTransaction r s).line.resultSlot = s.line.resultSlot ∧
    (endHeaderTransaction r s).line.attempt = s.line.attempt ∧
    (endHeaderTransaction r s).line.abort = s.line.abort ∧
    (endHeaderTransaction r s).line.badCount = s.line.badCount ∧ (endHeaderTransaction r s).draw = s.draw ∧
    (endHeaderTransaction r s).hold = s.hold ∧ (endHeaderTransaction r s).result = s.result ∧
    (endHeaderTransaction r s).recipe = s.recipe ∧ (endHeaderTransaction r s).fault = s.fault :=
  by simp [endHeaderTransaction]

@[simp] theorem collectReading_keeps (r : SensorReply) (s : State) :
    (collectReading r s).pending = s.pending ∧ (collectReading r s).clock = s.clock ∧
    (collectReading r s).freeCount = s.freeCount ∧ (collectReading r s).gasFb = s.gasFb ∧
    (collectReading r s).context = s.context ∧ (collectReading r s).cycle = s.cycle ∧
    (collectReading r s).crimp = s.crimp ∧ (collectReading r s).sensor.header = s.sensor.header ∧
    (collectReading r s).sensor.bell = s.sensor.bell ∧
    (collectReading r s).sensor.transaction = s.sensor.transaction ∧
    (collectReading r s).sensor.lastPair = s.sensor.lastPair ∧
    (collectReading r s).sensor.zeroOffset = s.sensor.zeroOffset ∧
    (collectReading r s).sensor.zeroing = s.sensor.zeroing ∧
    (collectReading r s).sensor.zeroDebt = s.sensor.zeroDebt ∧
    (collectReading r s).sensor.sample = s.sensor.sample ∧ (collectReading r s).dose = s.dose ∧
    (collectReading r s).gas = s.gas ∧ (collectReading r s).line = s.line ∧
    (collectReading r s).draw = s.draw ∧ (collectReading r s).hold = s.hold ∧
    (collectReading r s).result = s.result ∧ (collectReading r s).recipe = s.recipe ∧
    (collectReading r s).fault = s.fault :=
  by unfold collectReading; (try dsimp only); (repeat' split) <;> simp

@[simp] theorem reportHeaderLost_keeps (s : State) :
    (reportHeaderLost s).pending = s.pending ∧ (reportHeaderLost s).clock = s.clock ∧
    (reportHeaderLost s).freeCount = s.freeCount ∧ (reportHeaderLost s).gasFb = s.gasFb ∧
    (reportHeaderLost s).cycle.counter = s.cycle.counter ∧
    (reportHeaderLost s).cycle.startRefusal = s.cycle.startRefusal ∧
    (reportHeaderLost s).sensor.header = s.sensor.header ∧
    (reportHeaderLost s).sensor.bell = s.sensor.bell ∧
    (reportHeaderLost s).sensor.transaction = s.sensor.transaction ∧
    (reportHeaderLost s).sensor.lastPair = s.sensor.lastPair ∧
    (reportHeaderLost s).sensor.zeroOffset = s.sensor.zeroOffset ∧
    (reportHeaderLost s).sensor.sample = s.sensor.sample ∧
    (reportHeaderLost s).dose.planned = s.dose.planned ∧
    (reportHeaderLost s).dose.elapsed = s.dose.elapsed ∧
    (reportHeaderLost s).dose.massAtStart = s.dose.massAtStart ∧
    (reportHeaderLost s).gas.stuckEpisode = s.gas.stuckEpisode ∧
    (reportHeaderLost s).line.station = s.line.station ∧
    (reportHeaderLost s).line.condition = s.line.condition ∧
    (reportHeaderLost s).line.attempt = s.line.attempt ∧ (reportHeaderLost s).line.abort = s.line.abort ∧
    (reportHeaderLost s).line.badCount = s.line.badCount ∧ (reportHeaderLost s).recipe = s.recipe ∧
    (reportHeaderLost s).fault.enables = s.fault.enables :=
  by unfold reportHeaderLost; (try dsimp only); (repeat' split) <;> simp

@[simp] theorem endBellTransaction_keeps (r : SensorReply) (s : State) :
    (endBellTransaction r s).pending = s.pending ∧ (endBellTransaction r s).clock = s.clock ∧
    (endBellTransaction r s).gasFb = s.gasFb ∧ (endBellTransaction r s).cycle.counter = s.cycle.counter ∧
    (endBellTransaction r s).cycle.startRefusal = s.cycle.startRefusal ∧
    (endBellTransaction r s).sensor.header = s.sensor.header ∧
    (endBellTransaction r s).sensor.transaction = s.sensor.transaction ∧
    (endBellTransaction r s).sensor.lastPair = s.sensor.lastPair ∧
    (endBellTransaction r s).sensor.zeroOffset = s.sensor.zeroOffset ∧
    (endBellTransaction r s).dose.planned = s.dose.planned ∧
    (endBellTransaction r s).dose.massAtStart = s.dose.massAtStart ∧
    (endBellTransaction r s).gas.stuckEpisode = s.gas.stuckEpisode ∧
    (endBellTransaction r s).line.station = s.line.station ∧
    (endBellTransaction r s).line.condition = s.line.condition ∧
    (endBellTransaction r s).line.attempt = s.line.attempt ∧
    (endBellTransaction r s).line.abort = s.line.abort ∧
    (endBellTransaction r s).line.badCount = s.line.badCount ∧ (endBellTransaction r s).recipe = s.recipe ∧
    (endBellTransaction r s).fault.enables = s.fault.enables :=
  by unfold endBellTransaction; (try dsimp only); (repeat' split) <;> simp

@[simp] theorem endTransaction_keeps (c : Channel) (r : SensorReply) (s : State) :
    (endTransaction c r s).pending = s.pending ∧ (endTransaction c r s).clock = s.clock ∧
    (endTransaction c r s).gasFb = s.gasFb ∧ (endTransaction c r s).cycle.counter = s.cycle.counter ∧
    (endTransaction c r s).cycle.startRefusal = s.cycle.startRefusal ∧
    (endTransaction c r s).sensor.lastPair = s.sensor.lastPair ∧
    (endTransaction c r s).sensor.zeroOffset = s.sensor.zeroOffset ∧
    (endTransaction c r s).dose.planned = s.dose.planned ∧
    (endTransaction c r s).dose.massAtStart = s.dose.massAtStart ∧
    (endTransaction c r s).gas.stuckEpisode = s.gas.stuckEpisode ∧
    (endTransaction c r s).line.station = s.line.station ∧
    (endTransaction c r s).line.condition = s.line.condition ∧
    (endTransaction c r s).line.attempt = s.line.attempt ∧
    (endTransaction c r s).line.abort = s.line.abort ∧
    (endTransaction c r s).line.badCount = s.line.badCount ∧ (endTransaction c r s).recipe = s.recipe ∧
    (endTransaction c r s).fault.enables = s.fault.enables :=
  by unfold endTransaction; (try dsimp only); (repeat' split) <;> simp

@[simp] theorem finishZeroing_keeps (s : State) :
    (finishZeroing s).pending = s.pending ∧ (finishZeroing s).clock = s.clock ∧
    (finishZeroing s).freeCount = s.freeCount ∧ (finishZeroing s).gasFb = s.gasFb ∧
    (finishZeroing s).context = s.context ∧ (finishZeroing s).cycle.station = s.cycle.station ∧
    (finishZeroing s).cycle.phase = s.cycle.phase ∧ (finishZeroing s).cycle.counter = s.cycle.counter ∧
    (finishZeroing s).cycle.stopPending = s.cycle.stopPending ∧
    (finishZeroing s).cycle.startRefusal = s.cycle.startRefusal ∧ (finishZeroing s).crimp = s.crimp ∧
    (finishZeroing s).sensor.header = s.sensor.header ∧ (finishZeroing s).sensor.bell = s.sensor.bell ∧
    (finishZeroing s).sensor.transaction = s.sensor.transaction ∧
    (finishZeroing s).sensor.lastPair = s.sensor.lastPair ∧
    (finishZeroing s).sensor.zeroOffset = s.sensor.zeroOffset ∧
    (finishZeroing s).sensor.zeroDebt = s.sensor.zeroDebt ∧
    (finishZeroing s).sensor.sample = s.sensor.sample ∧ (finishZeroing s).dose = s.dose ∧
    (finishZeroing s).gas = s.gas ∧ (finishZeroing s).line = s.line ∧ (finishZeroing s).draw = s.draw ∧
    (finishZeroing s).hold = s.hold ∧ (finishZeroing s).result = s.result ∧
    (finishZeroing s).recipe = s.recipe ∧ (finishZeroing s).fault = s.fault :=
  by simp [finishZeroing]

@[simp] theorem applyZeroing_keeps (s : State) :
    (applyZeroing s).pending = s.pending ∧ (applyZeroing s).clock = s.clock ∧
    (applyZeroing s).freeCount = s.freeCount ∧ (applyZeroing s).gasFb = s.gasFb ∧
    (applyZeroing s).context = s.context ∧ (applyZeroing s).cycle.station = s.cycle.station ∧
    (applyZeroing s).cycle.phase = s.cycle.phase ∧ (applyZeroing s).cycle.counter = s.cycle.counter ∧
    (applyZeroing s).cycle.stopPending = s.cycle.stopPending ∧
    (applyZeroing s).cycle.startRefusal = s.cycle.startRefusal ∧ (applyZeroing s).crimp = s.crimp ∧
    (applyZeroing s).sensor.header = s.sensor.header ∧ (applyZeroing s).sensor.bell = s.sensor.bell ∧
    (applyZeroing s).sensor.transaction = s.sensor.transaction ∧
    (applyZeroing s).sensor.lastPair = s.sensor.lastPair ∧
    (applyZeroing s).sensor.sample = s.sensor.sample ∧ (applyZeroing s).dose = s.dose ∧
    (applyZeroing s).gas = s.gas ∧ (applyZeroing s).line.station = s.line.station ∧
    (applyZeroing s).line.condition = s.line.condition ∧
    (applyZeroing s).line.faultSlot = s.line.faultSlot ∧ (applyZeroing s).line.holdSlot = s.line.holdSlot ∧
    (applyZeroing s).line.shutSlot = s.line.shutSlot ∧ (applyZeroing s).line.openSlot = s.line.openSlot ∧
    (applyZeroing s).line.resultSlot = s.line.resultSlot ∧ (applyZeroing s).line.attempt = s.line.attempt ∧
    (applyZeroing s).line.abort = s.line.abort ∧ (applyZeroing s).line.badCount = s.line.badCount ∧
    (applyZeroing s).draw = s.draw ∧ (applyZeroing s).hold = s.hold ∧ (applyZeroing s).result = s.result ∧
    (applyZeroing s).recipe = s.recipe ∧ (applyZeroing s).fault.enables = s.fault.enables :=
  by unfold applyZeroing; (try dsimp only); (repeat' split) <;> simp

@[simp] theorem endZeroing_keeps (s : State) :
    (endZeroing s).pending = s.pending ∧ (endZeroing s).clock = s.clock ∧
    (endZeroing s).freeCount = s.freeCount ∧ (endZeroing s).gasFb = s.gasFb ∧
    (endZeroing s).context = s.context ∧ (endZeroing s).cycle.station = s.cycle.station ∧
    (endZeroing s).cycle.phase = s.cycle.phase ∧ (endZeroing s).cycle.counter = s.cycle.counter ∧
    (endZeroing s).cycle.stopPending = s.cycle.stopPending ∧
    (endZeroing s).cycle.startRefusal = s.cycle.startRefusal ∧ (endZeroing s).crimp = s.crimp ∧
    (endZeroing s).sensor.header = s.sensor.header ∧ (endZeroing s).sensor.bell = s.sensor.bell ∧
    (endZeroing s).sensor.transaction = s.sensor.transaction ∧
    (endZeroing s).sensor.lastPair = s.sensor.lastPair ∧ (endZeroing s).sensor.sample = s.sensor.sample ∧
    (endZeroing s).dose = s.dose ∧ (endZeroing s).gas = s.gas ∧
    (endZeroing s).line.station = s.line.station ∧ (endZeroing s).line.condition = s.line.condition ∧
    (endZeroing s).line.faultSlot = s.line.faultSlot ∧ (endZeroing s).line.holdSlot = s.line.holdSlot ∧
    (endZeroing s).line.shutSlot = s.line.shutSlot ∧ (endZeroing s).line.openSlot = s.line.openSlot ∧
    (endZeroing s).line.resultSlot = s.line.resultSlot ∧ (endZeroing s).line.attempt = s.line.attempt ∧
    (endZeroing s).line.abort = s.line.abort ∧ (endZeroing s).line.badCount = s.line.badCount ∧
    (endZeroing s).draw = s.draw ∧ (endZeroing s).hold = s.hold ∧ (endZeroing s).result = s.result ∧
    (endZeroing s).recipe = s.recipe ∧ (endZeroing s).fault.enables = s.fault.enables :=
  by unfold endZeroing; (try dsimp only); (repeat' split) <;> simp

@[simp] theorem seeFeedback_keeps (s : State) :
    (seeFeedback s).pending = s.pending ∧ (seeFeedback s).clock = s.clock ∧
    (seeFeedback s).freeCount = s.freeCount ∧ (seeFeedback s).gasFb = s.gasFb ∧
    (seeFeedback s).context = s.context ∧ (seeFeedback s).cycle = s.cycle ∧
    (seeFeedback s).crimp = s.crimp ∧ (seeFeedback s).sensor = s.sensor ∧ (seeFeedback s).dose = s.dose ∧
    (seeFeedback s).gas.stage = s.gas.stage ∧ (seeFeedback s).gas.closeWindow = s.gas.closeWindow ∧
    (seeFeedback s).gas.stuckEpisode = s.gas.stuckEpisode ∧ (seeFeedback s).line = s.line ∧
    (seeFeedback s).draw = s.draw ∧ (seeFeedback s).hold = s.hold ∧ (seeFeedback s).result = s.result ∧
    (seeFeedback s).recipe = s.recipe ∧ (seeFeedback s).fault = s.fault :=
  by unfold seeFeedback; (try dsimp only); (repeat' split) <;> simp

@[simp] theorem endStuckEpisode_keeps (s : State) :
    (endStuckEpisode s).pending = s.pending ∧ (endStuckEpisode s).clock = s.clock ∧
    (endStuckEpisode s).freeCount = s.freeCount ∧ (endStuckEpisode s).gasFb = s.gasFb ∧
    (endStuckEpisode s).context = s.context ∧ (endStuckEpisode s).cycle = s.cycle ∧
    (endStuckEpisode s).crimp = s.crimp ∧ (endStuckEpisode s).sensor = s.sensor ∧
    (endStuckEpisode s).dose = s.dose ∧ (endStuckEpisode s).gas.stage = s.gas.stage ∧
    (endStuckEpisode s).gas.closeWindow = s.gas.closeWindow ∧
    (endStuckEpisode s).line.station = s.line.station ∧
    (endStuckEpisode s).line.condition = s.line.condition ∧
    (endStuckEpisode s).line.faultSlot = s.line.faultSlot ∧
    (endStuckEpisode s).line.holdSlot = s.line.holdSlot ∧
    (endStuckEpisode s).line.openSlot = s.line.openSlot ∧
    (endStuckEpisode s).line.resultSlot = s.line.resultSlot ∧
    (endStuckEpisode s).line.attempt = s.line.attempt ∧ (endStuckEpisode s).line.abort = s.line.abort ∧
    (endStuckEpisode s).line.badCount = s.line.badCount ∧ (endStuckEpisode s).draw.keyed = s.draw.keyed ∧
    (endStuckEpisode s).draw.phantoms = s.draw.phantoms ∧ (endStuckEpisode s).draw.claim = s.draw.claim ∧
    (endStuckEpisode s).hold = s.hold ∧ (endStuckEpisode s).result = s.result ∧
    (endStuckEpisode s).recipe = s.recipe ∧ (endStuckEpisode s).fault = s.fault :=
  by unfold endStuckEpisode; (try dsimp only); (repeat' split) <;> simp

@[simp] theorem takeValveClosed_keeps (s : State) :
    (takeValveClosed s).pending = s.pending ∧ (takeValveClosed s).clock = s.clock ∧
    (takeValveClosed s).freeCount = s.freeCount ∧ (takeValveClosed s).gasFb = s.gasFb ∧
    (takeValveClosed s).cycle.station = s.cycle.station ∧
    (takeValveClosed s).cycle.counter = s.cycle.counter ∧
    (takeValveClosed s).cycle.stopPending = s.cycle.stopPending ∧
    (takeValveClosed s).cycle.grant = s.cycle.grant ∧
    (takeValveClosed s).cycle.startRefusal = s.cycle.startRefusal ∧ (takeValveClosed s).crimp = s.crimp ∧
    (takeValveClosed s).sensor = s.sensor ∧ (takeValveClosed s).dose = s.dose ∧
    (takeValveClosed s).line.station = s.line.station ∧
    (takeValveClosed s).line.condition = s.line.condition ∧
    (takeValveClosed s).line.faultSlot = s.line.faultSlot ∧
    (takeValveClosed s).line.holdSlot = s.line.holdSlot ∧
    (takeValveClosed s).line.resultSlot = s.line.resultSlot ∧
    (takeValveClosed s).line.attempt = s.line.attempt ∧ (takeValveClosed s).line.abort = s.line.abort ∧
    (takeValveClosed s).line.badCount = s.line.badCount ∧ (takeValveClosed s).draw.keyed = s.draw.keyed ∧
    (takeValveClosed s).draw.phantoms = s.draw.phantoms ∧ (takeValveClosed s).hold = s.hold ∧
    (takeValveClosed s).result = s.result ∧ (takeValveClosed s).recipe = s.recipe ∧
    (takeValveClosed s).fault = s.fault :=
  by unfold takeValveClosed; (try dsimp only); (repeat' split) <;> simp

@[simp] theorem endCloseWindow_keeps (s : State) :
    (endCloseWindow s).pending = s.pending ∧ (endCloseWindow s).clock = s.clock ∧
    (endCloseWindow s).freeCount = s.freeCount ∧ (endCloseWindow s).gasFb = s.gasFb ∧
    (endCloseWindow s).cycle.counter = s.cycle.counter ∧
    (endCloseWindow s).cycle.startRefusal = s.cycle.startRefusal ∧
    (endCloseWindow s).sensor.header = s.sensor.header ∧ (endCloseWindow s).sensor.bell = s.sensor.bell ∧
    (endCloseWindow s).sensor.transaction = s.sensor.transaction ∧
    (endCloseWindow s).sensor.lastPair = s.sensor.lastPair ∧
    (endCloseWindow s).sensor.zeroOffset = s.sensor.zeroOffset ∧
    (endCloseWindow s).sensor.sample = s.sensor.sample ∧ (endCloseWindow s).dose.planned = s.dose.planned ∧
    (endCloseWindow s).dose.elapsed = s.dose.elapsed ∧
    (endCloseWindow s).dose.massAtStart = s.dose.massAtStart ∧
    (endCloseWindow s).line.station = s.line.station ∧
    (endCloseWindow s).line.condition = s.line.condition ∧
    (endCloseWindow s).line.attempt = s.line.attempt ∧ (endCloseWindow s).line.abort = s.line.abort ∧
    (endCloseWindow s).line.badCount = s.line.badCount ∧ (endCloseWindow s).recipe = s.recipe ∧
    (endCloseWindow s).fault.enables = s.fault.enables :=
  by unfold endCloseWindow; (try dsimp only); (repeat' split) <;> simp

@[simp] theorem judgeSeal_keeps (s : State) :
    (judgeSeal s).pending = s.pending ∧ (judgeSeal s).clock = s.clock ∧
    (judgeSeal s).freeCount = s.freeCount ∧ (judgeSeal s).gasFb = s.gasFb ∧
    (judgeSeal s).cycle.station = s.cycle.station ∧ (judgeSeal s).cycle.counter = s.cycle.counter ∧
    (judgeSeal s).cycle.stopPending = s.cycle.stopPending ∧ (judgeSeal s).cycle.grant = s.cycle.grant ∧
    (judgeSeal s).cycle.startRefusal = s.cycle.startRefusal ∧ (judgeSeal s).crimp = s.crimp ∧
    (judgeSeal s).sensor = s.sensor ∧ (judgeSeal s).dose = s.dose ∧
    (judgeSeal s).gas.closeWindow = s.gas.closeWindow ∧
    (judgeSeal s).gas.stuckEpisode = s.gas.stuckEpisode ∧ (judgeSeal s).line = s.line ∧
    (judgeSeal s).draw = s.draw ∧ (judgeSeal s).hold = s.hold ∧ (judgeSeal s).result = s.result ∧
    (judgeSeal s).recipe = s.recipe ∧ (judgeSeal s).fault = s.fault :=
  by unfold judgeSeal; (try dsimp only); (repeat' split) <;> simp

@[simp] theorem onSlot_keeps (k : SlotKind) (f : Slot FaultFrame → Slot FaultFrame) (g : {α : Type} → Slot α → Slot α) (s : State) :
    (onSlot k f g s).pending = s.pending ∧ (onSlot k f g s).clock = s.clock ∧
    (onSlot k f g s).freeCount = s.freeCount ∧ (onSlot k f g s).gasFb = s.gasFb ∧
    (onSlot k f g s).context = s.context ∧ (onSlot k f g s).cycle = s.cycle ∧
    (onSlot k f g s).crimp = s.crimp ∧ (onSlot k f g s).sensor = s.sensor ∧
    (onSlot k f g s).dose = s.dose ∧ (onSlot k f g s).gas = s.gas ∧
    (onSlot k f g s).line.station = s.line.station ∧ (onSlot k f g s).line.condition = s.line.condition ∧
    (onSlot k f g s).line.attempt = s.line.attempt ∧ (onSlot k f g s).line.abort = s.line.abort ∧
    (onSlot k f g s).line.badCount = s.line.badCount ∧ (onSlot k f g s).draw = s.draw ∧
    (onSlot k f g s).hold = s.hold ∧ (onSlot k f g s).result = s.result ∧
    (onSlot k f g s).recipe = s.recipe ∧ (onSlot k f g s).fault = s.fault :=
  by cases k <;> simp [onSlot]

@[simp] theorem beginAttempt_keeps (k : SlotKind) (s : State) :
    (beginAttempt k s).pending = s.pending ∧ (beginAttempt k s).clock = s.clock ∧
    (beginAttempt k s).freeCount = s.freeCount ∧ (beginAttempt k s).gasFb = s.gasFb ∧
    (beginAttempt k s).context = s.context ∧ (beginAttempt k s).cycle = s.cycle ∧
    (beginAttempt k s).crimp = s.crimp ∧ (beginAttempt k s).sensor = s.sensor ∧
    (beginAttempt k s).dose = s.dose ∧ (beginAttempt k s).gas = s.gas ∧
    (beginAttempt k s).line.station = s.line.station ∧ (beginAttempt k s).line.abort = s.line.abort ∧
    (beginAttempt k s).line.badCount = s.line.badCount ∧ (beginAttempt k s).draw = s.draw ∧
    (beginAttempt k s).hold = s.hold ∧ (beginAttempt k s).result.queue = s.result.queue ∧
    (beginAttempt k s).result.sequence = s.result.sequence ∧
    (beginAttempt k s).result.dropCount = s.result.dropCount ∧
    (beginAttempt k s).result.rejectRun = s.result.rejectRun ∧ (beginAttempt k s).recipe = s.recipe ∧
    (beginAttempt k s).fault = s.fault :=
  by simp [beginAttempt]

@[simp] theorem returnToPlan_keeps (s : State) :
    (returnToPlan s).pending = s.pending ∧ (returnToPlan s).clock = s.clock ∧
    (returnToPlan s).freeCount = s.freeCount ∧ (returnToPlan s).gasFb = s.gasFb ∧
    (returnToPlan s).context = s.context ∧ (returnToPlan s).cycle = s.cycle ∧
    (returnToPlan s).crimp = s.crimp ∧ (returnToPlan s).sensor = s.sensor ∧
    (returnToPlan s).dose.running = s.dose.running ∧ (returnToPlan s).dose.planned = s.dose.planned ∧
    (returnToPlan s).dose.elapsed = s.dose.elapsed ∧
    (returnToPlan s).dose.massAtStart = s.dose.massAtStart ∧
    (returnToPlan s).gas.closeWindow = s.gas.closeWindow ∧
    (returnToPlan s).gas.stuckEpisode = s.gas.stuckEpisode ∧
    (returnToPlan s).line.station = s.line.station ∧ (returnToPlan s).line.condition = s.line.condition ∧
    (returnToPlan s).line.faultSlot = s.line.faultSlot ∧ (returnToPlan s).line.holdSlot = s.line.holdSlot ∧
    (returnToPlan s).line.shutSlot = s.line.shutSlot ∧
    (returnToPlan s).line.statusSlot = s.line.statusSlot ∧
    (returnToPlan s).line.resultSlot = s.line.resultSlot ∧ (returnToPlan s).line.attempt = s.line.attempt ∧
    (returnToPlan s).line.abort = s.line.abort ∧ (returnToPlan s).line.badCount = s.line.badCount ∧
    (returnToPlan s).draw.self = s.draw.self ∧ (returnToPlan s).draw.keyed = s.draw.keyed ∧
    (returnToPlan s).draw.phantoms = s.draw.phantoms ∧ (returnToPlan s).hold = s.hold ∧
    (returnToPlan s).result = s.result ∧ (returnToPlan s).recipe = s.recipe ∧
    (returnToPlan s).fault = s.fault :=
  by simp [returnToPlan]

@[simp] theorem endCancelled_keeps (s : State) :
    (endCancelled s).pending = s.pending ∧ (endCancelled s).clock = s.clock ∧
    (endCancelled s).freeCount = s.freeCount ∧ (endCancelled s).gasFb = s.gasFb ∧
    (endCancelled s).cycle = s.cycle ∧ (endCancelled s).crimp = s.crimp ∧
    (endCancelled s).sensor = s.sensor ∧ (endCancelled s).dose = s.dose ∧ (endCancelled s).gas = s.gas ∧
    (endCancelled s).line.station = s.line.station ∧ (endCancelled s).line.condition = s.line.condition ∧
    (endCancelled s).line.faultSlot = s.line.faultSlot ∧ (endCancelled s).line.holdSlot = s.line.holdSlot ∧
    (endCancelled s).line.shutSlot = s.line.shutSlot ∧
    (endCancelled s).line.statusSlot = s.line.statusSlot ∧
    (endCancelled s).line.resultSlot = s.line.resultSlot ∧ (endCancelled s).line.attempt = s.line.attempt ∧
    (endCancelled s).line.abort = s.line.abort ∧ (endCancelled s).line.badCount = s.line.badCount ∧
    (endCancelled s).draw.self = s.draw.self ∧ (endCancelled s).draw.keyed = s.draw.keyed ∧
    (endCancelled s).draw.phantoms = s.draw.phantoms ∧ (endCancelled s).hold = s.hold ∧
    (endCancelled s).result = s.result ∧ (endCancelled s).recipe = s.recipe ∧
    (endCancelled s).fault = s.fault :=
  by simp [endCancelled]

@[simp] theorem openReturns_keeps (s : State) :
    (openReturns s).pending = s.pending ∧ (openReturns s).clock = s.clock ∧
    (openReturns s).freeCount = s.freeCount ∧ (openReturns s).gasFb = s.gasFb ∧
    (openReturns s).cycle = s.cycle ∧ (openReturns s).crimp = s.crimp ∧ (openReturns s).sensor = s.sensor ∧
    (openReturns s).dose.running = s.dose.running ∧ (openReturns s).dose.planned = s.dose.planned ∧
    (openReturns s).dose.elapsed = s.dose.elapsed ∧ (openReturns s).dose.massAtStart = s.dose.massAtStart ∧
    (openReturns s).gas = s.gas ∧ (openReturns s).line.station = s.line.station ∧
    (openReturns s).line.condition = s.line.condition ∧ (openReturns s).line.faultSlot = s.line.faultSlot ∧
    (openReturns s).line.holdSlot = s.line.holdSlot ∧ (openReturns s).line.shutSlot = s.line.shutSlot ∧
    (openReturns s).line.statusSlot = s.line.statusSlot ∧
    (openReturns s).line.resultSlot = s.line.resultSlot ∧ (openReturns s).line.attempt = s.line.attempt ∧
    (openReturns s).line.abort = s.line.abort ∧ (openReturns s).line.badCount = s.line.badCount ∧
    (openReturns s).draw.self = s.draw.self ∧ (openReturns s).draw.keyed = s.draw.keyed ∧
    (openReturns s).draw.phantoms = s.draw.phantoms ∧ (openReturns s).hold = s.hold ∧
    (openReturns s).result = s.result ∧ (openReturns s).recipe = s.recipe ∧
    (openReturns s).fault = s.fault :=
  by unfold openReturns; (try dsimp only); (repeat' split) <;> simp

@[simp] theorem slotReturns_keeps (k : SlotKind) (s : State) :
    (slotReturns k s).pending = s.pending ∧ (slotReturns k s).clock = s.clock ∧
    (slotReturns k s).freeCount = s.freeCount ∧ (slotReturns k s).gasFb = s.gasFb ∧
    (slotReturns k s).cycle = s.cycle ∧ (slotReturns k s).crimp = s.crimp ∧
    (slotReturns k s).sensor = s.sensor ∧ (slotReturns k s).dose.running = s.dose.running ∧
    (slotReturns k s).dose.planned = s.dose.planned ∧ (slotReturns k s).dose.elapsed = s.dose.elapsed ∧
    (slotReturns k s).dose.massAtStart = s.dose.massAtStart ∧ (slotReturns k s).gas = s.gas ∧
    (slotReturns k s).line.station = s.line.station ∧ (slotReturns k s).line.condition = s.line.condition ∧
    (slotReturns k s).line.attempt = s.line.attempt ∧ (slotReturns k s).line.abort = s.line.abort ∧
    (slotReturns k s).line.badCount = s.line.badCount ∧ (slotReturns k s).draw.self = s.draw.self ∧
    (slotReturns k s).draw.keyed = s.draw.keyed ∧ (slotReturns k s).draw.phantoms = s.draw.phantoms ∧
    (slotReturns k s).hold = s.hold ∧ (slotReturns k s).result = s.result ∧
    (slotReturns k s).recipe = s.recipe ∧ (slotReturns k s).fault = s.fault :=
  by unfold slotReturns; split <;> simp

@[simp] theorem noteLineWait_keeps (k : SlotKind) (s : State) :
    (noteLineWait k s).pending = s.pending ∧ (noteLineWait k s).clock = s.clock ∧
    (noteLineWait k s).freeCount = s.freeCount ∧ (noteLineWait k s).gasFb = s.gasFb ∧
    (noteLineWait k s).cycle = s.cycle ∧ (noteLineWait k s).crimp = s.crimp ∧
    (noteLineWait k s).sensor = s.sensor ∧ (noteLineWait k s).dose = s.dose ∧
    (noteLineWait k s).gas = s.gas ∧ (noteLineWait k s).line = s.line ∧ (noteLineWait k s).draw = s.draw ∧
    (noteLineWait k s).hold = s.hold ∧ (noteLineWait k s).result = s.result ∧
    (noteLineWait k s).recipe = s.recipe ∧ (noteLineWait k s).fault = s.fault :=
  by unfold noteLineWait; (try dsimp only); (repeat' split) <;> simp

@[simp] theorem dropHead_keeps (s : State) :
    (dropHead s).pending = s.pending ∧ (dropHead s).clock = s.clock ∧
    (dropHead s).freeCount = s.freeCount ∧ (dropHead s).gasFb = s.gasFb ∧
    (dropHead s).context = s.context ∧ (dropHead s).cycle = s.cycle ∧ (dropHead s).crimp = s.crimp ∧
    (dropHead s).sensor = s.sensor ∧ (dropHead s).dose = s.dose ∧ (dropHead s).gas = s.gas ∧
    (dropHead s).line.station = s.line.station ∧ (dropHead s).line.condition = s.line.condition ∧
    (dropHead s).line.faultSlot = s.line.faultSlot ∧ (dropHead s).line.holdSlot = s.line.holdSlot ∧
    (dropHead s).line.shutSlot = s.line.shutSlot ∧ (dropHead s).line.openSlot = s.line.openSlot ∧
    (dropHead s).line.statusSlot = s.line.statusSlot ∧ (dropHead s).line.attempt = s.line.attempt ∧
    (dropHead s).line.abort = s.line.abort ∧ (dropHead s).line.badCount = s.line.badCount ∧
    (dropHead s).draw = s.draw ∧ (dropHead s).hold = s.hold ∧
    (dropHead s).result.sequence = s.result.sequence ∧ (dropHead s).result.dropCount = s.result.dropCount ∧
    (dropHead s).result.rejectRun = s.result.rejectRun ∧ (dropHead s).recipe = s.recipe ∧
    (dropHead s).fault = s.fault :=
  by simp [dropHead]

@[simp] theorem ownerNotSent_keeps (k : SlotKind) (s : State) :
    (ownerNotSent k s).pending = s.pending ∧ (ownerNotSent k s).clock = s.clock ∧
    (ownerNotSent k s).freeCount = s.freeCount ∧ (ownerNotSent k s).gasFb = s.gasFb ∧
    (ownerNotSent k s).cycle = s.cycle ∧ (ownerNotSent k s).crimp = s.crimp ∧
    (ownerNotSent k s).sensor = s.sensor ∧ (ownerNotSent k s).dose = s.dose ∧
    (ownerNotSent k s).gas = s.gas ∧ (ownerNotSent k s).line.station = s.line.station ∧
    (ownerNotSent k s).line.condition = s.line.condition ∧
    (ownerNotSent k s).line.faultSlot = s.line.faultSlot ∧
    (ownerNotSent k s).line.holdSlot = s.line.holdSlot ∧
    (ownerNotSent k s).line.shutSlot = s.line.shutSlot ∧
    (ownerNotSent k s).line.statusSlot = s.line.statusSlot ∧
    (ownerNotSent k s).line.attempt = s.line.attempt ∧ (ownerNotSent k s).line.abort = s.line.abort ∧
    (ownerNotSent k s).line.badCount = s.line.badCount ∧ (ownerNotSent k s).draw.self = s.draw.self ∧
    (ownerNotSent k s).draw.keyed = s.draw.keyed ∧ (ownerNotSent k s).draw.phantoms = s.draw.phantoms ∧
    (ownerNotSent k s).hold = s.hold ∧ (ownerNotSent k s).result.sequence = s.result.sequence ∧
    (ownerNotSent k s).result.rejectRun = s.result.rejectRun ∧ (ownerNotSent k s).recipe = s.recipe ∧
    (ownerNotSent k s).fault = s.fault :=
  by unfold ownerNotSent; (try dsimp only); (repeat' split) <;> simp

@[simp] theorem fourthFailure_keeps (k : SlotKind) (s : State) :
    (fourthFailure k s).pending = s.pending ∧ (fourthFailure k s).clock = s.clock ∧
    (fourthFailure k s).freeCount = s.freeCount ∧ (fourthFailure k s).gasFb = s.gasFb ∧
    (fourthFailure k s).cycle.counter = s.cycle.counter ∧
    (fourthFailure k s).cycle.startRefusal = s.cycle.startRefusal ∧
    (fourthFailure k s).sensor.header = s.sensor.header ∧ (fourthFailure k s).sensor.bell = s.sensor.bell ∧
    (fourthFailure k s).sensor.transaction = s.sensor.transaction ∧
    (fourthFailure k s).sensor.lastPair = s.sensor.lastPair ∧
    (fourthFailure k s).sensor.zeroOffset = s.sensor.zeroOffset ∧
    (fourthFailure k s).sensor.sample = s.sensor.sample ∧
    (fourthFailure k s).dose.planned = s.dose.planned ∧ (fourthFailure k s).dose.elapsed = s.dose.elapsed ∧
    (fourthFailure k s).dose.massAtStart = s.dose.massAtStart ∧
    (fourthFailure k s).gas.stuckEpisode = s.gas.stuckEpisode ∧
    (fourthFailure k s).line.station = s.line.station ∧
    (fourthFailure k s).line.condition = s.line.condition ∧
    (fourthFailure k s).line.attempt = s.line.attempt ∧ (fourthFailure k s).line.abort = s.line.abort ∧
    (fourthFailure k s).line.badCount = s.line.badCount ∧ (fourthFailure k s).recipe = s.recipe ∧
    (fourthFailure k s).fault.enables = s.fault.enables :=
  by simp [fourthFailure]

@[simp] theorem holdCompleted_keeps (q : Nat) (s : State) :
    (holdCompleted q s).pending = s.pending ∧ (holdCompleted q s).clock = s.clock ∧
    (holdCompleted q s).freeCount = s.freeCount ∧ (holdCompleted q s).gasFb = s.gasFb ∧
    (holdCompleted q s).context = s.context ∧ (holdCompleted q s).cycle = s.cycle ∧
    (holdCompleted q s).crimp = s.crimp ∧ (holdCompleted q s).sensor = s.sensor ∧
    (holdCompleted q s).dose = s.dose ∧ (holdCompleted q s).gas = s.gas ∧
    (holdCompleted q s).line = s.line ∧ (holdCompleted q s).draw = s.draw ∧
    (holdCompleted q s).hold.asserted = s.hold.asserted ∧ (holdCompleted q s).result = s.result ∧
    (holdCompleted q s).recipe = s.recipe ∧ (holdCompleted q s).fault = s.fault :=
  by unfold holdCompleted; (try dsimp only); (repeat' split) <;> simp

@[simp] theorem openCompleted_keeps (s : State) :
    (openCompleted s).pending = s.pending ∧ (openCompleted s).clock = s.clock ∧
    (openCompleted s).freeCount = s.freeCount ∧ (openCompleted s).gasFb = s.gasFb ∧
    (openCompleted s).cycle = s.cycle ∧ (openCompleted s).crimp = s.crimp ∧
    (openCompleted s).sensor = s.sensor ∧ (openCompleted s).gas.stuckEpisode = s.gas.stuckEpisode ∧
    (openCompleted s).line.station = s.line.station ∧ (openCompleted s).line.condition = s.line.condition ∧
    (openCompleted s).line.faultSlot = s.line.faultSlot ∧
    (openCompleted s).line.holdSlot = s.line.holdSlot ∧
    (openCompleted s).line.statusSlot = s.line.statusSlot ∧
    (openCompleted s).line.resultSlot = s.line.resultSlot ∧
    (openCompleted s).line.attempt = s.line.attempt ∧ (openCompleted s).line.abort = s.line.abort ∧
    (openCompleted s).line.badCount = s.line.badCount ∧ (openCompleted s).draw.keyed = s.draw.keyed ∧
    (openCompleted s).draw.phantoms = s.draw.phantoms ∧ (openCompleted s).hold = s.hold ∧
    (openCompleted s).result = s.result ∧ (openCompleted s).recipe = s.recipe ∧
    (openCompleted s).fault = s.fault :=
  by unfold openCompleted; (try dsimp only); (repeat' split) <;> simp

@[simp] theorem resultCompleted_keeps (s : State) :
    (resultCompleted s).pending = s.pending ∧ (resultCompleted s).clock = s.clock ∧
    (resultCompleted s).freeCount = s.freeCount ∧ (resultCompleted s).gasFb = s.gasFb ∧
    (resultCompleted s).context = s.context ∧ (resultCompleted s).cycle = s.cycle ∧
    (resultCompleted s).crimp = s.crimp ∧ (resultCompleted s).sensor = s.sensor ∧
    (resultCompleted s).dose = s.dose ∧ (resultCompleted s).gas = s.gas ∧
    (resultCompleted s).line.station = s.line.station ∧
    (resultCompleted s).line.condition = s.line.condition ∧
    (resultCompleted s).line.faultSlot = s.line.faultSlot ∧
    (resultCompleted s).line.holdSlot = s.line.holdSlot ∧
    (resultCompleted s).line.shutSlot = s.line.shutSlot ∧
    (resultCompleted s).line.openSlot = s.line.openSlot ∧
    (resultCompleted s).line.statusSlot = s.line.statusSlot ∧
    (resultCompleted s).line.attempt = s.line.attempt ∧ (resultCompleted s).line.abort = s.line.abort ∧
    (resultCompleted s).line.badCount = s.line.badCount ∧ (resultCompleted s).draw = s.draw ∧
    (resultCompleted s).hold = s.hold ∧ (resultCompleted s).result.sequence = s.result.sequence ∧
    (resultCompleted s).result.rejectRun = s.result.rejectRun ∧ (resultCompleted s).recipe = s.recipe ∧
    (resultCompleted s).fault = s.fault :=
  by simp [resultCompleted]

@[simp] theorem ownerCompleted_keeps (k : SlotKind) (before s : State) :
    (ownerCompleted k before s).pending = s.pending ∧ (ownerCompleted k before s).clock = s.clock ∧
    (ownerCompleted k before s).freeCount = s.freeCount ∧ (ownerCompleted k before s).gasFb = s.gasFb ∧
    (ownerCompleted k before s).cycle = s.cycle ∧ (ownerCompleted k before s).crimp = s.crimp ∧
    (ownerCompleted k before s).sensor = s.sensor ∧
    (ownerCompleted k before s).gas.stuckEpisode = s.gas.stuckEpisode ∧
    (ownerCompleted k before s).line.station = s.line.station ∧
    (ownerCompleted k before s).line.condition = s.line.condition ∧
    (ownerCompleted k before s).line.faultSlot = s.line.faultSlot ∧
    (ownerCompleted k before s).line.holdSlot = s.line.holdSlot ∧
    (ownerCompleted k before s).line.statusSlot = s.line.statusSlot ∧
    (ownerCompleted k before s).line.attempt = s.line.attempt ∧
    (ownerCompleted k before s).line.abort = s.line.abort ∧
    (ownerCompleted k before s).line.badCount = s.line.badCount ∧
    (ownerCompleted k before s).draw.keyed = s.draw.keyed ∧
    (ownerCompleted k before s).draw.phantoms = s.draw.phantoms ∧
    (ownerCompleted k before s).hold.asserted = s.hold.asserted ∧
    (ownerCompleted k before s).result.sequence = s.result.sequence ∧
    (ownerCompleted k before s).result.rejectRun = s.result.rejectRun ∧
    (ownerCompleted k before s).recipe = s.recipe ∧ (ownerCompleted k before s).fault = s.fault :=
  by unfold ownerCompleted; (try dsimp only); (repeat' split) <;> simp

@[simp] theorem setEnables_keeps (e : BitVec 4) (s : State) :
    (setEnables e s).pending = s.pending ∧ (setEnables e s).clock = s.clock ∧
    (setEnables e s).freeCount = s.freeCount ∧ (setEnables e s).gasFb = s.gasFb ∧
    (setEnables e s).context = s.context ∧ (setEnables e s).cycle = s.cycle ∧
    (setEnables e s).crimp = s.crimp ∧ (setEnables e s).sensor = s.sensor ∧
    (setEnables e s).dose = s.dose ∧ (setEnables e s).gas = s.gas ∧
    (setEnables e s).line.station = s.line.station ∧ (setEnables e s).line.condition = s.line.condition ∧
    (setEnables e s).line.faultSlot = s.line.faultSlot ∧ (setEnables e s).line.holdSlot = s.line.holdSlot ∧
    (setEnables e s).line.shutSlot = s.line.shutSlot ∧ (setEnables e s).line.openSlot = s.line.openSlot ∧
    (setEnables e s).line.resultSlot = s.line.resultSlot ∧ (setEnables e s).line.attempt = s.line.attempt ∧
    (setEnables e s).line.abort = s.line.abort ∧ (setEnables e s).line.badCount = s.line.badCount ∧
    (setEnables e s).draw = s.draw ∧ (setEnables e s).hold = s.hold ∧ (setEnables e s).result = s.result ∧
    (setEnables e s).recipe = s.recipe ∧ (setEnables e s).fault.latched = s.fault.latched :=
  by unfold setEnables; (try dsimp only); (repeat' split) <;> simp

@[simp] theorem leaveLoading_keeps (s : State) :
    (leaveLoading s).pending = s.pending ∧ (leaveLoading s).clock = s.clock ∧
    (leaveLoading s).freeCount = s.freeCount ∧ (leaveLoading s).gasFb = s.gasFb ∧
    (leaveLoading s).cycle.counter = s.cycle.counter ∧
    (leaveLoading s).cycle.startRefusal = s.cycle.startRefusal ∧
    (leaveLoading s).sensor.header = s.sensor.header ∧ (leaveLoading s).sensor.bell = s.sensor.bell ∧
    (leaveLoading s).sensor.transaction = s.sensor.transaction ∧
    (leaveLoading s).sensor.lastPair = s.sensor.lastPair ∧
    (leaveLoading s).sensor.zeroOffset = s.sensor.zeroOffset ∧
    (leaveLoading s).sensor.sample = s.sensor.sample ∧ (leaveLoading s).dose.planned = s.dose.planned ∧
    (leaveLoading s).dose.elapsed = s.dose.elapsed ∧
    (leaveLoading s).dose.massAtStart = s.dose.massAtStart ∧
    (leaveLoading s).gas.stuckEpisode = s.gas.stuckEpisode ∧
    (leaveLoading s).line.station = s.line.station ∧ (leaveLoading s).line.condition = s.line.condition ∧
    (leaveLoading s).line.attempt = s.line.attempt ∧ (leaveLoading s).line.abort = s.line.abort ∧
    (leaveLoading s).line.badCount = s.line.badCount ∧ (leaveLoading s).recipe = s.recipe ∧
    (leaveLoading s).fault.enables = s.fault.enables :=
  by unfold leaveLoading; (try dsimp only); (repeat' split) <;> simp

@[simp] theorem acceptRecipe_keeps (raw : Recipe) (unknown : Bool) (s : State) :
    (acceptRecipe raw unknown s).pending = s.pending ∧ (acceptRecipe raw unknown s).clock = s.clock ∧
    (acceptRecipe raw unknown s).freeCount = s.freeCount ∧ (acceptRecipe raw unknown s).gasFb = s.gasFb ∧
    (acceptRecipe raw unknown s).cycle.counter = s.cycle.counter ∧
    (acceptRecipe raw unknown s).cycle.startRefusal = s.cycle.startRefusal ∧
    (acceptRecipe raw unknown s).sensor.header = s.sensor.header ∧
    (acceptRecipe raw unknown s).sensor.bell = s.sensor.bell ∧
    (acceptRecipe raw unknown s).sensor.transaction = s.sensor.transaction ∧
    (acceptRecipe raw unknown s).sensor.lastPair = s.sensor.lastPair ∧
    (acceptRecipe raw unknown s).sensor.zeroOffset = s.sensor.zeroOffset ∧
    (acceptRecipe raw unknown s).sensor.sample = s.sensor.sample ∧
    (acceptRecipe raw unknown s).dose.planned = s.dose.planned ∧
    (acceptRecipe raw unknown s).dose.elapsed = s.dose.elapsed ∧
    (acceptRecipe raw unknown s).dose.massAtStart = s.dose.massAtStart ∧
    (acceptRecipe raw unknown s).gas.stuckEpisode = s.gas.stuckEpisode ∧
    (acceptRecipe raw unknown s).line.station = s.line.station ∧
    (acceptRecipe raw unknown s).line.condition = s.line.condition ∧
    (acceptRecipe raw unknown s).line.attempt = s.line.attempt ∧
    (acceptRecipe raw unknown s).line.abort = s.line.abort ∧
    (acceptRecipe raw unknown s).line.badCount = s.line.badCount :=
  by simp [acceptRecipe]

@[simp] theorem refuseRecipe_keeps (cause : RefusalCause) (s : State) :
    (refuseRecipe cause s).pending = s.pending ∧ (refuseRecipe cause s).clock = s.clock ∧
    (refuseRecipe cause s).freeCount = s.freeCount ∧ (refuseRecipe cause s).gasFb = s.gasFb ∧
    (refuseRecipe cause s).context = s.context ∧ (refuseRecipe cause s).cycle = s.cycle ∧
    (refuseRecipe cause s).crimp = s.crimp ∧ (refuseRecipe cause s).sensor = s.sensor ∧
    (refuseRecipe cause s).dose = s.dose ∧ (refuseRecipe cause s).gas = s.gas ∧
    (refuseRecipe cause s).line.station = s.line.station ∧
    (refuseRecipe cause s).line.condition = s.line.condition ∧
    (refuseRecipe cause s).line.faultSlot = s.line.faultSlot ∧
    (refuseRecipe cause s).line.holdSlot = s.line.holdSlot ∧
    (refuseRecipe cause s).line.shutSlot = s.line.shutSlot ∧
    (refuseRecipe cause s).line.openSlot = s.line.openSlot ∧
    (refuseRecipe cause s).line.resultSlot = s.line.resultSlot ∧
    (refuseRecipe cause s).line.attempt = s.line.attempt ∧
    (refuseRecipe cause s).line.abort = s.line.abort ∧
    (refuseRecipe cause s).line.badCount = s.line.badCount ∧ (refuseRecipe cause s).draw = s.draw ∧
    (refuseRecipe cause s).hold = s.hold ∧ (refuseRecipe cause s).result = s.result ∧
    (refuseRecipe cause s).fault = s.fault :=
  by simp [refuseRecipe]

@[simp] theorem takeLoadEnd_keeps (length : Half) (s : State) :
    (takeLoadEnd length s).pending = s.pending ∧ (takeLoadEnd length s).clock = s.clock ∧
    (takeLoadEnd length s).freeCount = s.freeCount ∧ (takeLoadEnd length s).gasFb = s.gasFb ∧
    (takeLoadEnd length s).cycle.counter = s.cycle.counter ∧
    (takeLoadEnd length s).cycle.startRefusal = s.cycle.startRefusal ∧
    (takeLoadEnd length s).sensor.header = s.sensor.header ∧
    (takeLoadEnd length s).sensor.bell = s.sensor.bell ∧
    (takeLoadEnd length s).sensor.transaction = s.sensor.transaction ∧
    (takeLoadEnd length s).sensor.lastPair = s.sensor.lastPair ∧
    (takeLoadEnd length s).sensor.zeroOffset = s.sensor.zeroOffset ∧
    (takeLoadEnd length s).sensor.sample = s.sensor.sample ∧
    (takeLoadEnd length s).dose.planned = s.dose.planned ∧
    (takeLoadEnd length s).dose.elapsed = s.dose.elapsed ∧
    (takeLoadEnd length s).dose.massAtStart = s.dose.massAtStart ∧
    (takeLoadEnd length s).gas.stuckEpisode = s.gas.stuckEpisode ∧
    (takeLoadEnd length s).line.station = s.line.station ∧
    (takeLoadEnd length s).line.condition = s.line.condition ∧
    (takeLoadEnd length s).line.attempt = s.line.attempt ∧
    (takeLoadEnd length s).line.abort = s.line.abort ∧
    (takeLoadEnd length s).line.badCount = s.line.badCount :=
  by unfold takeLoadEnd; (try dsimp only); (repeat' split) <;> simp

@[simp] theorem newImage_keeps (s : State) :
    (newImage s).pending = s.pending ∧ (newImage s).clock = s.clock ∧
    (newImage s).freeCount = s.freeCount ∧ (newImage s).gasFb = s.gasFb ∧
    (newImage s).cycle.phase = s.cycle.phase ∧ (newImage s).cycle.counter = s.cycle.counter ∧
    (newImage s).cycle.stopPending = s.cycle.stopPending ∧ (newImage s).cycle.grant = s.cycle.grant ∧
    (newImage s).cycle.startRefusal = s.cycle.startRefusal ∧ (newImage s).crimp = s.crimp ∧
    (newImage s).sensor.header = s.sensor.header ∧ (newImage s).sensor.bell = s.sensor.bell ∧
    (newImage s).sensor.transaction = s.sensor.transaction ∧
    (newImage s).sensor.lastPair = s.sensor.lastPair ∧
    (newImage s).sensor.zeroOffset = s.sensor.zeroOffset ∧ (newImage s).sensor.zeroing = s.sensor.zeroing ∧
    (newImage s).sensor.zeroSamples = s.sensor.zeroSamples ∧
    (newImage s).sensor.zeroDebt = s.sensor.zeroDebt ∧ (newImage s).sensor.sample = s.sensor.sample ∧
    (newImage s).dose.running = s.dose.running ∧ (newImage s).dose.planned = s.dose.planned ∧
    (newImage s).dose.elapsed = s.dose.elapsed ∧ (newImage s).dose.massAtStart = s.dose.massAtStart ∧
    (newImage s).gas = s.gas ∧ (newImage s).line.station = s.line.station ∧
    (newImage s).line.condition = s.line.condition ∧ (newImage s).line.faultSlot = s.line.faultSlot ∧
    (newImage s).line.shutSlot = s.line.shutSlot ∧ (newImage s).line.resultSlot = s.line.resultSlot ∧
    (newImage s).line.attempt = s.line.attempt ∧ (newImage s).line.abort = s.line.abort ∧
    (newImage s).line.badCount = s.line.badCount ∧ (newImage s).result = s.result ∧
    (newImage s).fault.latched = s.fault.latched :=
  by simp [newImage]

@[simp] theorem takeLoad_keeps (offset : Byte) (data : List Byte) (s : State) :
    (takeLoad offset data s).pending = s.pending ∧ (takeLoad offset data s).clock = s.clock ∧
    (takeLoad offset data s).freeCount = s.freeCount ∧ (takeLoad offset data s).gasFb = s.gasFb ∧
    (takeLoad offset data s).cycle.phase = s.cycle.phase ∧
    (takeLoad offset data s).cycle.counter = s.cycle.counter ∧
    (takeLoad offset data s).cycle.stopPending = s.cycle.stopPending ∧
    (takeLoad offset data s).cycle.grant = s.cycle.grant ∧
    (takeLoad offset data s).cycle.startRefusal = s.cycle.startRefusal ∧
    (takeLoad offset data s).crimp = s.crimp ∧ (takeLoad offset data s).sensor.header = s.sensor.header ∧
    (takeLoad offset data s).sensor.bell = s.sensor.bell ∧
    (takeLoad offset data s).sensor.transaction = s.sensor.transaction ∧
    (takeLoad offset data s).sensor.lastPair = s.sensor.lastPair ∧
    (takeLoad offset data s).sensor.zeroOffset = s.sensor.zeroOffset ∧
    (takeLoad offset data s).sensor.zeroing = s.sensor.zeroing ∧
    (takeLoad offset data s).sensor.zeroSamples = s.sensor.zeroSamples ∧
    (takeLoad offset data s).sensor.zeroDebt = s.sensor.zeroDebt ∧
    (takeLoad offset data s).sensor.sample = s.sensor.sample ∧
    (takeLoad offset data s).dose.running = s.dose.running ∧
    (takeLoad offset data s).dose.planned = s.dose.planned ∧
    (takeLoad offset data s).dose.elapsed = s.dose.elapsed ∧
    (takeLoad offset data s).dose.massAtStart = s.dose.massAtStart ∧ (takeLoad offset data s).gas = s.gas ∧
    (takeLoad offset data s).line.station = s.line.station ∧
    (takeLoad offset data s).line.condition = s.line.condition ∧
    (takeLoad offset data s).line.faultSlot = s.line.faultSlot ∧
    (takeLoad offset data s).line.shutSlot = s.line.shutSlot ∧
    (takeLoad offset data s).line.resultSlot = s.line.resultSlot ∧
    (takeLoad offset data s).line.attempt = s.line.attempt ∧
    (takeLoad offset data s).line.abort = s.line.abort ∧
    (takeLoad offset data s).line.badCount = s.line.badCount ∧ (takeLoad offset data s).result = s.result ∧
    (takeLoad offset data s).fault.latched = s.fault.latched :=
  by unfold takeLoad; (try dsimp only); (repeat' split) <;> simp

@[simp] theorem endReception_keeps (s : State) :
    (endReception s).pending = s.pending ∧ (endReception s).clock = s.clock ∧
    (endReception s).freeCount = s.freeCount ∧ (endReception s).gasFb = s.gasFb ∧
    (endReception s).context = s.context ∧ (endReception s).cycle = s.cycle ∧
    (endReception s).crimp = s.crimp ∧ (endReception s).sensor = s.sensor ∧
    (endReception s).dose = s.dose ∧ (endReception s).gas = s.gas ∧
    (endReception s).line.station = s.line.station ∧ (endReception s).line.faultSlot = s.line.faultSlot ∧
    (endReception s).line.holdSlot = s.line.holdSlot ∧ (endReception s).line.shutSlot = s.line.shutSlot ∧
    (endReception s).line.openSlot = s.line.openSlot ∧
    (endReception s).line.statusSlot = s.line.statusSlot ∧
    (endReception s).line.resultSlot = s.line.resultSlot ∧ (endReception s).line.attempt = s.line.attempt ∧
    (endReception s).line.abort = s.line.abort ∧ (endReception s).line.badCount = s.line.badCount ∧
    (endReception s).draw = s.draw ∧ (endReception s).hold = s.hold ∧ (endReception s).result = s.result ∧
    (endReception s).recipe = s.recipe ∧ (endReception s).fault = s.fault :=
  by unfold endReception; (try dsimp only); (repeat' split) <;> simp

@[simp] theorem endGoodReception_keeps (s : State) :
    (endGoodReception s).pending = s.pending ∧ (endGoodReception s).clock = s.clock ∧
    (endGoodReception s).freeCount = s.freeCount ∧ (endGoodReception s).gasFb = s.gasFb ∧
    (endGoodReception s).context = s.context ∧ (endGoodReception s).cycle = s.cycle ∧
    (endGoodReception s).crimp = s.crimp ∧ (endGoodReception s).sensor = s.sensor ∧
    (endGoodReception s).dose = s.dose ∧ (endGoodReception s).gas = s.gas ∧
    (endGoodReception s).line.station = s.line.station ∧
    (endGoodReception s).line.faultSlot = s.line.faultSlot ∧
    (endGoodReception s).line.holdSlot = s.line.holdSlot ∧
    (endGoodReception s).line.shutSlot = s.line.shutSlot ∧
    (endGoodReception s).line.openSlot = s.line.openSlot ∧
    (endGoodReception s).line.statusSlot = s.line.statusSlot ∧
    (endGoodReception s).line.resultSlot = s.line.resultSlot ∧
    (endGoodReception s).line.attempt = s.line.attempt ∧ (endGoodReception s).line.abort = s.line.abort ∧
    (endGoodReception s).line.badCount = s.line.badCount ∧ (endGoodReception s).draw = s.draw ∧
    (endGoodReception s).hold = s.hold ∧ (endGoodReception s).result = s.result ∧
    (endGoodReception s).recipe = s.recipe ∧ (endGoodReception s).fault = s.fault :=
  by unfold endGoodReception; (try dsimp only); (repeat' split) <;> simp

@[simp] theorem countBad_keeps (s : State) :
    (countBad s).pending = s.pending ∧ (countBad s).clock = s.clock ∧
    (countBad s).freeCount = s.freeCount ∧ (countBad s).gasFb = s.gasFb ∧
    (countBad s).context = s.context ∧ (countBad s).cycle = s.cycle ∧ (countBad s).crimp = s.crimp ∧
    (countBad s).sensor = s.sensor ∧ (countBad s).dose = s.dose ∧ (countBad s).gas = s.gas ∧
    (countBad s).line.station = s.line.station ∧ (countBad s).line.condition = s.line.condition ∧
    (countBad s).line.faultSlot = s.line.faultSlot ∧ (countBad s).line.holdSlot = s.line.holdSlot ∧
    (countBad s).line.shutSlot = s.line.shutSlot ∧ (countBad s).line.openSlot = s.line.openSlot ∧
    (countBad s).line.resultSlot = s.line.resultSlot ∧ (countBad s).line.attempt = s.line.attempt ∧
    (countBad s).line.abort = s.line.abort ∧ (countBad s).draw = s.draw ∧ (countBad s).hold = s.hold ∧
    (countBad s).result = s.result ∧ (countBad s).recipe = s.recipe ∧
    (countBad s).fault.enables = s.fault.enables :=
  by unfold countBad; (try dsimp only); (repeat' split) <;> simp

@[simp] theorem badFrame_keeps (s : State) :
    (badFrame s).pending = s.pending ∧ (badFrame s).clock = s.clock ∧
    (badFrame s).freeCount = s.freeCount ∧ (badFrame s).gasFb = s.gasFb ∧ (badFrame s).cycle = s.cycle ∧
    (badFrame s).crimp = s.crimp ∧ (badFrame s).sensor = s.sensor ∧
    (badFrame s).dose.running = s.dose.running ∧ (badFrame s).dose.planned = s.dose.planned ∧
    (badFrame s).dose.elapsed = s.dose.elapsed ∧ (badFrame s).dose.massAtStart = s.dose.massAtStart ∧
    (badFrame s).gas = s.gas ∧ (badFrame s).line.station = s.line.station ∧
    (badFrame s).line.condition = s.line.condition ∧ (badFrame s).line.faultSlot = s.line.faultSlot ∧
    (badFrame s).line.holdSlot = s.line.holdSlot ∧ (badFrame s).line.shutSlot = s.line.shutSlot ∧
    (badFrame s).line.resultSlot = s.line.resultSlot ∧ (badFrame s).line.attempt = s.line.attempt ∧
    (badFrame s).line.abort = s.line.abort ∧ (badFrame s).draw.self = s.draw.self ∧
    (badFrame s).draw.keyed = s.draw.keyed ∧ (badFrame s).hold = s.hold ∧ (badFrame s).result = s.result ∧
    (badFrame s).recipe = s.recipe ∧ (badFrame s).fault.enables = s.fault.enables :=
  by simp [badFrame]

@[simp] theorem suppressHold_keeps (s : State) :
    (suppressHold s).pending = s.pending ∧ (suppressHold s).clock = s.clock ∧
    (suppressHold s).freeCount = s.freeCount ∧ (suppressHold s).gasFb = s.gasFb ∧
    (suppressHold s).context = s.context ∧ (suppressHold s).cycle = s.cycle ∧
    (suppressHold s).crimp = s.crimp ∧ (suppressHold s).sensor = s.sensor ∧
    (suppressHold s).dose = s.dose ∧ (suppressHold s).gas = s.gas ∧
    (suppressHold s).line.station = s.line.station ∧ (suppressHold s).line.condition = s.line.condition ∧
    (suppressHold s).line.faultSlot = s.line.faultSlot ∧ (suppressHold s).line.shutSlot = s.line.shutSlot ∧
    (suppressHold s).line.openSlot = s.line.openSlot ∧
    (suppressHold s).line.resultSlot = s.line.resultSlot ∧ (suppressHold s).line.attempt = s.line.attempt ∧
    (suppressHold s).line.abort = s.line.abort ∧ (suppressHold s).line.badCount = s.line.badCount ∧
    (suppressHold s).draw = s.draw ∧ (suppressHold s).result = s.result ∧
    (suppressHold s).recipe = s.recipe ∧ (suppressHold s).fault = s.fault :=
  by unfold suppressHold; (try dsimp only); (repeat' split) <;> simp

@[simp] theorem peerHolds_keeps (sender : StationNo) (q : Nat) (s : State) :
    (peerHolds sender q s).pending = s.pending ∧ (peerHolds sender q s).clock = s.clock ∧
    (peerHolds sender q s).freeCount = s.freeCount ∧ (peerHolds sender q s).gasFb = s.gasFb ∧
    (peerHolds sender q s).context = s.context ∧ (peerHolds sender q s).cycle = s.cycle ∧
    (peerHolds sender q s).crimp = s.crimp ∧ (peerHolds sender q s).sensor = s.sensor ∧
    (peerHolds sender q s).dose = s.dose ∧ (peerHolds sender q s).gas = s.gas ∧
    (peerHolds sender q s).line.station = s.line.station ∧
    (peerHolds sender q s).line.condition = s.line.condition ∧
    (peerHolds sender q s).line.faultSlot = s.line.faultSlot ∧
    (peerHolds sender q s).line.shutSlot = s.line.shutSlot ∧
    (peerHolds sender q s).line.openSlot = s.line.openSlot ∧
    (peerHolds sender q s).line.resultSlot = s.line.resultSlot ∧
    (peerHolds sender q s).line.attempt = s.line.attempt ∧
    (peerHolds sender q s).line.abort = s.line.abort ∧
    (peerHolds sender q s).line.badCount = s.line.badCount ∧ (peerHolds sender q s).draw = s.draw ∧
    (peerHolds sender q s).result = s.result ∧ (peerHolds sender q s).recipe = s.recipe ∧
    (peerHolds sender q s).fault = s.fault :=
  by unfold peerHolds; (try dsimp only); (repeat' split) <;> simp

@[simp] theorem peerReleases_keeps (sender : StationNo) (s : State) :
    (peerReleases sender s).pending = s.pending ∧ (peerReleases sender s).clock = s.clock ∧
    (peerReleases sender s).freeCount = s.freeCount ∧ (peerReleases sender s).gasFb = s.gasFb ∧
    (peerReleases sender s).cycle = s.cycle ∧ (peerReleases sender s).crimp = s.crimp ∧
    (peerReleases sender s).sensor = s.sensor ∧ (peerReleases sender s).dose.running = s.dose.running ∧
    (peerReleases sender s).dose.planned = s.dose.planned ∧
    (peerReleases sender s).dose.elapsed = s.dose.elapsed ∧
    (peerReleases sender s).dose.massAtStart = s.dose.massAtStart ∧ (peerReleases sender s).gas = s.gas ∧
    (peerReleases sender s).line.station = s.line.station ∧
    (peerReleases sender s).line.condition = s.line.condition ∧
    (peerReleases sender s).line.faultSlot = s.line.faultSlot ∧
    (peerReleases sender s).line.shutSlot = s.line.shutSlot ∧
    (peerReleases sender s).line.resultSlot = s.line.resultSlot ∧
    (peerReleases sender s).line.attempt = s.line.attempt ∧
    (peerReleases sender s).line.abort = s.line.abort ∧
    (peerReleases sender s).line.badCount = s.line.badCount ∧
    (peerReleases sender s).draw.self = s.draw.self ∧ (peerReleases sender s).draw.keyed = s.draw.keyed ∧
    (peerReleases sender s).draw.phantoms = s.draw.phantoms ∧
    (peerReleases sender s).hold.resend = s.hold.resend ∧ (peerReleases sender s).result = s.result ∧
    (peerReleases sender s).recipe = s.recipe ∧ (peerReleases sender s).fault = s.fault :=
  by unfold peerReleases; (try dsimp only); (repeat' split) <;> simp

@[simp] theorem enterRun_keeps (s : State) :
    (enterRun s).pending = s.pending ∧ (enterRun s).clock = s.clock ∧
    (enterRun s).freeCount = s.freeCount ∧ (enterRun s).gasFb = s.gasFb ∧
    (enterRun s).cycle.counter = s.cycle.counter ∧ (enterRun s).cycle.grant = s.cycle.grant ∧
    (enterRun s).crimp = s.crimp ∧ (enterRun s).sensor.header = s.sensor.header ∧
    (enterRun s).sensor.bell = s.sensor.bell ∧ (enterRun s).sensor.transaction = s.sensor.transaction ∧
    (enterRun s).sensor.lastPair = s.sensor.lastPair ∧
    (enterRun s).sensor.zeroOffset = s.sensor.zeroOffset ∧ (enterRun s).sensor.zeroing = s.sensor.zeroing ∧
    (enterRun s).sensor.zeroSamples = s.sensor.zeroSamples ∧
    (enterRun s).sensor.zeroDebt = s.sensor.zeroDebt ∧ (enterRun s).sensor.sample = s.sensor.sample ∧
    (enterRun s).dose.running = s.dose.running ∧ (enterRun s).dose.planned = s.dose.planned ∧
    (enterRun s).dose.elapsed = s.dose.elapsed ∧ (enterRun s).dose.massAtStart = s.dose.massAtStart ∧
    (enterRun s).gas = s.gas ∧ (enterRun s).line.station = s.line.station ∧
    (enterRun s).line.condition = s.line.condition ∧ (enterRun s).line.faultSlot = s.line.faultSlot ∧
    (enterRun s).line.shutSlot = s.line.shutSlot ∧ (enterRun s).line.resultSlot = s.line.resultSlot ∧
    (enterRun s).line.attempt = s.line.attempt ∧ (enterRun s).line.abort = s.line.abort ∧
    (enterRun s).line.badCount = s.line.badCount ∧ (enterRun s).result = s.result ∧
    (enterRun s).recipe = s.recipe ∧ (enterRun s).fault = s.fault :=
  by simp [enterRun]

@[simp] theorem refuseStart_keeps (s : State) :
    (refuseStart s).pending = s.pending ∧ (refuseStart s).clock = s.clock ∧
    (refuseStart s).freeCount = s.freeCount ∧ (refuseStart s).gasFb = s.gasFb ∧
    (refuseStart s).context = s.context ∧ (refuseStart s).cycle.station = s.cycle.station ∧
    (refuseStart s).cycle.phase = s.cycle.phase ∧ (refuseStart s).cycle.counter = s.cycle.counter ∧
    (refuseStart s).cycle.stopPending = s.cycle.stopPending ∧ (refuseStart s).cycle.grant = s.cycle.grant ∧
    (refuseStart s).crimp = s.crimp ∧ (refuseStart s).sensor = s.sensor ∧ (refuseStart s).dose = s.dose ∧
    (refuseStart s).gas = s.gas ∧ (refuseStart s).line.station = s.line.station ∧
    (refuseStart s).line.condition = s.line.condition ∧ (refuseStart s).line.faultSlot = s.line.faultSlot ∧
    (refuseStart s).line.holdSlot = s.line.holdSlot ∧ (refuseStart s).line.shutSlot = s.line.shutSlot ∧
    (refuseStart s).line.openSlot = s.line.openSlot ∧ (refuseStart s).line.resultSlot = s.line.resultSlot ∧
    (refuseStart s).line.attempt = s.line.attempt ∧ (refuseStart s).line.abort = s.line.abort ∧
    (refuseStart s).line.badCount = s.line.badCount ∧ (refuseStart s).draw = s.draw ∧
    (refuseStart s).hold = s.hold ∧ (refuseStart s).result = s.result ∧ (refuseStart s).recipe = s.recipe ∧
    (refuseStart s).fault = s.fault :=
  by simp [refuseStart]

@[simp] theorem takeStart_keeps (s : State) :
    (takeStart s).pending = s.pending ∧ (takeStart s).clock = s.clock ∧
    (takeStart s).freeCount = s.freeCount ∧ (takeStart s).gasFb = s.gasFb ∧
    (takeStart s).cycle.counter = s.cycle.counter ∧ (takeStart s).cycle.grant = s.cycle.grant ∧
    (takeStart s).crimp = s.crimp ∧ (takeStart s).sensor.header = s.sensor.header ∧
    (takeStart s).sensor.bell = s.sensor.bell ∧ (takeStart s).sensor.transaction = s.sensor.transaction ∧
    (takeStart s).sensor.lastPair = s.sensor.lastPair ∧
    (takeStart s).sensor.zeroOffset = s.sensor.zeroOffset ∧
    (takeStart s).sensor.zeroing = s.sensor.zeroing ∧
    (takeStart s).sensor.zeroSamples = s.sensor.zeroSamples ∧
    (takeStart s).sensor.zeroDebt = s.sensor.zeroDebt ∧ (takeStart s).sensor.sample = s.sensor.sample ∧
    (takeStart s).dose.running = s.dose.running ∧ (takeStart s).dose.planned = s.dose.planned ∧
    (takeStart s).dose.elapsed = s.dose.elapsed ∧ (takeStart s).dose.massAtStart = s.dose.massAtStart ∧
    (takeStart s).gas = s.gas ∧ (takeStart s).line.station = s.line.station ∧
    (takeStart s).line.condition = s.line.condition ∧ (takeStart s).line.faultSlot = s.line.faultSlot ∧
    (takeStart s).line.shutSlot = s.line.shutSlot ∧ (takeStart s).line.resultSlot = s.line.resultSlot ∧
    (takeStart s).line.attempt = s.line.attempt ∧ (takeStart s).line.abort = s.line.abort ∧
    (takeStart s).line.badCount = s.line.badCount ∧ (takeStart s).result = s.result ∧
    (takeStart s).recipe = s.recipe ∧ (takeStart s).fault = s.fault :=
  by unfold takeStart; (try dsimp only); (repeat' split) <;> simp

@[simp] theorem pendStop_keeps (s : State) :
    (pendStop s).pending = s.pending ∧ (pendStop s).clock = s.clock ∧
    (pendStop s).freeCount = s.freeCount ∧ (pendStop s).gasFb = s.gasFb ∧
    (pendStop s).context = s.context ∧ (pendStop s).cycle.station = s.cycle.station ∧
    (pendStop s).cycle.phase = s.cycle.phase ∧ (pendStop s).cycle.counter = s.cycle.counter ∧
    (pendStop s).cycle.grant = s.cycle.grant ∧ (pendStop s).cycle.startRefusal = s.cycle.startRefusal ∧
    (pendStop s).crimp = s.crimp ∧ (pendStop s).sensor = s.sensor ∧ (pendStop s).dose = s.dose ∧
    (pendStop s).gas = s.gas ∧ (pendStop s).line.station = s.line.station ∧
    (pendStop s).line.condition = s.line.condition ∧ (pendStop s).line.faultSlot = s.line.faultSlot ∧
    (pendStop s).line.holdSlot = s.line.holdSlot ∧ (pendStop s).line.shutSlot = s.line.shutSlot ∧
    (pendStop s).line.openSlot = s.line.openSlot ∧ (pendStop s).line.resultSlot = s.line.resultSlot ∧
    (pendStop s).line.attempt = s.line.attempt ∧ (pendStop s).line.abort = s.line.abort ∧
    (pendStop s).line.badCount = s.line.badCount ∧ (pendStop s).draw = s.draw ∧
    (pendStop s).hold = s.hold ∧ (pendStop s).result = s.result ∧ (pendStop s).recipe = s.recipe ∧
    (pendStop s).fault = s.fault :=
  by unfold pendStop; (try dsimp only); (repeat' split) <;> simp

@[simp] theorem stopNow_keeps (s : State) :
    (stopNow s).pending = s.pending ∧ (stopNow s).clock = s.clock ∧ (stopNow s).freeCount = s.freeCount ∧
    (stopNow s).gasFb = s.gasFb ∧ (stopNow s).cycle.counter = s.cycle.counter ∧
    (stopNow s).cycle.stopPending = s.cycle.stopPending ∧
    (stopNow s).cycle.startRefusal = s.cycle.startRefusal ∧ (stopNow s).crimp = s.crimp ∧
    (stopNow s).sensor.header = s.sensor.header ∧ (stopNow s).sensor.bell = s.sensor.bell ∧
    (stopNow s).sensor.transaction = s.sensor.transaction ∧
    (stopNow s).sensor.lastPair = s.sensor.lastPair ∧ (stopNow s).sensor.zeroOffset = s.sensor.zeroOffset ∧
    (stopNow s).sensor.zeroDebt = s.sensor.zeroDebt ∧ (stopNow s).sensor.sample = s.sensor.sample ∧
    (stopNow s).dose.running = s.dose.running ∧ (stopNow s).dose.planned = s.dose.planned ∧
    (stopNow s).dose.elapsed = s.dose.elapsed ∧ (stopNow s).dose.massAtStart = s.dose.massAtStart ∧
    (stopNow s).gas = s.gas ∧ (stopNow s).line.station = s.line.station ∧
    (stopNow s).line.condition = s.line.condition ∧ (stopNow s).line.faultSlot = s.line.faultSlot ∧
    (stopNow s).line.shutSlot = s.line.shutSlot ∧ (stopNow s).line.resultSlot = s.line.resultSlot ∧
    (stopNow s).line.attempt = s.line.attempt ∧ (stopNow s).line.abort = s.line.abort ∧
    (stopNow s).line.badCount = s.line.badCount ∧ (stopNow s).result = s.result ∧
    (stopNow s).recipe = s.recipe ∧ (stopNow s).fault = s.fault :=
  by simp [stopNow]

@[simp] theorem takeStop_keeps (s : State) :
    (takeStop s).pending = s.pending ∧ (takeStop s).clock = s.clock ∧
    (takeStop s).freeCount = s.freeCount ∧ (takeStop s).gasFb = s.gasFb ∧
    (takeStop s).cycle.counter = s.cycle.counter ∧ (takeStop s).cycle.startRefusal = s.cycle.startRefusal ∧
    (takeStop s).crimp = s.crimp ∧ (takeStop s).sensor.header = s.sensor.header ∧
    (takeStop s).sensor.bell = s.sensor.bell ∧ (takeStop s).sensor.transaction = s.sensor.transaction ∧
    (takeStop s).sensor.lastPair = s.sensor.lastPair ∧
    (takeStop s).sensor.zeroOffset = s.sensor.zeroOffset ∧
    (takeStop s).sensor.zeroDebt = s.sensor.zeroDebt ∧ (takeStop s).sensor.sample = s.sensor.sample ∧
    (takeStop s).dose.running = s.dose.running ∧ (takeStop s).dose.planned = s.dose.planned ∧
    (takeStop s).dose.elapsed = s.dose.elapsed ∧ (takeStop s).dose.massAtStart = s.dose.massAtStart ∧
    (takeStop s).gas = s.gas ∧ (takeStop s).line.station = s.line.station ∧
    (takeStop s).line.condition = s.line.condition ∧ (takeStop s).line.faultSlot = s.line.faultSlot ∧
    (takeStop s).line.shutSlot = s.line.shutSlot ∧ (takeStop s).line.resultSlot = s.line.resultSlot ∧
    (takeStop s).line.attempt = s.line.attempt ∧ (takeStop s).line.abort = s.line.abort ∧
    (takeStop s).line.badCount = s.line.badCount ∧ (takeStop s).result = s.result ∧
    (takeStop s).recipe = s.recipe ∧ (takeStop s).fault = s.fault :=
  by unfold takeStop; (try dsimp only); (repeat' split) <;> simp

@[simp] theorem clearOne_keeps (cells : Half) (s : State) (c : Cell) :
    (clearOne cells s c).pending = s.pending ∧ (clearOne cells s c).clock = s.clock ∧
    (clearOne cells s c).freeCount = s.freeCount ∧ (clearOne cells s c).gasFb = s.gasFb ∧
    (clearOne cells s c).context = s.context ∧ (clearOne cells s c).cycle = s.cycle ∧
    (clearOne cells s c).crimp = s.crimp ∧ (clearOne cells s c).sensor = s.sensor ∧
    (clearOne cells s c).dose = s.dose ∧ (clearOne cells s c).gas = s.gas ∧
    (clearOne cells s c).line = s.line ∧ (clearOne cells s c).draw = s.draw ∧
    (clearOne cells s c).hold = s.hold ∧ (clearOne cells s c).result = s.result ∧
    (clearOne cells s c).recipe = s.recipe ∧ (clearOne cells s c).fault.enables = s.fault.enables ∧
    (clearOne cells s c).fault.alert = s.fault.alert :=
  by unfold clearOne; (try dsimp only); (repeat' split) <;> simp

@[simp] theorem clearFold_keeps (cells : Half) (l : List Cell) (s : State) :
    (l.foldl (clearOne cells) s).pending = s.pending ∧ (l.foldl (clearOne cells) s).clock = s.clock ∧
    (l.foldl (clearOne cells) s).freeCount = s.freeCount ∧ (l.foldl (clearOne cells) s).gasFb = s.gasFb ∧
    (l.foldl (clearOne cells) s).context = s.context ∧ (l.foldl (clearOne cells) s).cycle = s.cycle ∧
    (l.foldl (clearOne cells) s).crimp = s.crimp ∧ (l.foldl (clearOne cells) s).sensor = s.sensor ∧
    (l.foldl (clearOne cells) s).dose = s.dose ∧ (l.foldl (clearOne cells) s).gas = s.gas ∧
    (l.foldl (clearOne cells) s).line = s.line ∧ (l.foldl (clearOne cells) s).draw = s.draw ∧
    (l.foldl (clearOne cells) s).hold = s.hold ∧ (l.foldl (clearOne cells) s).result = s.result ∧
    (l.foldl (clearOne cells) s).recipe = s.recipe ∧ (l.foldl (clearOne cells) s).fault.enables = s.fault.enables ∧
    (l.foldl (clearOne cells) s).fault.alert = s.fault.alert :=
  by
  induction l generalizing s with
  | nil => simp
  | cons c rest ih => simpa using ih (clearOne cells s c)

@[simp] theorem takeClear_keeps (cells : Half) (s : State) :
    (takeClear cells s).pending = s.pending ∧ (takeClear cells s).clock = s.clock ∧
    (takeClear cells s).freeCount = s.freeCount ∧ (takeClear cells s).gasFb = s.gasFb ∧
    (takeClear cells s).cycle.phase = s.cycle.phase ∧ (takeClear cells s).cycle.counter = s.cycle.counter ∧
    (takeClear cells s).cycle.stopPending = s.cycle.stopPending ∧
    (takeClear cells s).cycle.grant = s.cycle.grant ∧
    (takeClear cells s).cycle.startRefusal = s.cycle.startRefusal ∧ (takeClear cells s).crimp = s.crimp ∧
    (takeClear cells s).sensor.header = s.sensor.header ∧ (takeClear cells s).sensor.bell = s.sensor.bell ∧
    (takeClear cells s).sensor.transaction = s.sensor.transaction ∧
    (takeClear cells s).sensor.lastPair = s.sensor.lastPair ∧
    (takeClear cells s).sensor.zeroOffset = s.sensor.zeroOffset ∧
    (takeClear cells s).sensor.zeroing = s.sensor.zeroing ∧
    (takeClear cells s).sensor.zeroSamples = s.sensor.zeroSamples ∧
    (takeClear cells s).sensor.zeroDebt = s.sensor.zeroDebt ∧
    (takeClear cells s).sensor.sample = s.sensor.sample ∧
    (takeClear cells s).dose.running = s.dose.running ∧ (takeClear cells s).dose.planned = s.dose.planned ∧
    (takeClear cells s).dose.elapsed = s.dose.elapsed ∧
    (takeClear cells s).dose.massAtStart = s.dose.massAtStart ∧ (takeClear cells s).gas = s.gas ∧
    (takeClear cells s).line.station = s.line.station ∧
    (takeClear cells s).line.condition = s.line.condition ∧
    (takeClear cells s).line.faultSlot = s.line.faultSlot ∧
    (takeClear cells s).line.shutSlot = s.line.shutSlot ∧
    (takeClear cells s).line.resultSlot = s.line.resultSlot ∧
    (takeClear cells s).line.attempt = s.line.attempt ∧ (takeClear cells s).line.abort = s.line.abort ∧
    (takeClear cells s).line.badCount = s.line.badCount ∧ (takeClear cells s).result = s.result ∧
    (takeClear cells s).recipe = s.recipe ∧ (takeClear cells s).fault.enables = s.fault.enables :=
  by unfold takeClear; (try dsimp only); (repeat' split) <;> simp

@[simp] theorem countDrawTable_keeps (s : State) :
    (countDrawTable s).pending = s.pending ∧ (countDrawTable s).clock = s.clock ∧
    (countDrawTable s).freeCount = s.freeCount ∧ (countDrawTable s).gasFb = s.gasFb ∧
    (countDrawTable s).cycle = s.cycle ∧ (countDrawTable s).crimp = s.crimp ∧
    (countDrawTable s).sensor = s.sensor ∧ (countDrawTable s).dose.running = s.dose.running ∧
    (countDrawTable s).dose.planned = s.dose.planned ∧ (countDrawTable s).dose.elapsed = s.dose.elapsed ∧
    (countDrawTable s).dose.massAtStart = s.dose.massAtStart ∧ (countDrawTable s).gas = s.gas ∧
    (countDrawTable s).line.station = s.line.station ∧
    (countDrawTable s).line.condition = s.line.condition ∧
    (countDrawTable s).line.faultSlot = s.line.faultSlot ∧
    (countDrawTable s).line.holdSlot = s.line.holdSlot ∧
    (countDrawTable s).line.shutSlot = s.line.shutSlot ∧
    (countDrawTable s).line.statusSlot = s.line.statusSlot ∧
    (countDrawTable s).line.resultSlot = s.line.resultSlot ∧
    (countDrawTable s).line.attempt = s.line.attempt ∧ (countDrawTable s).line.abort = s.line.abort ∧
    (countDrawTable s).line.badCount = s.line.badCount ∧ (countDrawTable s).hold = s.hold ∧
    (countDrawTable s).result = s.result ∧ (countDrawTable s).recipe = s.recipe ∧
    (countDrawTable s).fault = s.fault :=
  by unfold countDrawTable; (try dsimp only); (repeat' split) <;> simp

@[simp] theorem ownEntryExpired_keeps (s : State) :
    (ownEntryExpired s).pending = s.pending ∧ (ownEntryExpired s).clock = s.clock ∧
    (ownEntryExpired s).freeCount = s.freeCount ∧ (ownEntryExpired s).gasFb = s.gasFb ∧
    (ownEntryExpired s).cycle = s.cycle ∧ (ownEntryExpired s).crimp = s.crimp ∧
    (ownEntryExpired s).sensor = s.sensor ∧ (ownEntryExpired s).dose.running = s.dose.running ∧
    (ownEntryExpired s).dose.planned = s.dose.planned ∧ (ownEntryExpired s).dose.elapsed = s.dose.elapsed ∧
    (ownEntryExpired s).dose.massAtStart = s.dose.massAtStart ∧ (ownEntryExpired s).gas = s.gas ∧
    (ownEntryExpired s).line.station = s.line.station ∧
    (ownEntryExpired s).line.condition = s.line.condition ∧
    (ownEntryExpired s).line.faultSlot = s.line.faultSlot ∧
    (ownEntryExpired s).line.shutSlot = s.line.shutSlot ∧
    (ownEntryExpired s).line.resultSlot = s.line.resultSlot ∧
    (ownEntryExpired s).line.attempt = s.line.attempt ∧ (ownEntryExpired s).line.abort = s.line.abort ∧
    (ownEntryExpired s).line.badCount = s.line.badCount ∧ (ownEntryExpired s).draw.self = s.draw.self ∧
    (ownEntryExpired s).draw.keyed = s.draw.keyed ∧ (ownEntryExpired s).draw.phantoms = s.draw.phantoms ∧
    (ownEntryExpired s).result = s.result ∧ (ownEntryExpired s).recipe = s.recipe ∧
    (ownEntryExpired s).fault = s.fault :=
  by simp [ownEntryExpired]

/-- What a quantum's end can do: the own entry's expiry, the last entry's, another entry's with some standing, or
none. -/
theorem countHoldTable_cases (s : State) :
    let counted : State :=
      { s with hold := { s.hold with table := tableUpdate countOne s.hold.table } }
    (s.hold.asserted = true ∧ (tableGet s.ownKey s.hold.table).isSome = true
        ∧ tableGet s.ownKey counted.hold.table = none
        ∧ countHoldTable s = ownEntryExpired counted)
      ∨ (counted.hold.table.length < s.hold.table.length ∧ counted.hold.table = []
        ∧ countHoldTable s = testAssertion (retest counted))
      ∨ (counted.hold.table.length < s.hold.table.length ∧ counted.hold.table ≠ []
        ∧ countHoldTable s = retest counted)
      ∨ (s.hold.table.length ≤ counted.hold.table.length ∧ countHoldTable s = counted) := by
  simp only [countHoldTable, holdRemoved, decide_eq_true_eq, List.isEmpty_iff]
  (repeat' split) <;> simp_all

@[simp] theorem countHoldTable_keeps (s : State) :
    (countHoldTable s).pending = s.pending ∧ (countHoldTable s).clock = s.clock ∧
    (countHoldTable s).freeCount = s.freeCount ∧ (countHoldTable s).gasFb = s.gasFb ∧
    (countHoldTable s).cycle = s.cycle ∧ (countHoldTable s).crimp = s.crimp ∧
    (countHoldTable s).sensor = s.sensor ∧ (countHoldTable s).dose.running = s.dose.running ∧
    (countHoldTable s).dose.planned = s.dose.planned ∧ (countHoldTable s).dose.elapsed = s.dose.elapsed ∧
    (countHoldTable s).dose.massAtStart = s.dose.massAtStart ∧ (countHoldTable s).gas = s.gas ∧
    (countHoldTable s).line.station = s.line.station ∧
    (countHoldTable s).line.condition = s.line.condition ∧
    (countHoldTable s).line.faultSlot = s.line.faultSlot ∧
    (countHoldTable s).line.shutSlot = s.line.shutSlot ∧
    (countHoldTable s).line.resultSlot = s.line.resultSlot ∧
    (countHoldTable s).line.attempt = s.line.attempt ∧ (countHoldTable s).line.abort = s.line.abort ∧
    (countHoldTable s).line.badCount = s.line.badCount ∧ (countHoldTable s).draw.self = s.draw.self ∧
    (countHoldTable s).draw.keyed = s.draw.keyed ∧ (countHoldTable s).draw.phantoms = s.draw.phantoms ∧
    (countHoldTable s).result = s.result ∧ (countHoldTable s).recipe = s.recipe ∧
    (countHoldTable s).fault = s.fault :=
  by unfold countHoldTable; (try dsimp only); (repeat' split) <;> simp

@[simp] theorem resendHold_keeps (s : State) :
    (resendHold s).pending = s.pending ∧ (resendHold s).clock = s.clock ∧
    (resendHold s).freeCount = s.freeCount ∧ (resendHold s).gasFb = s.gasFb ∧
    (resendHold s).cycle = s.cycle ∧ (resendHold s).crimp = s.crimp ∧ (resendHold s).sensor = s.sensor ∧
    (resendHold s).dose.running = s.dose.running ∧ (resendHold s).dose.planned = s.dose.planned ∧
    (resendHold s).dose.elapsed = s.dose.elapsed ∧ (resendHold s).dose.massAtStart = s.dose.massAtStart ∧
    (resendHold s).gas = s.gas ∧ (resendHold s).line.station = s.line.station ∧
    (resendHold s).line.condition = s.line.condition ∧ (resendHold s).line.faultSlot = s.line.faultSlot ∧
    (resendHold s).line.shutSlot = s.line.shutSlot ∧ (resendHold s).line.statusSlot = s.line.statusSlot ∧
    (resendHold s).line.resultSlot = s.line.resultSlot ∧ (resendHold s).line.attempt = s.line.attempt ∧
    (resendHold s).line.abort = s.line.abort ∧ (resendHold s).line.badCount = s.line.badCount ∧
    (resendHold s).draw.self = s.draw.self ∧ (resendHold s).draw.keyed = s.draw.keyed ∧
    (resendHold s).draw.phantoms = s.draw.phantoms ∧ (resendHold s).hold.asserted = s.hold.asserted ∧
    (resendHold s).result = s.result ∧ (resendHold s).recipe = s.recipe ∧ (resendHold s).fault = s.fault :=
  by simp [resendHold]

end Sys2Proof.Machine
end

