-- ==== Sys2Proof/Laws/Reception.lean ====
section
/-!
SUPPORT. What a received frame can do, said once; what an offer at a line idle leaves unchanged; and what the
moves of the station and the reports of class A cells leave of the class F cells.
-/

namespace Sys2Proof.Machine

/-- Everything a received frame can do (R114, R115): the bad frame's handling; or, judged good, the repeated
admission test alone, the DUPLICATE report, or the action of its kind, each with the bad count at 0. -/
theorem receive_cases {P : State → Prop} {k sender target zone good act s}
    (hbad : P (badFrame (endReception s)))
    (hgood : ∀ u, u =
      { endGoodReception s with line := { (endGoodReception s).line with badCount := 0 } } →
      P (retest u) ∧ P (retest (reportF .duplicate u)) ∧
      (good = true → u.dispatches k target zone = true → sender ≠ u.line.station →
        u.strapsValid = true → P (retest (act u)))) :
    P (receive k sender target zone good act s) := by
  unfold receive
  split
  · unfold filterGood
    obtain ⟨h1, h2, h3⟩ := hgood _ rfl
    simp only
    split
    · split
      · exact h2
      · split
        · exact h3 ‹_› ‹_› ‹_› ‹_›
        · exact h1
    · exact h1
  · exact hbad

/-! ## Offers at a line idle -/

@[simp] theorem offerOpen_keeps (s : State) :
    (offerOpen s).2.pending = s.pending ∧ (offerOpen s).2.clock = s.clock ∧
    (offerOpen s).2.freeCount = s.freeCount ∧ (offerOpen s).2.gasFb = s.gasFb ∧
    (offerOpen s).2.cycle = s.cycle ∧ (offerOpen s).2.crimp = s.crimp ∧
    (offerOpen s).2.sensor = s.sensor ∧ (offerOpen s).2.hold = s.hold ∧
    (offerOpen s).2.result = s.result ∧ (offerOpen s).2.recipe = s.recipe ∧
    (offerOpen s).2.fault = s.fault ∧ (offerOpen s).2.line.station = s.line.station ∧
    (offerOpen s).2.line.attempt = s.line.attempt ∧ (offerOpen s).2.draw.self = s.draw.self ∧
    (offerOpen s).2.draw.keyed = s.draw.keyed ∧ (offerOpen s).2.draw.phantoms = s.draw.phantoms ∧
    (offerOpen s).2.dose.massAtStart = s.dose.massAtStart ∧
    (offerOpen s).2.gas.closeWindow = s.gas.closeWindow ∧
    (offerOpen s).2.gas.stuckEpisode = s.gas.stuckEpisode := by
  unfold offerOpen; (repeat' split) <;> simp

@[simp] theorem offerSlots_keeps (l : List SlotKind) (s : State) :
    (offerSlots l s).pending = s.pending ∧ (offerSlots l s).clock = s.clock ∧
    (offerSlots l s).freeCount = s.freeCount ∧ (offerSlots l s).gasFb = s.gasFb ∧
    (offerSlots l s).cycle = s.cycle ∧ (offerSlots l s).crimp = s.crimp ∧
    (offerSlots l s).sensor = s.sensor ∧ (offerSlots l s).hold = s.hold ∧
    (offerSlots l s).result.queue = s.result.queue ∧
    (offerSlots l s).result.dropCount = s.result.dropCount ∧
    (offerSlots l s).result.sequence = s.result.sequence ∧
    (offerSlots l s).result.rejectRun = s.result.rejectRun ∧
    (offerSlots l s).recipe = s.recipe ∧ (offerSlots l s).fault = s.fault ∧
    (offerSlots l s).line.station = s.line.station ∧ (offerSlots l s).draw.self = s.draw.self ∧
    (offerSlots l s).draw.keyed = s.draw.keyed ∧ (offerSlots l s).draw.phantoms = s.draw.phantoms ∧
    (offerSlots l s).dose.massAtStart = s.dose.massAtStart ∧
    (offerSlots l s).gas.closeWindow = s.gas.closeWindow ∧
    (offerSlots l s).gas.stuckEpisode = s.gas.stuckEpisode := by
  induction l generalizing s with
  | nil => simp [offerSlots]
  | cons k rest ih =>
    unfold offerSlots
    have h := offerOpen_keeps s
    (repeat' split) <;> simp_all

/-! ## The station and the class F cells -/

@[simp] theorem moveTo_station (a : Station) (s : State) : (moveTo a s).cycle.station = a := by
  simp [moveTo]

@[simp] theorem enterFaulted_station (s : State) : (enterFaulted s).cycle.station = .faulted := by
  simp [enterFaulted]

theorem anyClassF_latch (c : Cell) (l : BitVec 10) (h : classF c = false) :
    anyClassF (latchCell c l) = anyClassF l := by
  have key : ∀ k, 6 ≤ k → k < 10 → (l ||| BitVec.twoPow 10 k).extractLsb' 0 6 = l.extractLsb' 0 6 := by
    intro k h1 h2
    ext i hi
    simp only [BitVec.getElem_extractLsb', BitVec.getLsbD_or, BitVec.getLsbD_twoPow]
    simp; omega
  unfold anyClassF latchCell
  rw [key]
  all_goals cases c <;> simp_all [classF, cellNumber]

theorem anyClassF_clear (c : Cell) (l : BitVec 10) (h : anyClassF (clearCell c l) = true) :
    anyClassF l = true := by
  unfold anyClassF clearCell at *
  simp only [bne_iff_ne, ne_eq] at *
  intro h0
  apply h
  ext i hi
  have := congrArg (fun v => v.getLsbD i) h0
  simp [hi] at this ⊢
  have h10 : i < 10 := by omega
  simp [this]

@[simp] theorem reportA_anyF (c : Cell) (s : State) (hc : classF c = false) :
    anyClassF (reportA c s).fault.latched = anyClassF s.fault.latched := by
  unfold reportA; split
  · rfl
  · simp [latch, anyClassF_latch c _ hc]

@[simp] theorem classF_A :
    classF .markOrder = false ∧ classF .zeroDrift = false ∧ classF .lineNoisy = false ∧
      classF .rejectRun = false := by decide

@[simp] theorem countReject_anyF (r : Reason) (s : State) :
    anyClassF (countReject r s).fault.latched = anyClassF s.fault.latched := by
  unfold countReject; (try dsimp only); (repeat' split) <;> simp_all (maxDischargeDepth := 9)

@[simp] theorem closeContext_anyF (s : State) :
    anyClassF (closeContext s).fault.latched = anyClassF s.fault.latched := by
  unfold closeContext; (try dsimp only); (repeat' split) <;> simp_all (maxDischargeDepth := 9)

@[simp] theorem abandonContext_anyF (s : State) :
    anyClassF (abandonContext s).fault.latched = anyClassF s.fault.latched := by
  unfold abandonContext; (try dsimp only); (repeat' split) <;> simp_all (maxDischargeDepth := 9)

@[simp] theorem enterFaulted_anyF (s : State) :
    anyClassF (enterFaulted s).fault.latched = anyClassF s.fault.latched := by
  unfold enterFaulted; (try dsimp only); (repeat' split) <;> simp_all (maxDischargeDepth := 9)

@[simp] theorem passPocket_anyF (canPresent : Bool) (r : Reason) (s : State) :
    anyClassF (passPocket canPresent r s).fault.latched = anyClassF s.fault.latched := by
  unfold passPocket; (try dsimp only); (repeat' split) <;> simp_all (maxDischargeDepth := 9)

@[simp] theorem decidePocket_anyF (canPresent : Bool) (s : State) :
    anyClassF (decidePocket canPresent s).fault.latched = anyClassF s.fault.latched := by
  unfold decidePocket; (try dsimp only); (repeat' split) <;> simp_all (maxDischargeDepth := 9)

@[simp] theorem startCycle_anyF (canPresent : Bool) (s : State) :
    anyClassF (startCycle canPresent s).fault.latched = anyClassF s.fault.latched := by
  unfold startCycle; (try dsimp only); (repeat' split) <;> simp_all (maxDischargeDepth := 9)

@[simp] theorem recordStopped_anyF (canPresent : Bool) (r : Reason) (s : State) :
    anyClassF (recordStopped canPresent r s).fault.latched = anyClassF s.fault.latched := by
  unfold recordStopped; (try dsimp only); (repeat' split) <;> simp_all (maxDischargeDepth := 9)

@[simp] theorem closeOutOfOrder_anyF (s : State) :
    anyClassF (closeOutOfOrder s).fault.latched = anyClassF s.fault.latched := by
  unfold closeOutOfOrder; (try dsimp only); (repeat' split) <;> simp_all (maxDischargeDepth := 9)

@[simp] theorem handleAgain_anyF (canPresent : Bool) (s : State) :
    anyClassF (handleAgain canPresent s).fault.latched = anyClassF s.fault.latched := by
  unfold handleAgain; (try dsimp only); (repeat' split) <;> simp_all (maxDischargeDepth := 9)

@[simp] theorem infeedOutOfOrder_anyF (canPresent : Bool) (s : State) :
    anyClassF (infeedOutOfOrder canPresent s).fault.latched = anyClassF s.fault.latched := by
  unfold infeedOutOfOrder; (try dsimp only); (repeat' split) <;> simp_all (maxDischargeDepth := 9)

@[simp] theorem wake_anyF (canPresent : Bool) (s : State) :
    anyClassF (wake canPresent s).fault.latched = anyClassF s.fault.latched := by
  unfold wake; (try dsimp only); (repeat' split) <;> simp_all (maxDischargeDepth := 9)

@[simp] theorem discharge_anyF (s : State) :
    anyClassF (discharge s).fault.latched = anyClassF s.fault.latched := by
  unfold discharge; (try dsimp only); (repeat' split) <;> simp_all (maxDischargeDepth := 9)

@[simp] theorem dischargeEarly_anyF (s : State) :
    anyClassF (dischargeEarly s).fault.latched = anyClassF s.fault.latched := by
  unfold dischargeEarly; (try dsimp only); (repeat' split) <;> simp_all (maxDischargeDepth := 9)

@[simp] theorem takeDischarge_anyF (s : State) :
    anyClassF (takeDischarge s).fault.latched = anyClassF s.fault.latched := by
  unfold takeDischarge; (try dsimp only); (repeat' split) <;> simp_all (maxDischargeDepth := 9)

@[simp] theorem applyZeroing_anyF (s : State) :
    anyClassF (applyZeroing s).fault.latched = anyClassF s.fault.latched := by
  unfold applyZeroing; (try dsimp only); (repeat' split) <;> simp_all (maxDischargeDepth := 9)

@[simp] theorem countBad_anyF (s : State) :
    anyClassF (countBad s).fault.latched = anyClassF s.fault.latched := by
  unfold countBad; (try dsimp only); (repeat' split) <;> simp_all (maxDischargeDepth := 9)

@[simp] theorem badFrame_anyF (s : State) :
    anyClassF (badFrame s).fault.latched = anyClassF s.fault.latched := by
  unfold badFrame; (try dsimp only); (repeat' split) <;> simp_all (maxDischargeDepth := 9)

end Sys2Proof.Machine
end

