-- ==== Sys2Proof/Laws/Scan.lean ====
section
/-!
SUPPORT. What the clock's operations do: a timer against its limit, the scan's start, a tick, and the end of a
transaction. One lemma a function says everything it can do; the others say what it keeps, field by field.
-/

namespace Sys2Proof.Machine

/-! ## A timer against its limit -/

@[simp] theorem reached_iff (clock start limit : Nat) :
    reached clock start limit = true ↔ start + limit * 500 ≤ clock := by
  exact decide_eq_true_iff

@[simp] theorem hasExpired_none (clock limit : Nat) : hasExpired clock none limit = false := rfl

@[simp] theorem hasExpired_some (clock start limit : Nat) :
    hasExpired clock (some start) limit = reached clock start limit := rfl

theorem hasExpired_iff (clock : Nat) (since : Option Nat) (limit : Nat) :
    hasExpired clock since limit = true ↔
      ∃ start, since = some start ∧ start + limit * 500 ≤ clock := by
  cases since <;> simp

@[simp] theorem mem_whenDue (due : Bool) (c d : Instr) :
    d ∈ whenDue due c ↔ due = true ∧ d = c := by
  unfold whenDue; split <;> simp_all

/-! ## The scan's start -/

/-- What the scan can do at a reading of the clock: begin the pair, begin its bell transaction, or set the rate
alone. -/
theorem startScan_cases (s : State) :
    (s.pairBegins = true ∧
      startScan s =
        { s with
          sensor :=
            { s.sensor with
              scan := s.rateNow, transaction := some (s.beginTransaction .header)
              lastPair := some s.clock } })
    ∨ (s.pairBegins = false ∧ s.bellBegins = true ∧
      startScan s =
        { s with
          sensor :=
            { s.sensor with
              scan := s.rateNow, transaction := some (s.beginTransaction .bell) } })
    ∨ (s.pairBegins = false ∧ s.bellBegins = false ∧
      startScan s = { s with sensor := { s.sensor with scan := s.rateNow } }) := by
  unfold startScan
  cases h : s.pairBegins <;> cases g : s.bellBegins <;> simp

@[simp] theorem startScan_pending (s : State) : (startScan s).pending = s.pending := rfl
@[simp] theorem startScan_clock (s : State) : (startScan s).clock = s.clock := rfl
@[simp] theorem startScan_freeCount (s : State) : (startScan s).freeCount = s.freeCount := rfl
@[simp] theorem startScan_gasFb (s : State) : (startScan s).gasFb = s.gasFb := rfl
@[simp] theorem startScan_context (s : State) : (startScan s).context = s.context := rfl
@[simp] theorem startScan_cycle (s : State) : (startScan s).cycle = s.cycle := rfl
@[simp] theorem startScan_crimp (s : State) : (startScan s).crimp = s.crimp := rfl
@[simp] theorem startScan_dose (s : State) : (startScan s).dose = s.dose := rfl
@[simp] theorem startScan_gas (s : State) : (startScan s).gas = s.gas := rfl
@[simp] theorem startScan_line (s : State) : (startScan s).line = s.line := rfl
@[simp] theorem startScan_draw (s : State) : (startScan s).draw = s.draw := rfl
@[simp] theorem startScan_hold (s : State) : (startScan s).hold = s.hold := rfl
@[simp] theorem startScan_result (s : State) : (startScan s).result = s.result := rfl
@[simp] theorem startScan_recipe (s : State) : (startScan s).recipe = s.recipe := rfl
@[simp] theorem startScan_fault (s : State) : (startScan s).fault = s.fault := rfl

@[simp] theorem startScan_sensor_header (s : State) :
    (startScan s).sensor.header = s.sensor.header := by
  simp only [startScan]; (repeat' split) <;> rfl

@[simp] theorem startScan_sensor_bell (s : State) :
    (startScan s).sensor.bell = s.sensor.bell := by
  simp only [startScan]; (repeat' split) <;> rfl

@[simp] theorem startScan_sensor_zeroOffset (s : State) :
    (startScan s).sensor.zeroOffset = s.sensor.zeroOffset := by
  simp only [startScan]; (repeat' split) <;> rfl

@[simp] theorem startScan_sensor_zeroing (s : State) :
    (startScan s).sensor.zeroing = s.sensor.zeroing := by
  simp only [startScan]; (repeat' split) <;> rfl

@[simp] theorem startScan_sensor_zeroSamples (s : State) :
    (startScan s).sensor.zeroSamples = s.sensor.zeroSamples := by
  simp only [startScan]; (repeat' split) <;> rfl

@[simp] theorem startScan_sensor_zeroDebt (s : State) :
    (startScan s).sensor.zeroDebt = s.sensor.zeroDebt := by
  simp only [startScan]; (repeat' split) <;> rfl

@[simp] theorem startScan_sensor_closings (s : State) :
    (startScan s).sensor.closings = s.sensor.closings := by
  simp only [startScan]; (repeat' split) <;> rfl

@[simp] theorem startScan_sensor_sample (s : State) :
    (startScan s).sensor.sample = s.sensor.sample := by
  simp only [startScan]; (repeat' split) <;> rfl

@[simp] theorem startScan_sensor_headerLostDue (s : State) :
    (startScan s).sensor.headerLostDue = s.sensor.headerLostDue := by
  simp only [startScan]; (repeat' split) <;> rfl

/-! ## A tick -/

/-- A tick is the scan's start, the bit of TL read, one bit time, and the events due at the new reading and those of
the bit put into the queue. -/
theorem tick_eq (s : State) :
    tick s =
      (let recessive := Config.lineReadsRecessive s.clock
      let t := { startScan s with clock := s.clock + 1, line := readBit recessive s.line }
      { t with pending := s.pending ++ dueEvents t ++ lineEvents recessive s }) := rfl

@[simp] theorem tick_freeCount (s : State) : (tick s).freeCount = s.freeCount := rfl
@[simp] theorem tick_gasFb (s : State) : (tick s).gasFb = s.gasFb := rfl
@[simp] theorem tick_context (s : State) : (tick s).context = s.context := rfl
@[simp] theorem tick_cycle (s : State) : (tick s).cycle = s.cycle := rfl
@[simp] theorem tick_crimp (s : State) : (tick s).crimp = s.crimp := rfl
@[simp] theorem tick_dose (s : State) : (tick s).dose = s.dose := rfl
@[simp] theorem tick_gas (s : State) : (tick s).gas = s.gas := rfl
@[simp] theorem tick_line (s : State) :
    (tick s).line = readBit (Config.lineReadsRecessive s.clock) s.line := rfl
@[simp] theorem tick_draw (s : State) : (tick s).draw = s.draw := rfl
@[simp] theorem tick_hold (s : State) : (tick s).hold = s.hold := rfl
@[simp] theorem tick_result (s : State) : (tick s).result = s.result := rfl
@[simp] theorem tick_recipe (s : State) : (tick s).recipe = s.recipe := rfl
@[simp] theorem tick_fault (s : State) : (tick s).fault = s.fault := rfl
@[simp] theorem tick_clock (s : State) : (tick s).clock = s.clock + 1 := rfl

@[simp] theorem tick_sensor_header (s : State) : (tick s).sensor.header = s.sensor.header :=
  startScan_sensor_header s

@[simp] theorem tick_sensor_bell (s : State) : (tick s).sensor.bell = s.sensor.bell :=
  startScan_sensor_bell s

@[simp] theorem tick_sensor_zeroOffset (s : State) : (tick s).sensor.zeroOffset = s.sensor.zeroOffset :=
  startScan_sensor_zeroOffset s

@[simp] theorem tick_sensor_zeroing (s : State) : (tick s).sensor.zeroing = s.sensor.zeroing :=
  startScan_sensor_zeroing s

@[simp] theorem tick_sensor_zeroSamples (s : State) : (tick s).sensor.zeroSamples = s.sensor.zeroSamples :=
  startScan_sensor_zeroSamples s

@[simp] theorem tick_sensor_zeroDebt (s : State) : (tick s).sensor.zeroDebt = s.sensor.zeroDebt :=
  startScan_sensor_zeroDebt s

@[simp] theorem tick_sensor_closings (s : State) : (tick s).sensor.closings = s.sensor.closings :=
  startScan_sensor_closings s

@[simp] theorem tick_sensor_sample (s : State) : (tick s).sensor.sample = s.sensor.sample :=
  startScan_sensor_sample s

@[simp] theorem tick_sensor_headerLostDue (s : State) : (tick s).sensor.headerLostDue = s.sensor.headerLostDue :=
  startScan_sensor_headerLostDue s

/-! ## The end of a transaction -/

@[simp] theorem endTransaction_of_none (c : Channel) (r : SensorReply) (s : State)
    (h : s.sensor.transaction = none) : endTransaction c r s = s := by
  simp [endTransaction, h]

theorem endTransaction_of_ne (c : Channel) (r : SensorReply) (s : State) (x : Transaction)
    (h : s.sensor.transaction = some x) (hc : x.channel ≠ c) : endTransaction c r s = s := by
  simp [endTransaction, h, hc]

/-- The end of the transaction in progress: the header's sets its channel, the bell's its own and completes the
sample, with the park conditions tested again. -/
theorem endTransaction_of_some (r : SensorReply) (s : State) (c : Channel) (since : Nat) (made : Bool)
    (h : s.sensor.transaction = some { channel := c, since := since, startMade := made }) :
    endTransaction c r s =
      (let u := { s with sensor := { s.sensor with transaction := none } }
      match c with
      | .header => endHeaderTransaction (takenReply made r) u
      | .bell => parkTest (endBellTransaction (takenReply made r) u)) := by
  cases c <;> simp [endTransaction, h]

@[simp] theorem takenReply_true (r : SensorReply) : takenReply true r = r := by
  simp [takenReply]

/-- A transaction whose start could not be made is missed, whatever the command says the link showed. -/
@[simp] theorem replyGood_takenReply (made : Bool) (r : SensorReply) :
    replyGood (takenReply made r) = (made && replyGood r) := by
  cases made <;> simp [takenReply, replyGood]

@[simp] theorem replyReading_takenReply (made : Bool) (r : SensorReply) :
    replyReading (takenReply made r) = replyReading r := rfl

/-! ## The link -/

/-- A transaction whose start could not be made leaves the link at rest. -/
theorem linkDrive_of_not_made (s : State) (x : Transaction) (h : s.sensor.transaction = some x)
    (hm : x.startMade = false) : s.linkDrive = { scl := true, sda := true } := by
  simp [State.linkDrive, h, hm, linkIdle]

@[simp] theorem linkDrive_of_none (s : State) (h : s.sensor.transaction = none) :
    s.linkDrive = { scl := true, sda := true } := by
  simp [State.linkDrive, h, linkIdle]

@[simp] theorem length_bitsOf (n w : Nat) : (bitsOf n w).length = w := by
  induction w with
  | zero => rfl
  | succ w ih => simp [bitsOf, ih]

@[simp] theorem length_portBits (c : Channel) : (portBits c).length = 27 := by
  simp [portBits]

end Sys2Proof.Machine
end

