-- ==== Sys2Proof/Laws/Tables.lean ====
section
/-!
SUPPORT. What the operations of keyed tables and of the recipe image do: reads after writes, and that every
operation keeps the canonical form (strictly rising keys; for the image, no byte listed that an unlisted
position reads as, and none past 255).
-/

namespace Sys2Proof.Machine

variable {α : Type}

/-! ## Reads after writes -/

@[simp] theorem tableGet_nil (k : Nat) : tableGet k ([] : List (Nat × α)) = none := rfl

@[simp] theorem tableGet_tableSet_self (k : Nat) (v : α) (l : List (Nat × α)) :
    tableGet k (tableSet k v l) = some v := by
  induction l with
  | nil => simp [tableSet, tableGet]
  | cons e rest ih =>
    obtain ⟨j, w⟩ := e
    by_cases h : k < j
    · simp [tableSet, h, tableGet]
    · by_cases hj : j = k
      · simp [tableSet, hj, tableGet]
      · simp [tableSet, h, hj, tableGet, ih]

theorem tableGet_tableSet_of_ne {k i : Nat} (h : i ≠ k) (v : α) (l : List (Nat × α)) :
    tableGet i (tableSet k v l) = tableGet i l := by
  induction l with
  | nil => simp [tableSet, tableGet, h.symm]
  | cons e rest ih =>
    obtain ⟨j, w⟩ := e
    by_cases hk : k < j
    · simp [tableSet, hk, tableGet, h.symm]
    · by_cases hj : j = k
      · subst hj; simp [tableSet, tableGet, h.symm]
      · simp [tableSet, hk, hj, tableGet, ih]

theorem tableGet_tableSet (k i : Nat) (v : α) (l : List (Nat × α)) :
    tableGet i (tableSet k v l) = if i = k then some v else tableGet i l := by
  by_cases h : i = k
  · subst h; simp
  · simp [h, tableGet_tableSet_of_ne h]

theorem tableGet_tableErase (k i : Nat) (l : List (Nat × α)) :
    tableGet i (tableErase k l) = if i = k then none else tableGet i l := by
  induction l with
  | nil => simp [tableErase]
  | cons e rest ih =>
    obtain ⟨j, w⟩ := e
    by_cases hj : j = k
    · subst hj
      by_cases hi : i = j
      · subst hi; simpa [tableErase] using ih
      · simp only [tableErase, ↓reduceIte, ih, if_neg hi, tableGet, if_neg (Ne.symm hi)]
    · by_cases hi : j = i
      · subst hi; simp [tableErase, hj, tableGet]
      · simp [tableErase, hj, tableGet, hi, ih]

@[simp] theorem tableGet_tableErase_self (k : Nat) (l : List (Nat × α)) :
    tableGet k (tableErase k l) = none := by simp [tableGet_tableErase]

/-- A table without an entry at a key is not changed by erasing it. -/
theorem tableErase_of_get_none {k : Nat} {l : List (Nat × α)} (h : tableGet k l = none) :
    tableErase k l = l := by
  induction l with
  | nil => rfl
  | cons e rest ih =>
    obtain ⟨j, w⟩ := e
    by_cases hj : j = k
    · simp [tableGet, hj] at h
    · simp only [tableGet, if_neg hj] at h
      simp [tableErase, hj, ih h]

/-! ## The canonical form of a table -/

theorem keysAbove_mono {k j : Nat} (h : k ≤ j) {l : List (Nat × α)} :
    keysAbove j l = true → keysAbove k l = true := by
  induction l with
  | nil => simp [keysAbove]
  | cons e rest ih =>
    obtain ⟨i, w⟩ := e
    simp only [keysAbove, Bool.and_eq_true, decide_eq_true_eq]
    exact fun ⟨a, b⟩ => ⟨by omega, ih b⟩

theorem keysAbove_tableSet {j k : Nat} (hk : j < k) (v : α) {l : List (Nat × α)}
    (h : keysAbove j l = true) : keysAbove j (tableSet k v l) = true := by
  induction l with
  | nil => simp [tableSet, keysAbove, hk]
  | cons e rest ih =>
    obtain ⟨i, w⟩ := e
    simp only [keysAbove, Bool.and_eq_true, decide_eq_true_eq] at h
    unfold tableSet
    split
    · simp [keysAbove, hk, h]
    · split
      · simp [keysAbove, hk, h]
      · simp [keysAbove, h.1, ih h.2]

theorem keysAbove_tableErase {j k : Nat} {l : List (Nat × α)} (h : keysAbove j l = true) :
    keysAbove j (tableErase k l) = true := by
  induction l with
  | nil => rfl
  | cons e rest ih =>
    obtain ⟨i, w⟩ := e
    simp only [keysAbove, Bool.and_eq_true, decide_eq_true_eq] at h
    unfold tableErase
    split
    · exact ih h.2
    · simp [keysAbove, h.1, ih h.2]

theorem keysAbove_tableUpdate {j : Nat} (f : α → Option α) {l : List (Nat × α)}
    (h : keysAbove j l = true) : keysAbove j (tableUpdate f l) = true := by
  induction l with
  | nil => rfl
  | cons e rest ih =>
    obtain ⟨i, w⟩ := e
    simp only [keysAbove, Bool.and_eq_true, decide_eq_true_eq] at h
    unfold tableUpdate
    split
    · simp [keysAbove, h.1, ih h.2]
    · exact ih h.2

theorem tableWf_tableSet (k : Nat) (v : α) {l : List (Nat × α)} (h : tableWf l = true) :
    tableWf (tableSet k v l) = true := by
  induction l with
  | nil => rfl
  | cons e rest ih =>
    obtain ⟨j, w⟩ := e
    simp only [tableWf, Bool.and_eq_true] at h
    unfold tableSet
    split
    · rename_i hk
      simp [tableWf, keysAbove, hk, h, keysAbove_mono (Nat.le_of_lt hk) h.1]
    · split
      · rename_i hj
        subst hj
        simp [tableWf, h]
      · have hj : j < k := by omega
        simp [tableWf, keysAbove_tableSet hj v h.1, ih h.2]

theorem tableWf_tableErase (k : Nat) {l : List (Nat × α)} (h : tableWf l = true) :
    tableWf (tableErase k l) = true := by
  induction l with
  | nil => rfl
  | cons e rest ih =>
    obtain ⟨j, w⟩ := e
    simp only [tableWf, Bool.and_eq_true] at h
    unfold tableErase
    split
    · exact ih h.2
    · simp [tableWf, keysAbove_tableErase h.1, ih h.2]

theorem tableWf_tableUpdate (f : α → Option α) {l : List (Nat × α)} (h : tableWf l = true) :
    tableWf (tableUpdate f l) = true := by
  induction l with
  | nil => rfl
  | cons e rest ih =>
    obtain ⟨j, w⟩ := e
    simp only [tableWf, Bool.and_eq_true] at h
    unfold tableUpdate
    split
    · simp [tableWf, keysAbove_tableUpdate f h.1, ih h.2]
    · exact ih h.2

theorem keysBelow31_tableSet {k : Nat} (hk : k < 31) (v : α) {l : List (Nat × α)}
    (h : keysBelow31 l = true) : keysBelow31 (tableSet k v l) = true := by
  induction l with
  | nil => simp [tableSet, keysBelow31, hk]
  | cons e rest ih =>
    obtain ⟨i, w⟩ := e
    simp only [keysBelow31, Bool.and_eq_true, decide_eq_true_eq] at h
    unfold tableSet
    split
    · simp [keysBelow31, hk, h]
    · split
      · simp [keysBelow31, hk, h]
      · simp [keysBelow31, h.1, ih h.2]

theorem keysBelow31_tableErase (k : Nat) {l : List (Nat × α)} (h : keysBelow31 l = true) :
    keysBelow31 (tableErase k l) = true := by
  induction l with
  | nil => rfl
  | cons e rest ih =>
    obtain ⟨i, w⟩ := e
    simp only [keysBelow31, Bool.and_eq_true, decide_eq_true_eq] at h
    unfold tableErase
    split
    · exact ih h.2
    · simp [keysBelow31, h.1, ih h.2]

theorem keysBelow31_tableUpdate (f : α → Option α) {l : List (Nat × α)}
    (h : keysBelow31 l = true) : keysBelow31 (tableUpdate f l) = true := by
  induction l with
  | nil => rfl
  | cons e rest ih =>
    obtain ⟨i, w⟩ := e
    simp only [keysBelow31, Bool.and_eq_true, decide_eq_true_eq] at h
    unfold tableUpdate
    split
    · simp [keysBelow31, h.1, ih h.2]
    · exact ih h.2

/-! ## The recipe image -/

/-- A byte read after a write: the byte written at its position, every other position as before. -/
theorem readByte_writeByte (p q : Nat) (v : Byte) (image : List Host.Cell) :
    readByte (writeByte p v image) q = if q = p then v else readByte image q := by
  by_cases hv : v = unlistedByte
  · by_cases hq : q = p
    · simp [writeByte, readByte, hv, hq]
    · simp [writeByte, readByte, hv, tableGet_tableErase, hq]
  · by_cases hq : q = p
    · simp [writeByte, readByte, hv, hq]
    · simp [writeByte, readByte, hv, tableGet_tableSet, hq]

theorem cellsProper_tableSet {p : Nat} (hp : p < 256) {v : Byte} (hv : v ≠ unlistedByte)
    {image : List Host.Cell} (h : cellsProper image = true) :
    cellsProper (tableSet p v image) = true := by
  induction image with
  | nil => simp [tableSet, cellsProper, hp, hv]
  | cons e rest ih =>
    obtain ⟨i, w⟩ := e
    simp only [cellsProper, Bool.and_eq_true, decide_eq_true_eq, bne_iff_ne] at h
    unfold tableSet
    split
    · simp [cellsProper, hp, hv, h]
    · split
      · simp [cellsProper, hp, hv, h]
      · simp [cellsProper, h.1, ih h.2]

theorem cellsProper_tableErase (p : Nat) {image : List Host.Cell}
    (h : cellsProper image = true) : cellsProper (tableErase p image) = true := by
  induction image with
  | nil => rfl
  | cons e rest ih =>
    obtain ⟨i, w⟩ := e
    simp only [cellsProper, Bool.and_eq_true, decide_eq_true_eq, bne_iff_ne] at h
    unfold tableErase
    split
    · exact ih h.2
    · simp [cellsProper, h.1, ih h.2]

/-- Writing a byte keeps the canonical form of the image. -/
theorem wf_writeByte {p : Nat} (hp : p < 256) (v : Byte) {image : List Host.Cell}
    (h : Memory.wf image = true) : Memory.wf (writeByte p v image) = true := by
  simp only [Memory.wf, Bool.and_eq_true] at h ⊢
  unfold writeByte
  split
  · exact ⟨tableWf_tableErase p h.1, cellsProper_tableErase p h.2⟩
  · rename_i hv
    exact ⟨tableWf_tableSet p v h.1, cellsProper_tableSet hp hv h.2⟩

/-- One byte of a LOAD keeps the canonical form of the image. -/
theorem wf_writeImage (p : Nat) (v : Byte) {u : RecipeUnit} (h : Memory.wf u.image = true) :
    Memory.wf (writeImage p v u).image = true := by
  unfold writeImage
  split
  · rename_i hp; exact wf_writeByte hp v h
  · exact h

/-- A whole LOAD keeps the canonical form of the image. -/
theorem wf_writeBytes (p : Nat) (data : List Byte) {u : RecipeUnit}
    (h : Memory.wf u.image = true) : Memory.wf (writeBytes p data u).image = true := by
  induction data generalizing p u with
  | nil => exact h
  | cons v rest ih => exact ih (p + 1) (wf_writeImage p v h)

/-- The image is empty at reset, which is the canonical form of 256 zeros (R174). -/
theorem wf_reset_image : Memory.wf State.reset.recipe.image = true := rfl

/-- Two proper tables in canonical form that answer alike at every key are equal data. -/
theorem table_ext {l m : List (Nat × α)} (hl : tableWf l = true) (hm : tableWf m = true)
    (h : ∀ k, tableGet k l = tableGet k m) : l = m := by
  have none_of_above : ∀ {n : List (Nat × α)} {j k : Nat}, keysAbove j n = true → k ≤ j →
      tableGet k n = none := by
    intro n
    induction n with
    | nil => intros; rfl
    | cons e rest ih =>
      obtain ⟨i, w⟩ := e
      intro j k ha hk
      simp only [keysAbove, Bool.and_eq_true, decide_eq_true_eq] at ha
      rw [tableGet, if_neg (by omega : ¬ i = k)]
      exact ih ha.2 hk
  induction l generalizing m with
  | nil =>
    cases m with
    | nil => rfl
    | cons e rest => have := h e.1; simp [tableGet] at this
  | cons e rest ih =>
    obtain ⟨j, v⟩ := e
    cases m with
    | nil => have := h j; simp [tableGet] at this
    | cons d more =>
      obtain ⟨i, w⟩ := d
      simp only [tableWf, Bool.and_eq_true] at hl hm
      have hji : j = i := by
        rcases Nat.lt_trichotomy j i with hlt | heq | hgt
        · have := h j
          simp only [tableGet, if_true, if_neg (by omega : ¬ i = j),
            none_of_above hm.1 (Nat.le_of_lt hlt)] at this
          cases this
        · exact heq
        · have := h i
          simp only [tableGet, if_true, if_neg (by omega : ¬ j = i),
            none_of_above hl.1 (Nat.le_of_lt hgt)] at this
          cases this
      subst hji
      have hv : v = w := by have := h j; simpa [tableGet] using this
      subst hv
      refine congrArg _ (ih hl.2 hm.2 fun k => ?_)
      by_cases hk : j = k
      · subst hk
        rw [none_of_above hl.1 (Nat.le_refl _), none_of_above hm.1 (Nat.le_refl _)]
      · have := h k
        simpa [tableGet, hk] using this

/-- Two canonical images that read alike at every position are equal data. -/
theorem image_ext {a b : List Host.Cell} (ha : Memory.wf a = true) (hb : Memory.wf b = true)
    (h : ∀ p, readByte a p = readByte b p) : a = b := by
  have proper : ∀ {n : List Host.Cell}, cellsProper n = true → ∀ k,
      tableGet k n = if readByte n k = unlistedByte then none else some (readByte n k) := by
    intro n
    induction n with
    | nil => intro _ k; simp [readByte]
    | cons e rest ih =>
      obtain ⟨i, w⟩ := e
      intro hp k
      simp only [cellsProper, Bool.and_eq_true, bne_iff_ne] at hp
      by_cases hi : i = k
      · simp [readByte, tableGet, hi, hp.1.2]
      · have e : readByte ((i, w) :: rest) k = readByte rest k := by simp [readByte, tableGet, hi]
        rw [e, tableGet, if_neg hi]
        exact ih hp.2 k
  simp only [Memory.wf, Bool.and_eq_true] at ha hb
  exact table_ext ha.1 hb.1 fun k => by rw [proper ha.2, proper hb.2, h k]

end Sys2Proof.Machine
end

