-- ==== Sys2Proof/Laws/Wire.lean ====
section
/-!
SUPPORT. What a bit of TL does: how it is counted, field by field, which events it can bring about, and what the
commands of the line need of the runs and of the position in an attempt.
-/

namespace Sys2Proof.Machine

/-! ## A bit counted -/

@[simp] theorem readBit_station (b : Bool) (l : LineUnit) : (readBit b l).station = l.station := rfl
@[simp] theorem readBit_condition (b : Bool) (l : LineUnit) : (readBit b l).condition = l.condition := rfl
@[simp] theorem readBit_stuckSince (b : Bool) (l : LineUnit) : (readBit b l).stuckSince = l.stuckSince := rfl
@[simp] theorem readBit_stuckReported (b : Bool) (l : LineUnit) : (readBit b l).stuckReported = l.stuckReported := rfl
@[simp] theorem readBit_faultSlot (b : Bool) (l : LineUnit) : (readBit b l).faultSlot = l.faultSlot := rfl
@[simp] theorem readBit_holdSlot (b : Bool) (l : LineUnit) : (readBit b l).holdSlot = l.holdSlot := rfl
@[simp] theorem readBit_shutSlot (b : Bool) (l : LineUnit) : (readBit b l).shutSlot = l.shutSlot := rfl
@[simp] theorem readBit_openSlot (b : Bool) (l : LineUnit) : (readBit b l).openSlot = l.openSlot := rfl
@[simp] theorem readBit_statusSlot (b : Bool) (l : LineUnit) : (readBit b l).statusSlot = l.statusSlot := rfl
@[simp] theorem readBit_resultSlot (b : Bool) (l : LineUnit) : (readBit b l).resultSlot = l.resultSlot := rfl
@[simp] theorem readBit_attempt (b : Bool) (l : LineUnit) : (readBit b l).attempt = l.attempt := rfl
@[simp] theorem readBit_abort (b : Bool) (l : LineUnit) : (readBit b l).abort = l.abort := rfl
@[simp] theorem readBit_badCount (b : Bool) (l : LineUnit) : (readBit b l).badCount = l.badCount := rfl

@[simp] theorem readBit_recessiveRun (b : Bool) (l : LineUnit) :
    (readBit b l).recessiveRun = if b then min 11 (l.recessiveRun + 1) else 0 := rfl

@[simp] theorem readBit_dominantRun (b : Bool) (l : LineUnit) :
    (readBit b l).dominantRun = if b then 0 else min 200 (l.dominantRun + 1) := rfl

@[simp] theorem readBit_receiving (b : Bool) (l : LineUnit) :
    (readBit b l).receiving = l.receiving.map (fun bits => bits ++ [b]) := rfl

/-! ## The commands' conditions -/

/-- The run stands at 11 with no frame in progress (R104). -/
theorem lineQuiet_iff (s : State) :
    s.lineQuiet = true ↔
      s.line.condition ≠ .stuck ∧ s.line.attempt = none ∧ s.line.receiving = none
        ∧ 11 ≤ s.line.recessiveRun := by
  have h : decide (Config.idleRun ≤ s.line.recessiveRun) = true ↔ 11 ≤ s.line.recessiveRun :=
    decide_eq_true_iff
  simp only [State.lineQuiet, Bool.and_eq_true, bne_iff_ne, Option.isNone_iff_eq_none, h, and_assoc,
    ne_eq]

theorem execLineIdle_of_not_quiet (s : State) (h : s.lineQuiet = false) :
    execLineIdle s = .next s := by
  simp [execLineIdle, h]

/-- What ABORT_MARK_END can do: nothing before position 165 of an abort mark, and then one of the two ends. -/
theorem execAbortMarkEnd_cases (s : State) :
    execAbortMarkEnd s = .next s
    ∨ ∃ a, s.line.attempt = some a ∧ 165 ≤ s.clock - a.since
        ∧ ((s.line.abort = .short
            ∧ execAbortMarkEnd s = .next (parkTest (slotReturns a.slot (releaseLine s))))
          ∨ (s.line.abort = .fourth
            ∧ execAbortMarkEnd s = .next (parkTest (fourthFailure a.slot (releaseLine s))))) := by
  unfold execAbortMarkEnd
  cases ha : s.line.attempt with
  | none => simp
  | some a =>
    by_cases hp : Config.abortPosition ≤ s.position a
    · have hq : 165 ≤ s.clock - a.since := hp
      cases hb : s.line.abort <;> simp [hp, hq]
    · simp [hp]

/-- With the claim NONE, as at the end of a cancelled attempt, a held request is taken by the admission test's
conditions (R127, R129), or none is taken. -/
theorem takeHeldRequest_of_none (s : State) (h : s.draw.claim = .none) :
    takeHeldRequest s = heldRequestTaken s := by
  by_cases hr : s.draw.requestHeld = true ∧ s.gas.stage = .claim
  · have admits : ∀ d : DrawUnit, d.keyed = s.draw.keyed → d.phantoms = s.draw.phantoms →
        ({ s with draw := d }.admits = true ↔
          s.hold.table = [] ∧ s.nonSelf < s.params.openLimit ∧ s.cycle.station = .run
            ∧ s.latched .lineDead = false) := by
      intro d hk hp
      simp [State.admits, State.nonSelf, State.latched, State.params, hk, hp, hr.2, and_assoc]
    by_cases ha : s.hold.table = [] ∧ s.nonSelf < s.params.openLimit ∧ s.cycle.station = .run
        ∧ s.latched .lineDead = false
    · have := (admits { s.draw with claim := .none, requestHeld := false } rfl rfl).2 ha
      simp only [takeHeldRequest, heldRequestTaken, hr, ha, requestClaim, h, this, and_self,
        beq_self_eq_true, Bool.and_self, if_true]
      rfl
    · have := mt (admits { s.draw with claim := .none, requestHeld := false } rfl rfl).1 ha
      simp only [takeHeldRequest, heldRequestTaken, hr, ha, requestClaim, h, this, and_self,
        beq_self_eq_true, Bool.and_self, if_true, if_false]
      rfl
  · have hb : (s.draw.requestHeld && s.gas.stage == .claim) = false := by simpa using hr
    simp [takeHeldRequest, heldRequestTaken, hr, hb]

/-- What the end of a cancelled attempt does: the claim NONE, and a held request taken (R129, R135). -/
theorem endCancelled_eq (s : State) : endCancelled s = heldRequestTaken (setClaim .none s) :=
  takeHeldRequest_of_none _ rfl

/-! ## The events of a bit -/

@[simp] theorem lineDrive_of_none (s : State) (h : s.line.attempt = none) : s.lineDrive = true := by
  simp [State.lineDrive, h]

/-- A frame in the line's form has 41 bits and eight for each byte of its payload (R103). -/
@[simp] theorem length_byteBits (bytes : List Byte) : (byteBits bytes).length = 8 * bytes.length := by
  induction bytes with
  | nil => rfl
  | cons b rest ih => simp [byteBits, ih, bitsOf]; omega

@[simp] theorem length_frameBits (f : Frame) : (frameBits f).length = 41 + 8 * f.payload.length := by
  simp [frameBits, checkedBits, bitsOf]; omega

/-- A bit that an attempt sends can only end its abort mark, lose the arbitration, show a bit error or complete
the frame. -/
theorem mem_sendEvents (s : State) (a : Attempt) (b : Bool) (c : Instr) (h : c ∈ sendEvents s a b) :
    c = .abortMarkEnd ∨ c = .frameCompletion ∨ c = .bitError ∨ ∃ claim, c = .arbitrationLoss claim := by
  simp only [sendEvents] at h
  split at h
  · exact .inl ((mem_whenDue _ _ _).1 h).2
  · split at h
    · split at h
      · exact .inr (.inl ((mem_whenDue _ _ _).1 h).2)
      · exact .inr (.inr (.inr ⟨_, List.mem_singleton.1 h⟩))
      · exact .inr (.inr (.inl (List.mem_singleton.1 h)))
    · exact absurd h (List.not_mem_nil)

end Sys2Proof.Machine
end

