-- ==== Sys2Proof/Tests/Slice0.lean ====
section
/-!
SUPPORT. Small tests of single steps against values the spec gives, an ill-formed command for each check of
WellFormed, and a witness for the hypotheses of each statement of Obligations.lean.
-/

namespace Sys2Proof.Tests

open Sys2Proof Sys2Proof.Machine

/-! ## Small heads -/

/-- The recipe of the worked load (10, section 10.7), after its clamp: the crimp values are those of the worked
crimps (02, section 2.4). -/
def recipe0 : Recipe :=
  { targetMass := 6400000, tolerance := 100000, coefficient := 19600, shortest := 4, longest := 200
    maxPulses := 8, strikes := 2, leastRise := 20, settleTime := 15, seatForce := 400
    maxForce := 9000, targetDepth := 2400, minDepth := 2300, maxDepth := 2600, minForce := 5000
    openDepth := 300, seatTime := 40, formTime := 60, dwellTime := 15, releaseTime := 50, zone := 1
    openLimit := 2, guardTime := 20, lowPressure := 1290, highPressure := 1300, holdTime := 20
    checkInterval := 0, leakFall := 1, rejectLimit := 0, alertEnables := 15
    closingsPerStep := 16, zeroingTime := 40 }

/-- The image of the worked load, written out from its table (10, section 10.7) and section 12.5; the two check
bytes make the sum 0xFFFF. -/
def image0 : List Byte :=
  [1, 2, 1, 17, 22, 0, 97, 168, 0, 0, 1, 134, 160, 76, 144, 4, 0, 200, 8, 2, 20, 15, 2, 21, 46, 1,
    144, 35, 40, 9, 96, 8, 252, 10, 40, 19, 136, 1, 44, 0, 40, 0, 60, 15, 0, 50, 3, 8, 57, 1, 2,
    20, 5, 15, 5, 20, 20, 5, 2, 0, 16, 40, 68, 122]

/-- A head in a station state with `recipe0` and nothing in its slots. -/
def head (st : Station) : State :=
  { State.reset with
    clock := 20000
    cycle := { State.reset.cycle with station := st }
    recipe := { State.reset.recipe with recipe := some recipe0, loadResult := .accepted }
    line := { State.reset.line with statusSlot := Slot.vacant } }

/-- A head in LOADING with the bytes of `image0` written. -/
def loaded : State :=
  { State.reset with
    recipe := { State.reset.recipe with image := (writeBytes 0 image0 State.reset.recipe).image } }

/-- A head in RUN in a pocket phase, without a context. -/
def runHead (p : Phase) : State :=
  { head .run with cycle := { (head .run).cycle with phase := p, silence := some 20000 } }

/-- A pulse that runs. -/
def pulse0 : Pulse :=
  { planned := 10, massAtStart := 1000000, remainderAtStart := 7, pcAtStart := 101, credited := none
    pcAtEnd := none, outcome := none }

/-- A gas part with one pulse. -/
def gas0 : GasPart :=
  { mass := 1000000, remainder := 7, strikes := 3, pcAtEntry := some 101, pulses := [pulse0] }

/-- A check part in CHECK. -/
def check0 : CheckPart := { pcAtStart := 700, pcAtEnd := none, verdict := .pending }

/-- The context of a can whose crimp is good. -/
def can : CanContext :=
  { cycle := 7, openedIn := .run, canPresent := true, zeroDebt := 1, gasOpenTaken := false
    gasCloseTaken := false, crimp := some { outcome := .good, peak := 800, depth := 2400 }
    gas := none, check := none, reasons := [], conditions := 0 }

/-- A head in RUN with `can` open, the crimp DONE. -/
def canHead (p : Phase) (c : CanContext) : State :=
  { runHead p with context := some c, crimp := { State.reset.crimp with state := .done, peak := 800 } }

/-- The timer of a crimp state, started at clock 0. -/
def timer0 : CrimpState → CrimpTimer
  | .seat => .seat 0
  | .form => .form 0
  | .dwell => .dwell 0
  | .release => .release 0
  | _ => .stopped

/-- A head in RUN in CRIMP in a crimp state, at 60 ms: the limit of T_form, and past those of the other timers. -/
def crimpHead (k : CrimpState) : State :=
  { runHead .crimp with
    clock := 30000
    context := some { can with crimp := some { outcome := .pending, peak := 0, depth := 0 } }
    crimp :=
      { state := k, peak := 800, finalDepth := 2400, failure := .none, timer := timer0 k
        lastDepth := 2300 } }

/-- Both channels VALID, at 1400 kPa and 101 kPa absolute. -/
def sensing : SensorUnit :=
  { State.reset.sensor with
    header := { reading := 1299, validity := .valid, misses := 0 }
    bell := { reading := 0, validity := .valid, misses := 0 }
    sample := { ph := 1400, pc := 101, header := .valid, bell := .valid, pcClamped := .no } }

/-- A head in RUN in GAS in a stage, with a reading of 6699 µg per sample. -/
def gasHead (g : GasStage) : State :=
  { canHead .gas { can with gas := some gas0 } with
    sensor := sensing
    dose := { State.reset.dose with drive := some 1400, rate := some 6699, planned := 10 }
    gas := { State.reset.gas with stage := g } }

/-- A head whose pulse runs, its valve seen open, with `left` samples to go. -/
def pulseHead (left : Nat) : State :=
  { gasHead .pulse with
    gasFb := true
    dose :=
      { (gasHead .pulse).dose with
        running := true, elapsed := 10 - left, credited := 10 - left, massAtStart := 1000000
        remainderAtStart := 7 }
    gas := { (gasHead .pulse).gas with feedbackSeen := true }
    draw := { State.reset.draw with self := some .driven } }

/-- A head whose line has been recessive for 11 bit times. -/
def quiet (s : State) : State := { s with line := { s.line with recessiveRun := 11 } }

/-- A head whose line has been dominant for 200 bit times. -/
def held (s : State) : State := { s with line := { s.line with dominantRun := 200 } }

/-- A head with an attempt of a slot on the line at position 165, its abort mark as given. -/
def sending (st : Station) (k : SlotKind) (b : AbortMark) : State :=
  { head st with
    line :=
      { (head st).line with
        faultSlot :=
          { body := .onLine { cell := .crimpJam, zone := 1, valveOpen := false }, next := none
            failures := 3 }
        holdSlot := { body := .onLine { zone := 1, q := 20 }, next := none, failures := 2 }
        shutSlot := { body := .onLine { zone := 1, samples := 9 }, next := none, failures := 0 }
        openSlot := { body := .onLine { zone := 1 }, next := none, failures := 0 }
        statusSlot := { body := .onLine (), next := none, failures := 0 }
        resultSlot := { body := .onLine (), next := none, failures := 0 }
        attempt := some { slot := k, payload := [], since := 19835 }
        abort := b } }

/-- The same head with the attempt at another position. -/
def atPosition (n : Nat) (s : State) : State :=
  { s with line := { s.line with attempt := s.line.attempt.map (fun a => { a with since := s.clock - n }) } }

/-- A good reply of 1299 kPa gauge: an odd number of ones in the reading, so the parity bit is 1. -/
def goodReply : SensorReply :=
  { startMade := true, acknowledged := true, complete := true, stopMade := true
    word := 0x5138 }

/-- The same reply without an acknowledgement. -/
def missedReply : SensorReply := { goodReply with acknowledged := false }

/-- A head with a transaction of a channel in progress, its start made. -/
def scanning (c : Channel) (s : State) : State :=
  { s with
    sensor := { s.sensor with transaction := some { channel := c, since := 19900, startMade := true } } }

/-- A head with a transaction of a channel in progress whose start could not be made. -/
def blocked (c : Channel) (s : State) : State :=
  { s with
    sensor :=
      { s.sensor with transaction := some { channel := c, since := 19900, startMade := false } } }

/-- A head at another reading of the clock. -/
def atClock (n : Nat) (s : State) : State := { s with clock := n }

/-- A record in the queue. -/
def record0 : Record :=
  { sequence := 4, cycle := 6, reason := .good, conditions := 0, depth := 2400, peak := 800
    mass := 500000, pulses := 2, strikesUsed := 0 }

/-- The state a command leaves. -/
def after (c : Instr) (s : State) : State :=
  match exec c s with
  | .next t => t
  | _ => s

/-! ## WellFormed: each check refuses an ill-formed command -/

theorem test_wf_refuses_sender_31 :
    ((Instr.receivedOpen 31 31 1 200).wf = false ∧ (Instr.receivedShut 31 31 1 9).wf = false)
      ∧ ((Instr.receivedFault 31 31 0 1 1).wf = false ∧ (Instr.receivedHold 31 31 1 20).wf = false)
      ∧ ((Instr.receivedStatus 31 31 (List.replicate 15 0)).wf = false
        ∧ (Instr.receivedResult 31 31 (List.replicate 15 0)).wf = false)
      ∧ ((Instr.load 31 9 0 [1]).wf = false ∧ (Instr.loadEnd 31 9 64).wf = false)
      ∧ ((Instr.start 31 9).wf = false ∧ (Instr.stop 31 9).wf = false
        ∧ (Instr.clear 31 9 1).wf = false) := by decide

theorem test_wf_refuses_payload_length :
    (Instr.receivedStatus 2 31 [0]).wf = false ∧ (Instr.receivedResult 2 31 [0]).wf = false
      ∧ (Instr.load 0 9 0 []).wf = false ∧ (Instr.load 0 9 0 (List.replicate 15 0)).wf = false
      ∧ (Instr.unknownKindFrame 2 31 0 (List.replicate 16 0)).wf = false := by decide

theorem test_wf_refuses_known_kind_as_unknown :
    (Instr.unknownKindFrame 2 31 1 []).wf = false ∧ (Instr.unknownKindFrame 2 31 11 []).wf = false
      ∧ (Instr.unknownKindFrame 2 31 12 []).wf = true := by decide

/-- No row of the table has bits, so no word spells a command. -/
theorem test_no_word_spells_a_command : decodeTableWord 16 5 = none := rfl

/-! ## Arithmetic against the spec's figures -/

/-- The table under R57: 1400 kPa of header pressure, K of 19,600. -/
theorem test_drive_and_rate_table :
    driveTerm 1400 101 = 1400 ∧ driveTerm 1400 700 = 1400 ∧ driveTerm 1400 701 = 1398
      ∧ driveTerm 1400 900 = 1340 ∧ driveTerm 1400 1399 = 74 ∧ driveTerm 1400 1400 = 0
      ∧ predictedRate 19600 1400 = 6699 ∧ predictedRate 19600 1398 = 6689
      ∧ predictedRate 19600 1340 = 6412 ∧ predictedRate 19600 74 = 354 := by decide

/-- The worked can (05): Ph 1380 and Pc 1020 give f 1210 and r 5790. -/
theorem test_drive_of_the_worked_can :
    isqrt 367200 = 605 ∧ driveTerm 1380 1020 = 1210 ∧ predictedRate 19600 1210 = 5790 := by decide

/-- R179's example of the wrap. -/
theorem test_check_sum_wraps : onesAdd 0xF000 0x2000 = 0x1001 := by decide

/-- R182's example: Nmin 120 and Nmax 90 give 100 and 100; 10.7: P_lo 1295 under P_hi 1300 gives 1290. -/
theorem test_anchors_are_clamped_first :
    (clampRecipe { recipe0 with shortest := 120, longest := 90 }).shortest = 100
      ∧ (clampRecipe { recipe0 with shortest := 120, longest := 90 }).longest = 100
      ∧ (clampRecipe { recipe0 with lowPressure := 1295 }).lowPressure = 1290 := by decide

set_option maxRecDepth 20000 in
/-- Section 12.1's frame: station 12, zone 1, an OPEN of 200 samples: claim 1001100, kind 0101, target 11111,
length 0011, 65 bits; and it reads back. -/
theorem test_open_frame_bits :
    let f : Frame :=
      { frameClass := 2, sender := 12, kind := 5, target := 31, payload := [0x01, 0x00, 0xC8] }
    (frameBits f).take 21 =
        [false, true, false, false, true, true, false, false, false, true, false, true,
          true, true, true, true, true, false, false, true, true]
      ∧ (frameBits f).length = 65 ∧ judgeBits (frameBits f) = some f := by decide

set_option maxRecDepth 20000 in
/-- The catalogued check of this CRC (generator 0x1021 from 0xFFFF, no inversion) over the digits 1 to 9. -/
theorem test_crc_catalogue_value :
    crc (byteBits [0x31, 0x32, 0x33, 0x34, 0x35, 0x36, 0x37, 0x38, 0x39]) = 0x29B1 := by decide

/-- A claim of a lower class wins whatever the senders (R106). -/
theorem test_class_decides_first :
    losesTo (claimOf 2 1) (claimOf 1 30) = true ∧ losesTo (claimOf 1 30) (claimOf 2 1) = false
      ∧ losesTo (claimOf 2 4) (claimOf 2 3) = true := by decide

/-! ## One step of each command -/

theorem test_reset_reads_straps :
    (after (.reset 9) (runHead .gas)).line.station = 9
      ∧ (after (.reset 9) (runHead .gas)).cycle.station = .loading := by decide

theorem test_infeed_starts_a_crimp :
    (after (.mkInfeed true) (runHead .returning)).cycle.phase = .crimp
      ∧ (after (.mkInfeed true) (runHead .returning)).crimp.state = .seat
      ∧ (after (.mkInfeed true) (runHead .returning)).cycle.counter = 1 := by decide

theorem test_infeed_without_can_passes :
    (after (.mkInfeed false) (runHead .returning)).result.queue.map (·.reason) = [.noCan] := by
  decide

/-- The worked can at t = 0: strikes 2, Pc at entry 101, VENT off. -/
theorem test_gasopen_starts_gassing :
    (after .mkGasopen { gasHead .idle with cycle := (runHead .waitWindow).cycle }).gasPart
        = some { mass := 0, remainder := 0, strikes := 2, pcAtEntry := some 101, pulses := [] }
      ∧ (after .mkGasopen { gasHead .idle with cycle := (runHead .waitWindow).cycle }).gas.stage
        = .claim := by decide

theorem test_gasclose_cuts_the_window :
    (after .mkGasclose (gasHead .plan)).cycle.phase = .sealed
      ∧ (after .mkGasclose (gasHead .plan)).context.map (·.reasons) = some [.lowDose] := by decide

theorem test_discharge_sends_the_record :
    (after .mkDischarge (canHead .sealed can)).cycle.phase = .returning
      ∧ (after .mkDischarge (canHead .sealed can)).result.queue.map
          (fun r => (r.reason, r.cycle, r.depth, r.peak)) = [(.good, 7, 2400, 800)] := by decide

/-- The worked crimp at 51.0 ms: force 7850 N at 2410 µm enters DWELL with that peak. -/
theorem test_crimp_reaches_depth :
    (after (.crimpSample 7850 2410) (crimpHead .form)).crimp.state = .dwell
      ∧ (after (.crimpSample 7850 2410) (crimpHead .form)).crimp.peak = 7850 := by decide

/-- The worked overforce at 41.5 ms: 9040 N at 2150 µm. -/
theorem test_crimp_overforce :
    (after (.crimpSample 9040 2150) (crimpHead .form)).crimp.state = .release
      ∧ (after (.crimpSample 9040 2150) (crimpHead .form)).crimp.finalDepth = 2150 := by decide

theorem test_seat_expiry_fails :
    (after .tSeatExpiry (crimpHead .seat)).crimp.failure = .noSeat := by decide

theorem test_form_expiry_fails :
    (after .tFormExpiry (crimpHead .form)).crimp.failure = .timeout := by decide

theorem test_dwell_expiry_fixes_the_depth :
    (after .tDwellExpiry (crimpHead .dwell)).crimp.finalDepth = 2300
      ∧ (after .tDwellExpiry (crimpHead .dwell)).crimp.failure = .none := by decide

theorem test_rel_expiry_jams :
    (after .tRelExpiry (crimpHead .release)).cycle.station = .faulted
      ∧ (after .tRelExpiry (crimpHead .release)).result.queue.map (·.reason) = [.headFaulted] := by
  decide

theorem test_header_reading_and_parity :
    (after (.sensorTransactionEnd .header goodReply) (scanning .header (head .ready))).sensor.header
        = { reading := 1299, validity := .valid, misses := 0 }
      ∧ (after (.sensorTransactionEnd .header { goodReply with word := 0x5130 })
          (scanning .header (head .ready))).sensor.header
        = { reading := 0, validity := .notYet, misses := 1 } := by
  decide

/-- K × 1400 is 27,440,000, with the remainder 7: 6699 µg and 903 left. -/
theorem test_bell_sample_credits :
    (after (.sensorTransactionEnd .bell { goodReply with word := 0 })
        (scanning .bell (pulseHead 5))).gasPart.map (fun g => (g.mass, g.remainder))
      = some (1006699, 903) := by decide

/-- A sample without a usable channel in CLAIM notes the hold before gassing ends (R81, R98). -/
theorem test_lossy_sample_in_claim_notes_the_hold :
    let s : State :=
      { gasHead .claim with
        hold := { table := [(4, 20)], asserted := false, resend := none }
        sensor := { sensing with header := { sensing.header with validity := .stale } } }
    let t := after (.sensorTransactionEnd .bell goodReply) (scanning .bell s)
    t.context.map (hasCondition .holdWait ·.conditions) = some true ∧ t.gas.stage = .ended := by
  decide

theorem test_zeroing_takes_the_mean :
    (after .zeroingTimerExpiry
        { head .run with
          sensor :=
            { sensing with
              zeroing := .collecting 0, zeroSamples := List.replicate 16 5, zeroDebt := 1 } }).sensor.zeroOffset
      = 5 := by decide

/-- An expiry left over from an abandoned zeroing does not end the new one (R52). -/
theorem test_stale_zeroing_expiry_is_nothing :
    let s : State := { head .run with sensor := { sensing with zeroing := .collecting 19999 } }
    after .zeroingTimerExpiry s = s := by decide

theorem test_zeroing_test_needs_time :
    (after .zeroingTest
        { runHead .returning with
          cycle :=
            { (runHead .returning).cycle with
              zeroTest := some 10000, period := some 100, infeedRef := some 5000 } }).cycle.grant
      = .granted := by decide

theorem test_vent_wait_is_granted :
    (after .grantVentWaitExpiry
        { runHead .pass with
          cycle := { (runHead .pass).cycle with grant := .waitingForVent } }).cycle.grant
      = .granted := by decide

theorem test_silence_parks :
    (after .silenceLimit (atClock 1020000 (runHead .returning))).cycle.station = .parked
      ∧ (after .silenceLimit (atClock 1020000 (runHead .sealed))).cycle.station = .run := by decide

theorem test_loading_status :
    slotPending (after .loadingStatusTimer (atClock 250000 (head .loading))).line.statusSlot = true := by
  decide

theorem test_feedback_window_lapses :
    (after .feedbackWindowLapse
        { pulseHead 5 with
          gas := { (pulseHead 5).gas with feedbackWindow := some 0 } }).gas.feedbackWindow
      = none := by decide

theorem test_valve_open_at_rest_is_stuck :
    (after .gasFbOpens (head .ready)).cycle.station = .faulted
      ∧ (after .gasFbOpens (head .ready)).draw.self = some .stuck := by decide

theorem test_valve_closes_and_shut_is_placed :
    (after .gasFbCloses
        { gasHead .settle with
          gasFb := true
          gas := { (gasHead .settle).gas with closeWindow := some 0, lastOpen := 9 }
          draw := { State.reset.draw with self := some (.closing 3) } }).line.shutSlot.body
      = .pending { zone := 1, samples := 9 } := by decide

theorem test_close_window_ends_quietly :
    (after .closeWindowExpiry
        { head .ready with
          gas := { State.reset.gas with closeWindow := some 0 } }).gas.closeWindow = none := by
  decide

theorem test_settle_leads_to_a_claim :
    (after .settleTimerExpiry
        { gasHead .settle with
          gas := { (gasHead .settle).gas with settleTimer := some 0 } }).gas.stage = .claim := by
  decide

theorem test_check_timer_finds_a_leak :
    (after .checkTimerExpiry
        { canHead .check { can with gas := some gas0, check := some check0 } with
          sensor := sensing
          gas := { State.reset.gas with stage := .check, checkTimer := some 0 } }).context.map
        (·.reasons) = some [.leak] := by decide

theorem test_line_idle_sends_the_hold_before_the_shut :
    let s : State :=
      { head .run with
        line :=
          { (head .run).line with
            holdSlot := { body := .pending { zone := 1, q := 20 }, next := none, failures := 0 }
            shutSlot :=
              { body := .pending { zone := 1, samples := 9 }, next := none, failures := 0 } } }
    (after .lineIdle (quiet s)).line.attempt
        = some { slot := .holdSlot, payload := [1, 20], since := 20000 }
      ∧ after .lineIdle { s with line := { s.line with recessiveRun := 10 } }
          = { s with line := { s.line with recessiveRun := 10 } } := by decide

theorem test_arbitration_loss_keeps_the_count :
    let s : State := atPosition 4 (sending .run .holdSlot .none)
    (after (.arbitrationLoss 3) s).line.holdSlot
        = { body := .pending { zone := 1, q := 20 }, next := none, failures := 2 }
      ∧ (after (.arbitrationLoss 0x43) s).line.receiving = some [false, true, false, false]
      ∧ after (.arbitrationLoss 3) (atPosition 9 s) = atPosition 9 s := by decide

/-- A request held through a cancelled attempt is taken when the attempt has lost (R129, R135). -/
theorem test_held_request_is_taken_after_a_loss :
    let s : State :=
      { gasHead .claim with
        line := (atPosition 4 (sending .run .openSlot .none)).line
        draw := { State.reset.draw with claim := .cancelled, requestHeld := true } }
    (after (.arbitrationLoss 3) s).draw.claim = .placed
      ∧ (after (.arbitrationLoss 3) s).line.openSlot.body = .pending { zone := 1 } := by decide

/-- A pulse whose valve never opened is DEAD at its length: no credit, SELF removed at once, a SHUT of 10 samples
placed and the settle timer started (R58, R85 to R87, R137). -/
theorem test_pulse_of_a_valve_that_never_opened :
    let s : State :=
      scanning .bell
        { pulseHead 1 with gasFb := false, gas := { (pulseHead 1).gas with feedbackSeen := false } }
    let t := after (.sensorTransactionEnd .bell goodReply) s
    (t.gas.stage, t.gas.closeWindow, t.gas.settleTimer, t.draw.self, t.line.shutSlot.body)
        = (.settle, none, some 20000, none, .pending { zone := 1, samples := 10 })
      ∧ t.gasPart.map (fun g => (g.mass, g.remainder, g.strikes)) = some (1000000, 7, 2) := by decide

theorem test_bit_error_raises_the_count :
    let s (k : SlotKind) : State := atPosition 41 (sending .run k .none)
    (after .bitError (s .holdSlot)).line.holdSlot.failures = 3
      ∧ (after .bitError (s .faultSlot)).line.abort = .fourth
      ∧ after .bitError (atPosition 42 (s .faultSlot)) = atPosition 42 (s .faultSlot) := by decide

theorem test_frame_completion_of_a_hold :
    (after .frameCompletion
        { sending .run .holdSlot .none with
          hold := { table := [(1, 3)], asserted := true, resend := none } }).hold
      = { table := [(1, 20)], asserted := true, resend := some 20000 } := by decide

theorem test_bad_frame_reserves_a_phantom :
    (after .badFrame (head .ready)).draw.phantoms.first = some 220
      ∧ (after .badFrame (head .loading)).draw.phantoms.first = none := by decide

theorem test_line_stuck :
    (after .lineStuck (held (head .ready))).line.condition = .stuck
      ∧ after .lineStuck (head .ready) = head .ready := by decide

theorem test_stuck_timeout_faults :
    (after .stuckTimeout (atClock 45000 (after .lineStuck (held (head .ready))))).cycle.station = .faulted := by
  decide

theorem test_stuck_end : (after .stuckEnd (after .lineStuck (held (head .ready)))).line.condition = .busy := by
  decide

/-- An OPEN of 200 samples with G of 20. -/
theorem test_received_open :
    (after (.receivedOpen 4 31 1 200) (head .ready)).draw.keyed = [(4, .peer 220)] := by decide

theorem test_received_shut :
    (after (.receivedShut 4 31 1 9)
        { head .ready with
          draw := { State.reset.draw with keyed := [(4, .peer 9), (6, .stuck)] } }).draw.keyed
      = [(6, .stuck)] := by decide

theorem test_received_fault :
    (after (.receivedFault 4 31 0 1 1) (head .ready)).draw.keyed = [(4, .stuck)]
      ∧ (after (.receivedFault 4 31 1 1 1) (head .ready)).draw.keyed = [] := by decide

theorem test_received_status_of_loading :
    (after (.receivedStatus 4 31 (List.replicate 15 0))
        { head .ready with
          draw := { State.reset.draw with keyed := [(4, .stuck)] } }).draw.keyed = [] := by decide

theorem test_received_hold :
    (after (.receivedHold 4 31 1 20) (head .ready)).hold.table = [(4, 20)] := by decide

theorem test_received_result_ends_the_bad_run :
    (after (.receivedResult 4 31 (List.replicate 15 0))
        { head .ready with line := { (head .ready).line with badCount := 9 } }).line.badCount
      = 0 := by decide

theorem test_own_number_is_a_duplicate :
    (after (.receivedOpen 1 31 1 200) (head .ready)).latched .duplicate = true
      ∧ (after (.receivedOpen 1 31 1 200) (head .ready)).cycle.station = .faulted := by decide

theorem test_load_drops_past_255 :
    (after (.load 0 1 254 [7, 8, 9]) (head .loading)).recipe.image = [(254, 7), (255, 8)]
      ∧ (after (.load 0 1 254 [7, 8, 9]) (head .loading)).recipe.loadedLength = 2 := by decide

set_option maxRecDepth 20000 in
theorem test_load_end_refuses_an_empty_image :
    (after (.loadEnd 0 1 64) State.reset).recipe.refusal = .check
      ∧ (after (.loadEnd 0 1 7) State.reset).recipe.refusal = .length := by decide

set_option maxRecDepth 20000 in
/-- The worked load is accepted with P_lo clamped (10, section 10.7). -/
theorem test_load_end_accepts_the_worked_load :
    (after (.loadEnd 0 1 64) loaded).recipe.recipe = some recipe0
      ∧ (after (.loadEnd 0 1 64) loaded).recipe.clampFlag = true
      ∧ (after (.loadEnd 0 1 64) loaded).cycle.station = .ready := by decide

theorem test_start : (after (.start 0 1) (head .ready)).cycle.station = .run := by decide

theorem test_stop :
    (after (.stop 0 1) (runHead .returning)).cycle.station = .standby
      ∧ (after (.stop 0 1) (runHead .crimp)).cycle.stopPending = true := by decide

theorem test_clear_frees_the_head :
    (after (.clear 0 1 2)
        { head .faulted with
          fault := { latched := 2, enables := 15, alert := true } }).cycle.station = .ready := by
  decide

theorem test_draw_countdown :
    (after .drawCountdown
        { head .ready with
          draw := { State.reset.draw with keyed := [(4, .peer 1), (6, .peer 2)] } }).draw.keyed
      = [(6, .peer 1)] := by decide

theorem test_hold_countdown :
    (after .holdCountdown
        { head .ready with
          hold := { table := [(4, 1), (6, 2)], asserted := false, resend := none } }).hold.table
      = [(6, 1)] := by decide

/-- An entry that runs out withdraws a pending OPEN while another entry stands (R128, R130). -/
theorem test_hold_expiry_repeats_the_admission_test :
    let u := gasHead .claim
    let t :=
      after .holdCountdown
        { u with
          hold := { table := [(4, 1), (6, 2)], asserted := false, resend := none }
          draw := { u.draw with claim := .placed }
          line :=
            { u.line with
              openSlot := { body := .pending { zone := 1 }, next := none, failures := 0 } } }
    t.draw.claim = .waiting ∧ t.line.openSlot = Slot.vacant
      ∧ t.context.map (hasCondition .drawWait ·.conditions) = some true := by decide

theorem test_hold_resend :
    (after .holdResend
        { head .ready with
          hold := { table := [(1, 3)], asserted := true, resend := some 0 } }).hold
      = { table := [(1, 20)], asserted := true, resend := none } := by decide

theorem test_unknown_kind_is_ignored :
    (after (.unknownKindFrame 4 31 12 []) (head .ready)).draw = (head .ready).draw := by decide

theorem test_start_bit :
    (after .startBit
        { head .ready with line := { (head .ready).line with condition := .idle } }).line.receiving
      = some [false] := by decide

theorem test_abort_mark_end_returns_the_slot :
    (after .abortMarkEnd (sending .run .holdSlot .short)).line.holdSlot.body
        = .pending { zone := 1, q := 20 }
      ∧ (after .abortMarkEnd (sending .run .holdSlot .fourth)).latched .lineDead = true
      ∧ (let s := atPosition 164 (sending .run .holdSlot .short); after .abortMarkEnd s = s) := by
  decide

/-! ## The bits of the line -/

/-- Ten recessive bits are no line idle, the eleventh is one (R104); a dominant bit begins the run again. -/
theorem test_eleventh_recessive_bit_is_a_line_idle :
    let s (run : Nat) : State :=
      { head .run with line := { (head .run).line with recessiveRun := run } }
    lineEvents true (s 9) = [] ∧ lineEvents true (s 10) = [.lineIdle]
      ∧ (readBit true (s 9).line).recessiveRun = 10
      ∧ (readBit false (s 10).line).recessiveRun = 0 := by decide

/-- 200 dominant bits are no stuck line, one more makes it STUCK (R110). -/
theorem test_dominant_bit_past_200_is_stuck :
    let s (run : Nat) : State := { head .run with line := { (head .run).line with dominantRun := run } }
    lineEvents false (s 199) = [] ∧ lineEvents false (s 200) = [.lineStuck]
      ∧ (readBit false (s 199).line).dominantRun = 200
      ∧ (readBit true (s 200).line).dominantRun = 0 := by decide

/-- The abort mark is dominant through position 165 and ends with it (R107). -/
theorem test_abort_mark_ends_at_position_165 :
    let s : State := sending .run .holdSlot .short
    (atPosition 164 s).lineDrive = false ∧ (atPosition 165 s).lineDrive = true
      ∧ lineEvents false (atPosition 163 s) = []
      ∧ lineEvents false (atPosition 164 s) = [.abortMarkEnd] := by decide

set_option maxRecDepth 20000 in
/-- Station 12's OPEN reads a dominant bit at position 5 (06, the first worked sequence) and at its end mark. -/
theorem test_lost_bit_and_bit_error :
    let s : State := sending .run .openSlot .none
    let t : State := { s with line := { s.line with station := 12 } }
    (atPosition 4 t).lineDrive = true
      ∧ lineEvents false (atPosition 4 t) = [.arbitrationLoss 0x44]
      ∧ lineEvents true (atPosition 4 t) = []
      ∧ lineEvents false (atPosition 40 t) = [.bitError]
      ∧ lineEvents true (atPosition 40 t) = [.frameCompletion] := by decide

/-! ## The step -/

theorem test_step_takes_the_front :
    step { head .ready with pending := [.start 0 1, .mkGasopen] }
      = exec (.start 0 1) { head .ready with pending := [.mkGasopen] } := rfl

/-! ## The scan -/

/-- The tick at clock 0 begins the header transaction of the first period, the one at 125 its bell transaction
(R40). -/
theorem test_scan_begins_the_pair :
    (tick State.reset).sensor.transaction
        = some { channel := .header, since := 0, startMade := Config.sdaReadsHigh 0 }
      ∧ (tick
          { atClock 125 State.reset with
            sensor := { State.reset.sensor with lastPair := some 0 } }).sensor.transaction
        = some { channel := .bell, since := 125, startMade := Config.sdaReadsHigh 125 } :=
  ⟨rfl, rfl⟩

/-- Where SDA_S reads low at the start, the port drives nothing and a reply that would be good is a miss (R39). -/
theorem test_held_link_makes_no_start :
    let s := blocked .bell { head .ready with sensor := sensing }
    s.linkDrive = linkIdle ∧ (scanning .bell s).linkDrive = linkIdle
      ∧ (atClock 19900 s).linkDrive = linkIdle
      ∧ (atClock 19900 (scanning .bell s)).linkDrive = { scl := true, sda := false }
      ∧ (after (.sensorTransactionEnd .bell goodReply) s).sensor.bell.misses = 1 := by decide

/-- In PARKED a period without a pair follows until 8 ms have passed; out of it the rate is FULL at the next period
(R41). -/
theorem test_slow_scan_waits_8_ms :
    let s (n : Nat) (st : Station) : State :=
      atClock n
        { head st with sensor := { State.reset.sensor with scan := .slow, lastPair := some 0 } }
    ((tick (s 3750 .parked)).sensor.transaction = none
        ∧ (tick (s 4000 .parked)).sensor.transaction.map (·.channel) = some .header)
      ∧ ((tick (s 4001 .run)).sensor.scan = .slow ∧ (tick (s 4250 .run)).sensor.scan = .full) := by
  decide

/-- The port's first eight bits for the bell: address 0000010, read request 1 (R39). -/
theorem test_port_bits_of_the_bell :
    (portBits .bell).take 8 = [false, false, false, false, false, true, false, true] := by decide

/-! ## Witnesses

Each theorem shows concrete heads and operands that meet the hypotheses of the statement of the same name, one
for each of its clauses, at a boundary where a clause has a range. -/

/-- A head under another recipe. -/
def underRecipe (p : Recipe) (s : State) : State :=
  { s with recipe := { s.recipe with recipe := some p } }

/-- A head with a zero debt. -/
def withDebt (n : Nat) (s : State) : State := { s with sensor := { s.sensor with zeroDebt := n } }

/-- A head with a stop pending. -/
def stopping (s : State) : State := { s with cycle := { s.cycle with stopPending := true } }

/-- A head with `n` records in its queue. -/
def queued (n : Nat) (s : State) : State :=
  { s with result := { s.result with queue := List.replicate n record0 } }

theorem witness_ScanMakesItsPairs :
    let s (p : Option Nat) (st : Station) : State :=
      { head st with sensor := { State.reset.sensor with lastPair := p } }
    (250 ∣ (head .run).clock ∧ (head .parked).cycle.station = .parked
        ∧ (s (some 16000) .parked).sensor.lastPair = some 16000
        ∧ 16000 + 16 * 250 ≤ (s (some 16000) .parked).clock
        ∧ ¬16001 + 16 * 250 ≤ (s (some 16001) .parked).clock)
      ∧ (¬250 ∣ (atClock 20125 (s (some 20000) .run)).clock
        ∧ (atClock 20125 (s (some 20000) .run)).clock = 20000 + 125
        ∧ (atClock 20126 (s (some 20000) .run)).clock ≠ 20000 + 125) := by decide

theorem witness_LinkBitsReadBack :
    let s := scanning .header (head .run)
    (s.sensor.transaction = some { channel := .header, since := 19900, startMade := true } ∧ s.clock = 19900 + 100
        ∧ (head .run).sensor.transaction = none
        ∧ (blocked .bell s).sensor.transaction
          = some { channel := .bell, since := 19900, startMade := false })
      ∧ ((List.replicate 27 true).getD 8 true = true ∧ (List.replicate 26 false).length < 27) := by
  decide

theorem witness_InfeedSendsACanToTheCrimp :
    let s := withDebt 3 (runHead .returning)
    s.cycle.station = .run ∧ s.cycle.phase = .returning ∧ s.sensor.zeroDebt < 4 := by decide

theorem witness_InfeedPassesAPocketWithItsRecord :
    let s := runHead .returning
    let early : State := { s with gas := { s.gas with ventSince := 10001 } }
    let late : State := { s with gas := { s.gas with ventSince := 10000 } }
    (s.cycle.station = .run ∧ s.cycle.phase = .returning)
      ∧ (4 ≤ (withDebt 4 s).sensor.zeroDebt ∧ (withDebt 0 s).sensor.zeroDebt = 0)
      ∧ (1 ≤ (withDebt 1 late).sensor.zeroDebt ∧ late.gas.stage = .idle
        ∧ late.gas.ventSince + 20 * 500 ≤ late.clock)
      ∧ (1 ≤ (withDebt 1 early).sensor.zeroDebt
        ∧ ¬(early.gas.stage = .idle ∧ early.gas.ventSince + 20 * 500 ≤ early.clock)) := by decide

theorem witness_InfeedOutsideReturnActsByState :
    let c := { can with reasons := [.crimpBad] }
    let s := queued 6 (canHead .sealed c)
    let passing := runHead .pass
    ((head .loading).cycle.station = .loading ∧ (head .ready).cycle.station = .ready)
      ∧ ((head .standby).cycle.station = .standby ∧ (head .faulted).cycle.station = .faulted)
      ∧ (head .parked).cycle.station = .parked
      ∧ (s.cycle.station = .run ∧ s.cycle.phase ≠ .returning ∧ s.context = some c
        ∧ s.result.queue.length < 7 ∧ ∀ r ∈ c.reasons, reasonCode .markError < reasonCode r)
      ∧ (s.cycle.stopPending = false ∧ (stopping s).cycle.stopPending = true)
      ∧ (passing.cycle.station = .run ∧ passing.cycle.phase ≠ .returning
        ∧ passing.context = none) := by decide

theorem witness_GasOpenMarkStartsGassing :
    let s : State :=
      { gasHead .idle with
        cycle := (runHead .waitWindow).cycle, context := some can }
    let complete := underRecipe { recipe0 with targetMass := 100000 } s
    let checked :=
      underRecipe { recipe0 with targetMass := 100000, checkInterval := 1 } s
    let blind : State := { s with dose := { s.dose with drive := none, rate := none } }
    let slow : State := { s with dose := { s.dose with rate := some 0 } }
    let held : State := { s with hold := { s.hold with table := [(4, 1)] } }
    ((head .ready).cycle.station ≠ .run ∧ (crimpHead .form).cycle.phase = .crimp
        ∧ (crimpHead .form).cycle.station = .run)
      ∧ ((runHead .sealed).cycle.station = .run ∧ (runHead .sealed).cycle.phase ≠ .crimp
        ∧ (runHead .sealed).cycle.phase ≠ .waitWindow)
      ∧ (s.cycle.station = .run ∧ s.cycle.phase = .waitWindow ∧ s.context = some can
        ∧ s.gas.stage = .idle ∧ 1 ≤ s.params.maxPulses ∧ s.dose.drive = some 1400
        ∧ s.dose.rate = some 6699 ∧ s.params.tolerance < s.params.targetMass)
      ∧ (complete.params.targetMass ≤ complete.params.tolerance
        ∧ complete.params.checkInterval = 0)
      ∧ (checked.params.targetMass ≤ checked.params.tolerance
        ∧ checked.params.checkInterval ≠ 0)
      ∧ (blind.dose.drive = none ∧ s.hold.table = [] ∧ s.dose.rate ≠ some 0)
      ∧ (slow.dose.rate = some 0 ∧ held.hold.table ≠ []) := by decide

theorem witness_GasCloseMarkCutsTheWindow :
    let s (g : GasStage) : State := gasHead g
    let checking : State := { gasHead .check with cycle := (runHead .check).cycle }
    ((head .standby).cycle.station ≠ .run
        ∧ ((crimpHead .seat).cycle.station = .run ∧ (crimpHead .seat).cycle.phase = .crimp)
        ∧ (runHead .waitWindow).cycle.phase = .waitWindow ∧ (runHead .pass).cycle.phase = .pass)
      ∧ ((s .plan).cycle.station = .run ∧ (s .plan).cycle.phase = .gas
        ∧ (s .plan).context = some { can with gas := some gas0 })
      ∧ ((s .claim).gas.stage = .claim ∧ (s .settle).gas.stage = .settle
        ∧ (s .pulse).gas.stage = .pulse ∧ (s .pulse).gasFb = false
        ∧ (pulseHead 5).gas.stage = .pulse ∧ (pulseHead 5).gasFb = true
        ∧ (pulseHead 5).draw.self = some .driven)
      ∧ (checking.cycle.station = .run ∧ checking.cycle.phase = .check
        ∧ checking.gas.stage = .check
        ∧ checking.context = some { can with gas := some gas0 }) := by decide

theorem witness_gassingStage : gassingStage .plan ∧ gassingStage .settle :=
  ⟨Or.inl rfl, Or.inr (Or.inr (Or.inr rfl))⟩

theorem witness_DischargeClosesTheContext :
    let s := canHead .sealed can
    let c := { can with reasons := [.crimpBad] }
    let early := queued 7 (canHead .check c)
    (s.cycle.station = .run ∧ s.cycle.phase = .sealed ∧ s.context = some can
        ∧ s.cycle.silenceOver = false ∧ s.cycle.stopPending = false
        ∧ (stopping s).cycle.stopPending = true)
      ∧ ((head .faulted).cycle.station ≠ .run ∧ (runHead .returning).cycle.phase = .returning
        ∧ (runHead .pass).cycle.phase = .pass ∧ (runHead .pass).cycle.silenceOver = false)
      ∧ (early.context = some c ∧ early.cycle.station = .run ∧ early.cycle.silenceOver = false
        ∧ early.cycle.phase = .check ∧ early.result.queue.length < 8
        ∧ ∀ r ∈ c.reasons, reasonCode .markError < reasonCode r) := by decide

theorem witness_RejectRunCountsTheRejects :
    let c (r : Reason) : CanContext := { can with reasons := [r] }
    let s (r : Reason) (limit run : Nat) : State :=
      let u := underRecipe { recipe0 with rejectLimit := limit } (canHead .sealed (c r))
      { u with result := { u.result with rejectRun := run } }
    let counted (r : Reason) : Prop :=
      r ≠ .good ∧ ¬(r = .noCan ∨ r = .skippedZero ∨ r = .headStopped ∨ r = .headFaulted)
    (can.reasons = [] ∧ chooseReason can.reasons = .good ∧ chooseReason (c .noCan).reasons = .noCan
        ∧ counted (chooseReason (c .lowDose).reasons))
      ∧ ((s .lowDose 0 3).params.rejectLimit = 0
        ∧ (s .lowDose 5 3).result.rejectRun + 1 < (s .lowDose 5 3).params.rejectLimit
        ∧ (s .lowDose 5 4).params.rejectLimit ≤ (s .lowDose 5 4).result.rejectRun + 1
        ∧ 1 ≤ (s .lowDose 1 0).params.rejectLimit)
      ∧ ((s .lowDose 5 4).latched .rejectRun = false
        ∧ ({ s .lowDose 5 4 with
            fault := { latched := 512, enables := 15, alert := true } } : State).latched .rejectRun
          = true)
      ∧ ((s .lowDose 5 4).cycle.station = .run ∧ (s .lowDose 5 4).cycle.phase = .sealed
        ∧ (s .lowDose 5 4).context = some (c .lowDose)) := by decide

theorem witness_CrimpSampleSeatsAndForms :
    ((crimpHead .idle).crimp.state = .idle ∧ (crimpHead .done).crimp.state = .done
        ∧ (crimpHead .seat).crimp.state = .seat ∧ (crimpHead .dwell).crimp.state = .dwell)
      ∧ ((crimpHead .form).crimp.state = .form
        ∧ (crimpHead .form).context
            = some { can with crimp := some { outcome := .pending, peak := 0, depth := 0 } }) := by
  decide

theorem witness_CrimpSampleInReleaseJudgesTheCrimp :
    let part : CrimpPart := { outcome := .pending, peak := 0, depth := 0 }
    let s := crimpHead .release
    let good : State := { s with crimp := { s.crimp with peak := 5000 } }
    (s.crimp.state = .release ∧ s.cycle.phase = .crimp
        ∧ s.context = some { can with crimp := some part } ∧ s.gas.stage = .idle)
      ∧ ((s.params.openDepth : Int) < max 0 (min 8000 301)
        ∧ max 0 (min 8000 300) ≤ (s.params.openDepth : Int))
      ∧ (s.crimp.failure = .none ∧ ¬s.params.minForce ≤ s.crimp.peak)
      ∧ (good.crimp.failure = .none ∧ good.params.minDepth ≤ good.crimp.finalDepth
        ∧ good.crimp.finalDepth ≤ good.params.maxDepth
        ∧ good.params.minForce ≤ good.crimp.peak ∧ good.crimp.peak ≤ good.params.maxForce)
      ∧ ({ can with gasOpenTaken := true }.gasOpenTaken = true
        ∧ { can with gasOpenTaken := true }.gasCloseTaken = false) := by decide

theorem witness_CrimpTimersEndTheirStates :
    let s := queued 7 (crimpHead .release)
    let at60 := crimpHead .form
    let jammed : State := { s with fault := { latched := 2, enables := 15, alert := true } }
    ((crimpHead .seat).crimp.timer = .seat 0 ∧ 0 + recipe0.seatTime * 500 ≤ (crimpHead .seat).clock)
      ∧ (at60.crimp.state = .form ∧ at60.crimp.timer = .form 0
        ∧ 0 + at60.params.formTime * 500 = at60.clock
        ∧ (atClock 29999 at60).clock < 0 + at60.params.formTime * 500)
      ∧ ((crimpHead .dwell).crimp.timer = .dwell 0
        ∧ 0 + recipe0.dwellTime * 500 ≤ (crimpHead .dwell).clock)
      ∧ (at60.crimp.state ≠ .release ∧ s.crimp.timer = .release 0
        ∧ 0 + s.params.releaseTime * 500 ≤ s.clock ∧ jammed.latched .crimpJam = true)
      ∧ s.context = some { can with crimp := some { outcome := .pending, peak := 0, depth := 0 } }
      ∧ s.crimp.state = .release ∧ s.cycle.station = .run ∧ s.latched .crimpJam = false
      ∧ s.result.queue.length < 8 ∧ s.line.faultSlot.body = .empty := by decide

theorem witness_TransactionsSetChannelsAndSamples :
    let both : State := { head .ready with sensor := sensing }
    let third : State :=
      { both with sensor := { sensing with bell := { sensing.bell with misses := 2 } } }
    let due : State := { both with sensor := { sensing with headerLostDue := true } }
    let zeroing : State :=
      scanning .bell { runHead .returning with sensor := { sensing with zeroing := .collecting 0 } }
    (both.sensor.transaction = none
        ∧ (scanning .header both).sensor.transaction = some { channel := .header, since := 19900, startMade := true }
        ∧ (scanning .bell both).sensor.transaction = some { channel := .bell, since := 19900, startMade := true })
      ∧ (both.sensor.header.validity = .valid ∧ both.cycle.station ≠ .loading
        ∧ (channelAfter goodReply both.sensor.bell).validity = .valid)
      ∧ (third.sensor.bell.validity ≠ .stale
        ∧ (channelAfter missedReply third.sensor.bell).validity = .stale)
      ∧ (due.sensor.headerLostDue = true ∧ both.sensor.headerLostDue = false)
      ∧ (after (.sensorTransactionEnd .bell goodReply) zeroing).sensor.zeroing ≠ .idle := by decide

theorem witness_PressureSampleCreditsTheRunningPulse :
    let s := scanning .bell (pulseHead 5)
    let full : GasPart := { gas0 with mass := 49999999 }
    let huge : State :=
      { underRecipe { recipe0 with targetMass := 60000000 } s with
        context := some { can with gas := some full } }
    let sum := huge.params.coefficient * 1400 + 7
    (s.sensor.transaction = some { channel := .bell, since := 19900, startMade := true }
        ∧ (channelAfter { goodReply with word := 0 } s.sensor.bell).validity = .valid
        ∧ (channelAfter missedReply s.sensor.bell).validity = .valid)
      ∧ (s.gas.stage = .pulse ∧ s.cycle.station = .run ∧ s.dose.running = true
        ∧ s.context = some { can with gas := some gas0 }
        ∧ s.sensor.header.validity = .valid ∧ s.sensor.headerLostDue = false
        ∧ s.cycle.silenceOver = false)
      ∧ (s.dose.elapsed + 1 ≠ s.dose.planned
        ∧ min 50000000 (gas0.mass + sum / 4096) < s.params.targetMass)
      ∧ (huge.gasPart = some full ∧ huge.gasFb = true ∧ 50000000 ≤ full.mass + sum / 4096
        ∧ min 50000000 (full.mass + sum / 4096) < huge.params.targetMass) := by decide

theorem witness_PulseEndsAndIsJudgedAtItsReport :
    let s := scanning .bell (pulseHead 1)
    let rise : SensorReply := { goodReply with word := 0x328 }
    let pcAfter (r : SensorReply) : Nat :=
      (formSample { s.sensor with bell := channelAfter r s.sensor.bell }).pc
    let shown : State := { s with gasFb := false }
    (s.gas.stage = .pulse ∧ s.cycle.station = .run
        ∧ s.dose.running = true ∧ gas0.pulses.getLast? = some pulse0
        ∧ s.sensor.header.validity = .valid ∧ s.sensor.headerLostDue = false
        ∧ s.cycle.silenceOver = false ∧ s.gasFb = true
        ∧ s.context = some { can with gas := some gas0 }
        ∧ s.sensor.transaction = some { channel := .bell, since := 19900, startMade := true }
        ∧ (channelAfter rise s.sensor.bell).validity = .valid)
      ∧ s.dose.elapsed + 1 = s.dose.planned
      ∧ (¬pcAfter rise < pulse0.pcAtStart + s.params.leastRise ∧ s.gas.feedbackSeen = true)
      ∧ ((channelAfter { goodReply with word := 0 } s.sensor.bell).validity = .valid
        ∧ pcAfter { goodReply with word := 0 } < pulse0.pcAtStart + s.params.leastRise)
      ∧ (¬gas0.strikes ≤ 1 ∧ { gas0 with strikes := 1 }.strikes ≤ 1)
      ∧ (shown.gasFb = false ∧ shown.dose.elapsed + 1 = shown.dose.planned
        ∧ shown.params.settleTime ≠ 0 ∧ { recipe0 with settleTime := 0 }.settleTime = 0) := by decide

theorem witness_LostChannelEndsGassing :
    let s := scanning .bell (pulseHead 5)
    let under (u : SensorUnit) : State := scanning .bell { pulseHead 5 with sensor := u }
    let third := under { sensing with bell := { sensing.bell with misses := 2 } }
    let stale := under { sensing with header := { sensing.header with validity := .stale } }
    let due :=
      under
        { sensing with
          header := { sensing.header with validity := .stale, misses := 3 }, headerLostDue := true }
    (s.cycle.station = .run ∧ s.context = some { can with gas := some gas0 }
        ∧ s.gas.stage = .pulse ∧ s.cycle.silenceOver = false
        ∧ stale.sensor.transaction = some { channel := .bell, since := 19900, startMade := true })
      ∧ (¬(stale.sensor.header.validity = .valid
          ∧ (channelAfter goodReply stale.sensor.bell).validity = .valid)
        ∧ stale.sensor.headerLostDue = false
        ∧ ¬(stale.sensor.bell.validity ≠ .stale
          ∧ (channelAfter goodReply stale.sensor.bell).validity = .stale))
      ∧ (third.sensor.bell.validity ≠ .stale
        ∧ (channelAfter missedReply third.sensor.bell).validity = .stale
        ∧ third.latched .bellLost = false ∧ third.result.queue.length < 8)
      ∧ (due.sensor.headerLostDue = true ∧ due.latched .headerLost = false
        ∧ due.sensor.header.validity ≠ .valid)
      ∧ (let check (h b : Validity) : State :=
          scanning .bell
            { canHead .check { can with gas := some gas0, check := some check0 } with
              gas := { State.reset.gas with stage := .check, checkTimer := some 0 }
              sensor :=
                { sensing with
                  header := { sensing.header with validity := h }
                  bell := { sensing.bell with validity := b } } }
        (check .valid .stale).gas.stage = .check
          ∧ (channelAfter missedReply (check .valid .stale).sensor.bell).validity ≠ .valid
          ∧ (check .stale .valid).sensor.header.validity ≠ .valid
          ∧ (check .stale .valid).sensor.headerLostDue = false
          ∧ (channelAfter goodReply (check .stale .valid).sensor.bell).validity = .valid) := by decide

theorem witness_SamplesMarkTheOpenContext :
    let s := scanning .bell (gasHead .claim)
    let low : State := { s with sensor := { s.sensor with zeroOffset := 102 } }
    let held : State := { s with hold := { table := [(4, 20)], asserted := false, resend := none } }
    (s.sensor.transaction = some { channel := .bell, since := 19900, startMade := true }
        ∧ s.context = some { can with gas := some gas0 } ∧ s.gas.stage = .claim)
      ∧ ((channelAfter { goodReply with word := 0 } low.sensor.bell).validity = .valid
        ∧ ((channelAfter { goodReply with word := 0 } low.sensor.bell).reading.toNat : Int)
            - low.sensor.zeroOffset + 101 < 0)
      ∧ (held.hold.table.isEmpty = false ∧ s.hold.table.isEmpty = true) := by decide

theorem witness_ZeroingTimeIsGrantedAndEnds :
    let s (n r : Nat) : State :=
      { head .run with
        sensor :=
          { sensing with
            zeroing := .collecting 0, zeroSamples := List.replicate n (BitVec.ofNat 12 r) } }
    let tested (period : Nat) : State :=
      withDebt 1
        { runHead .returning with
          cycle :=
            { (runHead .returning).cycle with
              zeroTest := some 10000, period := some period, infeedRef := some 0 } }
    let time (period : Nat) : Int := (period : Int) * 500 - ((10000 - 0 : Nat) : Int) - 20 * 500
    ((head .run).sensor.zeroing = .idle ∧ (s 15 5).sensor.zeroing = .collecting 0
        ∧ 0 + (s 15 5).params.zeroingTime * 500 = (s 15 5).clock
        ∧ (atClock 19999 (s 15 5)).clock < 0 + (s 15 5).params.zeroingTime * 500
        ∧ (s 15 5).cycle.silenceOver = false ∧ (s 15 5).sensor.zeroSamples.length < 16)
      ∧ ((s 16 201).sensor.zeroSamples.length = 16
        ∧ 200 < ((s 16 201).sensor.zeroSamples.map BitVec.toNat).sum / 16
        ∧ (s 16 201).latched .zeroDrift = false)
      ∧ ¬200 < ((s 16 200).sensor.zeroSamples.map BitVec.toNat).sum / 16
      ∧ ((head .run).cycle.zeroTest = none ∧ (atClock 19999 (tested 100)).clock < 10000 + 20 * 500
        ∧ ((tested 100).cycle.zeroTest = some 10000 ∧ 10000 + 20 * 500 ≤ (tested 100).clock
          ∧ (tested 100).cycle.station = .run ∧ (tested 100).gas.stage = .idle
          ∧ (tested 100).gas.ventSince ≤ 10000))
      ∧ ((((tested 90).params.zeroingTime : Int) + 10) * 500 ≤ time 90
        ∧ ¬(((tested 89).params.zeroingTime : Int) + 10) * 500 ≤ time 89) := by decide

theorem witness_SilenceParksAnIdleHead :
    let s := runHead .returning
    let counted : State := { s with cycle := { s.cycle with silenceOver := true, grant := .granted } }
    let ending : State :=
      { counted with sensor := { sensing with zeroing := .collecting 0 } }
    let u (s : State) : State :=
      after .zeroingTimerExpiry { s with cycle := { s.cycle with silenceOver := false } }
    ((head .ready).cycle.station ≠ .run ∧ (head .run).cycle.silence = none)
      ∧ (s.cycle.station = .run ∧ s.cycle.silence = some 20000 ∧ s.cycle.period = none
        ∧ 20000 + 2000 * 500 ≤ (atClock 1020000 s).clock
        ∧ (atClock 1019999 s).clock < 20000 + 2000 * 500)
      ∧ (s.cycle.phase = .returning ∧ s.cycle.grant = .none ∧ s.draw.self = none
        ∧ s.line.openSlot.body = .empty ∧ s.line.shutSlot.body = .empty
        ∧ s.line.holdSlot.body = .empty ∧ s.hold.asserted = false)
      ∧ (runHead .sealed).cycle.phase ≠ .returning
      ∧ ((atClock 250000 (head .loading)).cycle.loadingSince < 250000
        ∧ (250000 - (head .loading).cycle.loadingSince) % (500 * 500) = 0)
      ∧ (ending.cycle.station = .run ∧ ending.cycle.silenceOver = true
        ∧ ending.cycle.grant ≠ .none ∧ ending.gas.stage ≠ .claim
        ∧ (u ending).cycle.station = .run ∧ (u ending).cycle.phase = .returning
        ∧ (u ending).cycle.grant = .none ∧ (u counted).cycle.grant ≠ .none) := by decide

theorem witness_SilenceParksAnIdleHead_commands :
    (∀ straps, Instr.zeroingTimerExpiry ≠ .reset straps) ∧ (∀ b, Instr.zeroingTimerExpiry ≠ .mkInfeed b)
      ∧ Instr.zeroingTimerExpiry ≠ .silenceLimit :=
  ⟨(fun _ h => nomatch h), (fun _ h => nomatch h), (fun h => nomatch h)⟩

theorem witness_FeedbackIsSeenInsideItsWindow :
    let closing : State :=
      { gasHead .settle with gas := { (gasHead .settle).gas with closeWindow := some 0 } }
    let known : State := { head .faulted with gas := { State.reset.gas with stuckEpisode := true } }
    let window : GasUnit := { (gasHead .pulse).gas with feedbackWindow := some 17500 }
    (gasHead .pulse).gas.stage = .pulse
      ∧ (window.feedbackWindow = some 17500 ∧ 17500 + 5 * 500 ≤ (gasHead .pulse).clock
        ∧ (atClock 19999 (gasHead .pulse)).clock < 17500 + 5 * 500
        ∧ (gasHead .pulse).gas.feedbackWindow = none)
      ∧ (closing.gas.stage ≠ .pulse ∧ closing.gas.closeWindow ≠ none)
      ∧ (known.gas.stage ≠ .pulse ∧ known.gas.stuckEpisode = true) := by decide

theorem witness_ValveMovesWithGasOff :
    let closing (st : Station) : State :=
      { head st with gasFb := true, gas := { State.reset.gas with closeWindow := some 17500 } }
    let settling : State :=
      { gasHead .settle with gas := { (gasHead .settle).gas with closeWindow := some 17500 } }
    let known (st : Station) : State :=
      { head st with gas := { State.reset.gas with stuckEpisode := true } }
    ((head .ready).gas.closeWindow = none ∧ (closing .run).gas.closeWindow = some 17500
        ∧ 17500 + 5 * 500 ≤ (closing .run).clock
        ∧ (atClock 19999 (closing .run)).clock < 17500 + 5 * 500 ∧ (gasHead .pulse).gas.stage = .pulse
        ∧ { closing .run with gasFb := false }.gasFb = false)
      ∧ ((closing .run).gasFb = true ∧ (closing .run).gas.stage ≠ .pulse
        ∧ (closing .run).gas.stuckEpisode = false
        ∧ (closing .run).latched .valveStuck = false
        ∧ ({ closing .run with
            fault := { latched := 1, enables := 15, alert := true } } : State).latched .valveStuck = true
        ∧ (head .loading).cycle.station = .loading
        ∧ (head .loading).draw.self = none ∧ (closing .run).cycle.station ≠ .loading)
      ∧ ((closing .run).cycle.silenceOver = false ∧ (head .run).gas.stuckEpisode = false
        ∧ settling.gas.closeWindow ≠ none ∧ settling.gas.stage = .settle
        ∧ settling.params.settleTime ≠ 0
        ∧ (underRecipe { recipe0 with settleTime := 0 } settling).params.settleTime = 0
        ∧ (closing .run).gas.stage ≠ .settle)
      ∧ ((known .loading).gas.closeWindow = none ∧ (known .loading).gas.stuckEpisode = true) := by
  decide

theorem witness_PlanAndCheckDecideGassing :
    let g : GasPart := { gas0 with mass := 6300000 }
    let s := gasHead .plan
    let checked := underRecipe { recipe0 with checkInterval := 1 } s
    let single := underRecipe { recipe0 with maxPulses := 1 } s
    let blind : State := { s with dose := { s.dose with drive := none, rate := none } }
    let slow : State := { s with dose := { s.dose with rate := some 0 } }
    let held : State := { s with hold := { s.hold with table := [(4, 1)] } }
    let c : CanContext := { can with gas := some gas0, check := some check0 }
    let sealing : State :=
      { underRecipe { recipe0 with checkInterval := 40 } (canHead .check c) with
        gas := { State.reset.gas with stage := .check, checkTimer := some 0 } }
    (s.context = some { can with gas := some gas0 } ∧ s.gas.stage ≠ .settle
        ∧ 12500 + s.params.settleTime * 500 ≤ s.clock
        ∧ (atClock 19999 s).clock < 12500 + s.params.settleTime * 500
        ∧ { (gasHead .settle).gas with settleTimer := some 12500 }.settleTimer = some 12500
        ∧ (gasHead .settle).gas.stage = .settle ∧ (gasHead .settle).gas.settleTimer = none)
      ∧ (s.params.targetMass ≤ g.mass + s.params.tolerance ∧ s.params.checkInterval = 0
        ∧ checked.params.checkInterval ≠ 0)
      ∧ (¬s.params.targetMass ≤ gas0.mass + s.params.tolerance
        ∧ single.params.maxPulses ≤ gas0.pulses.length ∧ ¬s.params.maxPulses ≤ gas0.pulses.length)
      ∧ (blind.dose.drive = none ∧ s.dose.drive ≠ none ∧ s.dose.rate ≠ none)
      ∧ (held.hold.table ≠ [] ∧ slow.dose.rate = some 0 ∧ s.hold.table = [])
      ∧ ((gasHead .settle).gas.stage ≠ .check ∧ sealing.gas.stage = .check
        ∧ sealing.gas.checkTimer = some 0 ∧ 0 + sealing.params.checkInterval * 500 ≤ sealing.clock
        ∧ (atClock 19999 sealing).clock < 0 + sealing.params.checkInterval * 500
        ∧ sealing.context = some c ∧ c.gas = some gas0 ∧ c.check = some check0)
      ∧ ((scanning .bell s).sensor.transaction
            = some { channel := .bell, since := 19900, startMade := true }
        ∧ s.gas.stage = .plan ∧ s.cycle.station ≠ .loading ∧ s.cycle.silenceOver = false
        ∧ s.sensor.headerLostDue = false ∧ s.sensor.header.validity = .valid
        ∧ (channelAfter goodReply s.sensor.bell).validity = .valid) := by decide

theorem witness_SlotsKeepTheNewestFrame :
    let stuck : FaultFrame := { cell := .valveStuck, zone := 1, valveOpen := true }
    let jam : FaultFrame := { cell := .crimpJam, zone := 1, valveOpen := false }
    (stuck.cell = .valveStuck ∧ jam.cell ≠ .valveStuck)
      ∧ (jam.cell ≠ .valveStuck ∨ jam.cell = .valveStuck) := by decide

theorem witness_LineIdleOffersTheFirstFrame :
    let l := (quiet (head .ready)).line
    let s (l : LineUnit) : State := queued 1 { head .ready with line := l }
    let jam : FaultFrame := { cell := .crimpJam, zone := 1, valveOpen := false }
    let fault := s { l with faultSlot := { l.faultSlot with body := .pending jam } }
    let hold := s { l with holdSlot := { l.holdSlot with body := .pending { zone := 1, q := 20 } } }
    let shut :=
      s { l with shutSlot := { l.shutSlot with body := .pending { zone := 1, samples := 9 } } }
    let status := s { l with statusSlot := { l.statusSlot with body := .pending () } }
    let result := s { l with resultSlot := { l.resultSlot with body := .pending () } }
    ({ l with condition := .stuck }.condition = .stuck
        ∧ (sending .run .holdSlot .none).line.attempt ≠ none
        ∧ { l with receiving := some [false] }.receiving ≠ none
        ∧ (s { l with recessiveRun := 10 }).line.recessiveRun < 11)
      ∧ ((s l).line.condition ≠ .stuck ∧ (s l).line.attempt = none ∧ (s l).line.receiving = none
        ∧ ¬(s l).line.recessiveRun < 11 ∧ (s l).strapsValid = true ∧ slotPending (s l).line.resultSlot = false
        ∧ (s { l with station := 0 }).strapsValid = false
        ∧ (s { l with station := 31 }).strapsValid = false
        ∧ (s { l with station := 30 }).strapsValid = true)
      ∧ (fault.line.faultSlot.body = .pending jam
        ∧ hold.line.holdSlot.body = .pending { zone := 1, q := 20 }
        ∧ slotPending hold.line.faultSlot = false)
      ∧ (shut.line.shutSlot.body = .pending { zone := 1, samples := 9 }
        ∧ slotPending shut.line.holdSlot = false)
      ∧ (status.line.statusSlot.body = .pending () ∧ slotPending status.line.openSlot = false
        ∧ slotPending status.line.shutSlot = false)
      ∧ (result.line.resultSlot.body = .pending () ∧ slotPending result.line.statusSlot = false
        ∧ result.result.queue = record0 :: []) := by decide

theorem witness_LineIdleDecidesThePendingOpen :
    let s : State :=
      { gasHead .claim with
        line :=
          { (gasHead .claim).line with
            recessiveRun := 11
            openSlot := { body := .pending { zone := 1 }, next := none, failures := 0 } }
        draw := { State.reset.draw with claim := .placed, keyed := [(4, .peer 9)] } }
    let full : State := { s with draw := { s.draw with keyed := [(4, .peer 9), (6, .stuck)] } }
    let slow : State := { s with dose := { s.dose with rate := some 0 } }
    let blind : State := { s with dose := { s.dose with drive := none, rate := none } }
    (s.line.condition ≠ .stuck ∧ s.line.attempt = none ∧ s.line.receiving = none
        ∧ 11 ≤ s.line.recessiveRun ∧ s.strapsValid = true ∧ s.cycle.station = .run ∧ s.gas.stage = .claim
        ∧ s.draw.claim = .placed)
      ∧ (s.context = some { can with gas := some gas0 }
        ∧ s.line.openSlot.body = .pending { zone := 1 }
        ∧ slotPending s.line.faultSlot = false ∧ slotPending s.line.holdSlot = false
        ∧ slotPending s.line.shutSlot = false
        ∧ gas0.mass + s.params.tolerance < s.params.targetMass)
      ∧ (s.dose.rate = some 6699 ∧ s.dose.drive ≠ none ∧ s.hold.table = []
        ∧ s.nonSelf < s.params.openLimit ∧ s.latched .lineDead = false)
      ∧ (slow.dose.rate = some 0 ∧ blind.dose.drive = none
        ∧ ¬full.nonSelf < full.params.openLimit) := by decide

theorem witness_FailedAttemptsReturnTheirSlots :
    let s := sending .run .openSlot .none
    let cancelled : State := { s with draw := { s.draw with claim := .cancelled } }
    (s.cycle.silenceOver = false ∧ (head .run).line.attempt = none
        ∧ (sending .run .shutSlot .fourth).line.abort ≠ .none)
      ∧ (s.line.attempt = some { slot := .openSlot, payload := [], since := 19835 }
        ∧ s.line.abort = .none ∧ s.draw.claim ≠ .cancelled)
      ∧ cancelled.draw.claim = .cancelled
      ∧ (sending .run .holdSlot .short).line.abort = .short
      ∧ (19835 + 165 ≤ s.clock ∧ s.clock < 19836 + 165)
      ∧ (s.clock < 19999 + 2 ∧ 19998 + 2 ≤ s.clock ∧ s.clock ≤ 19992 + 8 ∧ 19991 + 8 < s.clock)
      ∧ (s.clock ≤ 20000 ∧ 19999 < s.clock ∧ s.clock ≤ 19959 + 41 ∧ 19958 + 41 < s.clock) := by decide

theorem witness_FourthFailureEmptiesTheSlot :
    let s (k : SlotKind) : State := sending .run k .fourth
    let dead : State := { s .openSlot with fault := { (s .openSlot).fault with latched := 16 } }
    let held : State :=
      { dead with
        draw := { State.reset.draw with claim := .cancelled, requestHeld := true }
        gas := { State.reset.gas with stage := .claim } }
    let gassing : State := { gasHead .pulse with line := (s .shutSlot).line }
    let waits : State := { s .holdSlot with draw := { State.reset.draw with claim := .placed } }
    ((s .openSlot).line.attempt = some { slot := .openSlot, payload := [], since := 19835 }
        ∧ (s .openSlot).line.abort = .fourth ∧ 19835 + 165 ≤ (s .openSlot).clock
        ∧ (s .openSlot).cycle.silenceOver = false ∧ (s .openSlot).result.queue.length ≤ 8)
      ∧ ((s .openSlot).latched .lineDead = false ∧ (s .openSlot).cycle.station ≠ .loading
        ∧ (s .openSlot).cycle.station ≠ .faulted)
      ∧ (dead.latched .lineDead = true ∧ (sending .loading .resultSlot .fourth).cycle.station = .loading
        ∧ (sending .faulted .holdSlot .fourth).cycle.station = .faulted)
      ∧ (gassing.context ≠ none ∧ gassing.gas.stage = .pulse ∧ gassing.gasFb = false
        ∧ gassing.line.attempt = some { slot := .shutSlot, payload := [], since := 19835 })
      ∧ ((s .faultSlot).line.attempt = some { slot := .faultSlot, payload := [], since := 19835 }
        ∧ (s .statusSlot).line.attempt = some { slot := .statusSlot, payload := [], since := 19835 }
        ∧ (s .resultSlot).line.attempt = some { slot := .resultSlot, payload := [], since := 19835 })
      ∧ waits.draw.claim = .placed
      ∧ (held.latched .lineDead = true ∧ held.draw.claim = .cancelled
        ∧ held.draw.requestHeld = true ∧ held.gas.stage = .claim
        ∧ held.line.attempt = some { slot := .openSlot, payload := [], since := 19835 }) := by decide

theorem witness_FrameCompletionTakesTheNextFrame :
    let on (k : SlotKind) : Option Attempt := some { slot := k, payload := [], since := 19835 }
    ((sending .run .faultSlot .none).cycle.silenceOver = false
        ∧ 19835 + 41 + 8 * 0 ≤ (sending .run .faultSlot .none).clock
        ∧ (head .run).clock < 19960 + 41 + 8 * 0)
      ∧ ((head .run).line.attempt = none ∧ (sending .run .faultSlot .short).line.abort ≠ .none)
      ∧ ((sending .run .faultSlot .none).line.abort = .none
        ∧ (sending .run .faultSlot .none).line.attempt = on .faultSlot)
      ∧ ((sending .run .holdSlot .none).line.attempt = on .holdSlot
        ∧ (sending .run .shutSlot .none).line.attempt = on .shutSlot
        ∧ (sending .run .statusSlot .none).line.attempt = on .statusSlot)
      ∧ (sending .run .resultSlot .none).line.attempt = on .resultSlot := by decide

theorem witness_OwnOpenCompletionStartsThePulse :
    let s : State :=
      { gasHead .claim with
        line := (sending .run .openSlot .none).line
        draw := { State.reset.draw with claim := .placed }
        dose := { (gasHead .claim).dose with attemptLength := some 200 } }
    let cut : State := { s with draw := { s.draw with claim := .cancelled } }
    (s.cycle.silenceOver = false
        ∧ s.line.attempt = some { slot := .openSlot, payload := [], since := 19835 }
        ∧ 19835 + 41 + 8 * 0 ≤ s.clock ∧ s.line.abort = .none)
      ∧ (s.draw.claim = .placed ∧ s.gas.stage = .claim
        ∧ s.context = some { can with gas := some gas0 } ∧ s.dose.attemptLength = some 200)
      ∧ cut.draw.claim ≠ .placed := by decide

theorem witness_LineConditionAndDeadLine :
    let s : State := after .lineStuck (held (head .ready))
    let dead : State := { s with fault := { s.fault with latched := 16 } }
    let busy : State := after .lineStuck (held (canHead .gas can))
    ((head .ready).line.condition ≠ .stuck
        ∧ s.line.stuckSince = some 20000 ∧ 20000 + 50 * 500 ≤ (atClock 45000 s).clock
        ∧ (atClock 44999 s).clock < 20000 + 50 * 500
        ∧ { s.line with stuckReported := true }.stuckReported = true)
      ∧ (s.line.condition = .stuck ∧ s.line.stuckReported = false
        ∧ s.latched .lineDead = false ∧ dead.latched .lineDead = true)
      ∧ (s.line.faultSlot.body = .empty ∧ s.cycle.station ≠ .loading
        ∧ s.cycle.station ≠ .faulted ∧ busy.context ≠ none)
      ∧ ((after .lineStuck (held (head .loading))).cycle.station = .loading
        ∧ (held (head .ready)).line.dominantRun = 200 ∧ (head .ready).line.dominantRun < 200) := by
  decide

theorem witness_AdmissionTestPlacesOrWithdrawsTheOpen :
    let s (c : Claim) : State := { gasHead .claim with draw := { State.reset.draw with claim := c } }
    let full (c : Claim) : State :=
      { s c with
        draw := { (s c).draw with keyed := [(4, .peer 9), (6, .stuck)] }
        line :=
          { (s c).line with
            openSlot := { body := .pending { zone := 1 }, next := none, failures := 0 } } }
    ((gasHead .plan).gas.stage ≠ .claim ∧ (s .none).draw.claim = .none
        ∧ (s .cancelled).draw.claim = .cancelled)
      ∧ ((s .waiting).admits = true ∧ (full .waiting).admits = false
        ∧ (s .waiting).draw.claim = .waiting ∧ (s .none).admits = true
        ∧ (full .none).admits = false)
      ∧ ((full .placed).draw.claim = .placed ∧ slotPending (full .placed).line.openSlot = true
        ∧ slotPending (s .placed).line.openSlot = false)
      ∧ (slotOnLine (sending .run .openSlot .none).line.openSlot = true
        ∧ slotOnLine (s .placed).line.openSlot = false) := by decide

theorem witness_BadFramesAreCountedAndReserve :
    let p (a b c d : Option Nat) : Phantoms := { first := a, second := b, third := c, fourth := d }
    ((p none none none none).first = none ∧ (p (some 1) none none none).second = none
        ∧ (p (some 1) (some 1) none none).third = none
        ∧ (p (some 1) (some 1) (some 1) none).fourth = none)
      ∧ (p (some 1) (some 2) (some 3) (some 3)
          = { first := some 1, second := some 2, third := some 3, fourth := some 3 }
        ∧ 1 ≤ 2 ∧ 1 ≤ 3)
      ∧ ((head .loading).cycle.station = .loading ∧ (head .ready).cycle.station ≠ .loading) := by
  decide

/-- Sender 4 is heard by station 1. -/
theorem witness_hears : (head .ready).hears 4 ∧ (loaded).hears 0 :=
  ⟨⟨rfl, by decide, by decide⟩, ⟨rfl, by decide, by decide⟩⟩

theorem witness_DrawFramesActOnTheSendersEntry :
    ((9 : StationNo) = (head .ready).line.station ∨ (31 : StationNo) = everyStation)
      ∧ (head .ready).cycle.station ≠ .loading
      ∧ ((1 : Byte).toNat = (head .ready).params.zone ∧ (1 : Byte).toNat ≤ 3)
      ∧ (List.replicate 15 (0 : Byte)).length = 15 := by decide

theorem witness_GoodFramesPassTheFilter :
    ((4 : StationNo) ≠ everyStation ∧ (4 : StationNo) ≠ (head .ready).line.station
        ∧ (List.replicate 15 (0 : Byte)).length = 15 ∧ 1 ≤ [(7 : Byte)].length
        ∧ (List.replicate 14 (7 : Byte)).length ≤ 14)
      ∧ ({ head .ready with line := { (head .ready).line with station := 0 } }.strapsValid = false
        ∧ ((9 : StationNo) ≠ (head .ready).line.station ∧ (9 : StationNo) ≠ everyStation))
      ∧ ((head .loading).cycle.station = .loading ∧ 3 < (4 : Byte).toNat
        ∧ (2 : Byte).toNat ≠ (head .ready).params.zone)
      ∧ ((head .faulted).cycle.station = .faulted ∧ (head .run).cycle.station ≠ .loading
        ∧ (head .run).cycle.station ≠ .ready)
      ∧ ((head .ready).strapsValid = true ∧ (head .ready).latched .duplicate = false
        ∧ Instr.start 1 9
            ∈ [Instr.start (head .ready).line.station 9, .stop (head .ready).line.station 9]) := by
  decide

theorem witness_HoldFrameSetsTheSendersEntry :
    let s : State :=
      { head .ready with
        line :=
          { (head .ready).line with
            holdSlot := { body := .pending { zone := 1, q := 20 }, next := none, failures := 0 } }
        hold := { table := [(1, 3), (4, 1)], asserted := true, resend := some 0 } }
    ((31 : StationNo) = everyStation ∧ s.cycle.station ≠ .loading
        ∧ (1 : Byte).toNat = s.params.zone ∧ (1 : Byte).toNat ≤ 3)
      ∧ (0 < (1 : Byte).toNat ∧ slotPending s.line.holdSlot = true ∧ s.hold.asserted = true)
      ∧ (slotPending (head .ready).line.holdSlot = false ∧ (head .ready).hold.asserted = false)
      ∧ ((0 : Byte).toNat = 0 ∧ tableGet (4 : StationNo).toNat (head .ready).hold.table = none
        ∧ tableGet (4 : StationNo).toNat s.hold.table ≠ none) := by decide

theorem witness_WatermarksAssertAndReleaseTheHold :
    let s (st : Station) (ph : Nat) (v : Validity) (b : Bool) : State :=
      { head st with
        sensor := { sensing with sample := { sensing.sample with ph := ph, header := v } }
        hold := { table := if b then [(1, 3)] else [], asserted := b, resend := none } }
    ((s .run 1289 .valid false).hold.asserted = false ∧ (s .run 1289 .valid false).hold.table = []
        ∧ (s .run 1289 .valid false).sensor.sample.ph < (s .run 1289 .valid false).params.lowPressure
        ∧ ¬(s .run 1290 .valid false).sensor.sample.ph
            < (s .run 1290 .valid false).params.lowPressure)
      ∧ ((s .run 0 .notYet false).sensor.sample.header = .notYet
        ∧ (s .run 0 .stale true).sensor.sample.header = .stale)
      ∧ ((s .parked 0 .valid false).cycle.station ≠ .ready
        ∧ (s .parked 0 .valid false).cycle.station ≠ .run)
      ∧ ((s .run 1299 .valid true).hold.asserted = true
        ∧ (s .run 1299 .valid true).sensor.sample.ph < (s .run 1299 .valid true).params.highPressure
        ∧ (s .run 1300 .valid true).params.highPressure
            ≤ (s .run 1300 .valid true).sensor.sample.ph)
      ∧ (let read (st : Station) (n : Nat) (v : Validity) (b : Bool) : State :=
          let u := s st 0 v b
          scanning .bell
            { u with
              sensor :=
                { u.sensor with header := { reading := BitVec.ofNat 12 n, validity := v, misses := 0 } } }
        let ph (u : State) : Nat := min 4095 (u.sensor.header.reading.toNat + 101)
        (read .ready 1188 .valid false).sensor.transaction
            = some { channel := .bell, since := 19900, startMade := true }
          ∧ (read .ready 1188 .valid false).sensor.headerLostDue = false
          ∧ (channelAfter goodReply sensing.bell).validity ≠ .stale
          ∧ ph (read .ready 1188 .valid false) < recipe0.lowPressure
          ∧ recipe0.lowPressure ≤ ph (read .ready 1189 .valid false)
          ∧ recipe0.highPressure ≤ ph (read .run 1199 .valid true)
          ∧ ph (read .run 1198 .valid true) < recipe0.highPressure
          ∧ (read .ready 0 .stale true).sensor.header.validity = .stale
          ∧ (read .ready 0 .stale true).hold.asserted = true) := by decide

theorem witness_LoadWritesTheImage :
    (head .loading).strapsValid = true ∧ (31 : StationNo) = everyStation
      ∧ 1 ≤ [(7 : Byte)].length ∧ (List.replicate 14 (7 : Byte)).length ≤ 14
      ∧ (head .loading).cycle.station = .loading ∧ (head .ready).cycle.station = .ready := by decide

set_option maxRecDepth 20000 in
theorem witness_LoadEndJudgesTheImage :
    let jam : State := { loaded with fault := { latched := 6, enables := 15, alert := true } }
    ((head .ready).cycle.station = .ready ∧ loaded.cycle.station = .loading)
      ∧ (loaded.anyF = false ∧ jam.latched .crimpJam = true ∧ cellNumber .crimpJam < 6
        ∧ jam.latched .valveStuck = false)
      ∧ (match judgeImage loaded.recipe.image 64 with
          | .ok _ => true
          | .error _ => false) = true
      ∧ (match judgeImage [] 64 with
          | .ok _ => false
          | .error cause => decide (cause = .check)) = true
      ∧ ((7 : Nat) < 8 ∧ 256 < (257 : Nat) ∧ checkSum [] 256 ≠ 0xFFFF)
      ∧ (checkSum [(0, 0xFF), (1, 0xFF)] 8 = 0xFFFF
        ∧ readByte [(0, 0xFF), (1, 0xFF)] 0 ≠ 1) := by decide

set_option maxRecDepth 20000 in
/-- The sections of the worked load stand at 2, 22, 46 and 57 (10, section 10.7). -/
theorem witness_ChainWalkFindsTheRecipe_walked : Walked loaded.recipe.image 62 [2, 22, 46, 57] := by
  unfold Walked; decide

set_option maxRecDepth 20000 in
theorem witness_ChainWalkFindsTheRecipe :
    let image := loaded.recipe.image
    (8 ≤ 64 ∧ 64 ≤ 256 ∧ checkSum image 64 = 0xFFFF ∧ readByte image 0 = 1)
      ∧ (linkAfter image [2, 22, 46, 57] = 0
        ∧ ([2, 22, 46, 57].find? (fun p => byteAt image p == 1) = some 2
          ∧ [2, 22, 46, 57].find? (fun p => byteAt image p == 2) = some 22
          ∧ [2, 22, 46, 57].find? (fun p => byteAt image p == 3) = some 46)) := by decide

/-- The images of a kind refused: a first link of 1, a GAS section without a body, a body past the area, no section
at all. -/
theorem witness_ChainWalkFindsTheRecipe_refused :
    (let low : List Host.Cell := [(0, 1), (1, 1), (6, 0xFE), (7, 0xFE)];
      checkSum low 8 = 0xFFFF ∧ readByte low 0 = 1 ∧ linkAfter low [] ≠ 0
        ∧ linkAfter low [] < lowestAfter low [])
      ∧ (let short : List Host.Cell := [(0, 1), (1, 2), (2, 1), (6, 0xFD), (7, 0xFD)];
        checkSum short 8 = 0xFFFF ∧ lowestAfter short [] ≤ 2 ∧ 2 + 3 + byteAt short 3 ≤ 6
          ∧ 1 ≤ byteAt short 2 ∧ byteAt short 3 < lengthNeeded (byteAt short 2))
      ∧ (let long : List Host.Cell := [(0, 1), (1, 2), (2, 1), (3, 2), (6, 0xFD), (7, 0xFB)];
        checkSum long 8 = 0xFFFF ∧ 2 + 3 ≤ 6 ∧ 6 < 2 + 3 + byteAt long 3)
      ∧ (let bare : List Host.Cell := [(0, 1), (6, 0xFE), (7, 0xFF)];
        checkSum bare 8 = 0xFFFF ∧ linkAfter bare [] = 0) := by decide

/-- A CHECK section walked, and a second one at the link after it. -/
theorem witness_ChainWalkFindsTheRecipe_repeated :
    let twice : List Host.Cell :=
      [(0, 1), (1, 2), (2, 4), (3, 6), (4, 11), (11, 4), (14, 0xEF), (15, 0xF3)]
    checkSum twice 16 = 0xFFFF ∧ Walked twice 14 [2] ∧ linkAfter twice [2] = 11
      ∧ lowestAfter twice [2] ≤ 11 ∧ 11 + 3 + byteAt twice 12 ≤ 14 ∧ byteAt twice 11 = 4
      ∧ [2].find? (fun p => byteAt twice p == 4) = some 2 := by
  unfold Walked; decide

theorem witness_StartAndStopMoveTheStation :
    let celled : State :=
      { head .standby with fault := { latched := 64, enables := 15, alert := true } }
    ((head .ready).cycle.station = .ready ∧ (head .standby).cycle.station = .standby
        ∧ (head .standby).fault.latched = 0)
      ∧ (celled.cycle.station = .standby ∧ celled.fault.latched ≠ 0)
      ∧ ((stopping (head .run)).cycle.station = .run
        ∧ (stopping (head .run)).cycle.stopPending = true)
      ∧ ((head .run).cycle.stopPending = false ∧ (head .parked).cycle.station = .parked) := by decide

theorem witness_StartAndStopMoveTheStation_stop :
    let asserting : State :=
      { runHead .returning with hold := { table := [(1, 3)], asserted := true, resend := none } }
    ((runHead .pass).cycle.station = .run ∧ (runHead .pass).cycle.phase = .pass
        ∧ (runHead .returning).cycle.phase = .returning ∧ (head .parked).cycle.station = .parked
        ∧ asserting.hold.asserted = true)
      ∧ ((runHead .crimp).cycle.station = .run ∧ (runHead .crimp).cycle.phase ≠ .returning
        ∧ (runHead .crimp).cycle.phase ≠ .pass ∧ (runHead .crimp).cycle.stopPending = false)
      ∧ (stopping (runHead .crimp)).cycle.stopPending = true
      ∧ ((head .ready).cycle.station = .ready ∧ (head .standby).cycle.station = .standby) := by
  decide

theorem witness_ClearTakesTheNamedCells :
    (head .faulted).strapsValid = true ∧ (1 : StationNo) = (head .faulted).line.station
      ∧ (head .faulted).cycle.station ≠ .loading := by decide

theorem witness_CountdownsAndResendKeepTheTables :
    let s : State :=
      { head .ready with hold := { table := [(1, 1), (4, 2)], asserted := true, resend := some 0 } }
    (s.cycle.silenceOver = false ∧ (head .loading).cycle.station = .loading
        ∧ s.cycle.station ≠ .loading)
      ∧ (s.hold.asserted = true ∧ tableGet s.ownKey s.hold.table ≠ none
        ∧ tableGet s.ownKey [(4, 1)] = none)
      ∧ (([(4, 1), (6, 2)] : Table Nat).filterMap (fun e => (countOne e.2).map (fun m => (e.1, m)))
        = [(6, 1)])
      ∧ ((head .ready).hold.asserted = false ∧ (head .ready).hold.resend = none
        ∧ s.hold.resend = some 0 ∧ 0 + max 1 (s.params.holdTime / 2) * 500 ≤ s.clock
        ∧ (atClock 4999 s).clock < 0 + max 1 (s.params.holdTime / 2) * 500) := by decide

theorem witness_DriveTermOfEverySample :
    let valid := (after (.sensorTransactionEnd .bell goodReply)
      (scanning .bell { head .ready with sensor := sensing })).sensor.sample
    let stale :=
      (after (.sensorTransactionEnd .bell goodReply) (scanning .bell (head .ready))).sensor.sample
    (1400 ≤ 4095 ∧ 700 ≤ 1400 / 2 ∧ 1400 / 2 < 701 ∧ 1399 < 1400)
      ∧ (valid.header = .valid ∧ valid.bell = .valid ∧ stale.header ≠ .valid) := by decide

theorem witness_DoseArithmeticIsExact :
    (4095 ≤ 4095 ∧ 700 ≤ 701 ∧ 65535 ≤ 65535)
      ∧ (1 ≤ 6699 ∧ recipe0.shortest ≤ recipe0.longest)
      ∧ (recipe0.shortest < plannedLength recipe0 6000000 6699
        ∧ plannedLength recipe0 6000000 6699 < recipe0.longest) := by decide

theorem witness_ClampsAndCheckSumAreTheRules : InRange recipe0 ∧ 2 ≤ 100 :=
  ⟨by constructor <;> decide, by decide⟩

theorem witness_ReasonOfARecordIsTheFirstCandidate :
    chooseReason [.leak, .crimpBad] ≠ .good ∧ Reason.leak ∈ [Reason.leak, .crimpBad]
      ∧ reasonCode .leak = reasonCode .leak := by decide

theorem witness_BitsOfTheLineDecideItsFrames :
    let s : State := sending .run .openSlot .none
    let reading : LineUnit := { (head .run).line with receiving := some [false] }
    let idle : LineUnit := { (head .run).line with condition := .idle }
    ((head .run).line.attempt = none ∧ (head .run).line.receiving = none
        ∧ (head .run).line.condition = .busy ∧ idle.condition = .idle
        ∧ { idle with condition := .stuck }.condition = .stuck)
      ∧ (s.line.attempt = some { slot := .openSlot, payload := [], since := 19835 }
        ∧ s.clock + 1 = 19835 + 166 ∧ s.line.abort = .none
        ∧ (sending .run .openSlot .fourth).line.abort ≠ .none)
      ∧ ((atPosition 1 s).clock + 1 = 19999 + 2 ∧ (atPosition 7 s).clock + 1 = 19993 + 8
        ∧ (atPosition 1 s).lineDrive = true ∧ 41 ≤ 41 + 8 * 0)
      ∧ reading.receiving = some [false] ∧ reading.attempt = none := by decide

theorem witness_BitsOfTheLineDecideItsFrames_claims :
    claimOf 0 4 ≠ claimOf 2 3
      ∧ lossAt 2 (bitsOf (claimOf 2 3).toNat 7) (bitsOf (claimOf 0 4).toNat 7) = some 2 := by decide

set_option maxRecDepth 20000 in
theorem witness_CheckOfAFrameIsItsCrc :
    let f : Frame := { frameClass := 3, sender := 0, kind := 10, target := 9, payload := [] }
    f.payload.length ≤ 15 ∧ judgeBits (frameBits f) = some f := by decide

theorem witness_FramesOnTheLineReadBack :
    let f : Frame :=
      { frameClass := 3, sender := 30, kind := 8, target := 31, payload := List.replicate 15 255 }
    (f.payload.length ≤ 15 ∧ fieldsGood f = true)
      ∧ ((head .run).strapsValid = true
        ∧ ({ slot := .holdSlot, payload := [1, 20], since := 0 } : Attempt).payload.length = 2) := by decide

theorem witness_OnlyNamedCommandsChangeAUnit :
    exec .mkGasopen (head .run) = .next (head .run)
      ∧ (∀ straps, Instr.mkGasopen ≠ .reset straps) ∧ (∀ b, Instr.mkGasopen ≠ .mkInfeed b) :=
  ⟨rfl, (fun _ h => nomatch h), (fun _ h => nomatch h)⟩

/-- A head in a pulse, with cells of class A latched, entries in both tables and a record queued, and a command
waiting. -/
def busyHead : State :=
  { queued 8 (pulseHead 5) with
    pending := [.mkGasopen]
    draw :=
      { self := some .driven, keyed := [(4, .peer 1), (30, .stuck)]
        phantoms := { first := some 500, second := none, third := none, fourth := none }
        claim := .none, requestHeld := false }
    hold := { table := [(1, 255), (4, 1)], asserted := true, resend := none }
    fault := { latched := 64, enables := 15, alert := true } }

theorem witness_busyHead_steps :
    step busyHead = .next { busyHead with pending := [] } := rfl

theorem witness_AlertFollowsTheCellsAtEveryStep : AlertAgrees busyHead := by
  unfold AlertAgrees; decide

theorem witness_PlainLawsHoldAtEveryStep :
    FaultsHold busyHead ∧ ImageLaw busyHead ∧ SensorLaw busyHead ∧ QueueLaw busyHead
      ∧ LineLaw busyHead ∧ MassLaw busyHead :=
  ⟨by unfold FaultsHold; decide, by unfold ImageLaw; decide, by constructor <;> decide,
    by constructor <;> decide, by constructor <;> decide, by constructor <;> decide⟩

theorem recipeLaw_busyHead : RecipeLaw busyHead :=
  ⟨by decide, fun p h => by cases h; exact witness_ClampsAndCheckSumAreTheRules.1⟩

theorem witness_RecipeAndTablesKeepTheirForm :
    RecipeLaw busyHead ∧ DrawLaw busyHead ∧ HoldLaw busyHead :=
  ⟨recipeLaw_busyHead,
    ⟨recipeLaw_busyHead, by decide, by decide, by decide, by decide, by decide⟩,
    ⟨recipeLaw_busyHead, by decide, by decide, by decide, by decide, by decide⟩⟩

theorem witness_PocketAndValveStayTogether : PocketLaw busyHead :=
  ⟨by unfold FaultsHold; decide, by decide, by decide, by decide, by decide, fun _ => rfl,
    by decide, by decide, by decide, by decide⟩

theorem witness_LawsHoldAtResetAndKeepGasSafe : PocketLaw busyHead ∧ busyHead.gasOn = true :=
  ⟨witness_PocketAndValveStayTogether, rfl⟩

theorem witness_PayloadsCarryTheirFields :
    let s := queued 8 (withDebt 4 busyHead)
    (s.sensor.zeroDebt ≤ 4 ∧ s.sensor.zeroOffset ≤ 200 ∧ s.draw.keyed.length ≤ 30
        ∧ s.hold.table.length ≤ 31 ∧ s.draw.self = some .driven ∧ s.result.queue.length ≤ 8
        ∧ s.recipe.loadedLength ≤ 256 ∧ s.result.dropCount ≤ 255)
      ∧ (record0.depth < 65536 ∧ record0.peak < 65536 ∧ record0.mass < 16777216
        ∧ record0.pulses ≤ 16 ∧ record0.strikesUsed ≤ 7 ∧ 255 ≤ 255) := by decide

end Sys2Proof.Tests
end

section
/-!
PROOFS. The state after RESET (O6), the laws that hold there and what the pocket's law gives of the outputs (O59).
-/

namespace Sys2Proof.Machine

/-- Settles O6: by the level of GAS_FB; with the valve open the stuck report runs in LOADING, where the station
stays and no SELF entry is made. -/
theorem resetStartsTheHeadAfresh : Obligations.ResetStartsTheHeadAfresh := by
  unfold Obligations.ResetStartsTheHeadAfresh
  intro straps s
  cases h : s.gasFb
  · simp [exec, execReset, h, State.reset, Slot.vacant]
  · simp [exec, execReset, h, State.reset, Slot.vacant, findStuckValve, reportF, drawTakesStuck,
      State.latched, isLatched, cellNumber, latch, retestIfDead, placeFault, placeStatus, formAlert,
      movesToFaulted, faultPlace, State.zoneByte, slotPlace]
    decide

/-! ## The laws at reset -/

theorem recipeLaw_reset : RecipeLaw State.reset :=
  ⟨by decide, by simp [State.reset]⟩

theorem drawLaw_reset : DrawLaw State.reset :=
  ⟨recipeLaw_reset, rfl, rfl, rfl, rfl, rfl⟩

theorem holdLaw_reset : HoldLaw State.reset :=
  ⟨recipeLaw_reset, rfl, fun _ => rfl, rfl, rfl, by simp [State.reset]⟩

theorem sensorLaw_reset : SensorLaw State.reset := by
  constructor <;> decide

theorem queueLaw_reset : QueueLaw State.reset := by
  constructor <;> decide

theorem lineLaw_reset : LineLaw State.reset := by
  constructor <;> decide

theorem massLaw_reset : MassLaw State.reset := by
  constructor <;> decide

theorem faultsHold_reset : FaultsHold State.reset := by
  unfold FaultsHold
  decide

theorem pocketLaw_reset : PocketLaw State.reset := by
  refine ⟨faultsHold_reset, ?_, ?_, ?_, ?_, ?_, ?_, ?_, ?_, ?_⟩ <;> simp [State.reset, gassingStage]

/-! ## What the pocket's law gives of the outputs -/

/-- Outside RUN the pocket is in RETURN without a context, so both sequencers are in IDLE. -/
theorem PocketLaw.rest {s : State} (h : PocketLaw s) (hs : s.cycle.station ≠ .run) :
    s.context = none ∧ s.gas.stage = .idle ∧ s.crimp.state = .idle := by
  have hc : s.context = none := h.contextOpen.2 (.inl (h.working hs))
  exact ⟨hc, h.quiet hc⟩

/-- A stage of gassing is met in RUN alone, in phase GAS. -/
theorem PocketLaw.gassing_run {s : State} (h : PocketLaw s) (hg : gassingStage s.gas.stage) :
    s.cycle.station = .run ∧ s.cycle.phase = .gas := by
  have hp := h.gassing hg
  by_contra hc
  have := h.working (fun hr => hc ⟨hr, hp⟩)
  simp [hp] at this

theorem PocketLaw.gasSafe {s : State} (h : PocketLaw s) : GasSafe s := by
  intro hon
  have hs : s.gas.stage = .pulse := by simpa [State.gasOn] using hon
  obtain ⟨hrun, hphase⟩ := h.gassing_run (.inr (.inr (.inl hs)))
  exact ⟨hrun, hphase, hs, by simp [h.driven.1 hs]⟩

theorem PocketLaw.outputsRest {s : State} (h : PocketLaw s) : OutputsRest s := by
  intro hs
  obtain ⟨-, hstage, hcrimp⟩ := h.rest hs
  simp [State.gasOn, State.formOn, State.closeOn, State.ventOn, hstage, hcrimp]

/-- Settles O59: the laws at reset field by field, GAS and the outputs from the pocket's law. -/
theorem lawsHoldAtResetAndKeepGasSafe : Obligations.LawsHoldAtResetAndKeepGasSafe := by
  unfold Obligations.LawsHoldAtResetAndKeepGasSafe
  exact ⟨⟨rfl, faultsHold_reset, recipeLaw_reset, rfl, drawLaw_reset, holdLaw_reset, sensorLaw_reset,
    queueLaw_reset, lineLaw_reset, massLaw_reset, pocketLaw_reset⟩,
    fun _ h => ⟨h.gasSafe, h.outputsRest⟩⟩

end Sys2Proof.Machine
end

section
/-!
PROOFS. What each operation of the model leaves of four things the laws and the frame speak of beside the fields
the lemmas `_keeps` name: the line without its slots, M, whether a context is open, and the states of the
sequencers, the SELF entry and the close window where the operation fixes them.
-/

namespace Sys2Proof.Machine

/-- The line without its slots: what the frames placed and the slots served leave alone. -/
def LineUnit.wire (l : LineUnit) : LineUnit :=
  { l with
    faultSlot := Slot.vacant, holdSlot := Slot.vacant, shutSlot := Slot.vacant
    openSlot := Slot.vacant, statusSlot := Slot.vacant, resultSlot := Slot.vacant }

/-- M as an open context holds it; 0 without a context or a gas part. -/
def massOf (context : Option CanContext) : Nat :=
  ((context.bind (·.gas)).map (·.mass)).getD 0

theorem State.mass_eq (s : State) : s.mass = massOf s.context := rfl

@[simp] theorem massOf_none : massOf none = 0 := rfl

@[simp] theorem onContext_context (f : CanContext → CanContext) (s : State) :
    (onContext f s).context = s.context.map f := rfl

@[simp] theorem onGasPart_context (f : GasPart → GasPart) (s : State) :
    (onGasPart f s).context = s.context.map (fun c => { c with gas := c.gas.map f }) := rfl

/-- A change of the context that leaves the gas part leaves M. -/
@[simp] theorem massOf_map {f : CanContext → CanContext} {c : Option CanContext}
    (h : ∀ c, (f c).gas = c.gas) : massOf (c.map f) = massOf c := by
  cases c <;> simp [massOf, h]

/-- A change of the gas part that leaves its mass leaves M. -/
@[simp] theorem massOf_map_gas {f : GasPart → GasPart} {c : Option CanContext}
    (h : ∀ g, (f g).mass = g.mass) :
    massOf (c.map (fun c => { c with gas := c.gas.map f })) = massOf c := by
  cases c with
  | none => rfl
  | some c => cases hg : c.gas <;> simp [massOf, hg, h]

/-! ## The context written -/

@[simp] theorem addReason_traces (r : Reason) (s : State) :
    massOf (addReason r s).context = massOf s.context ∧
    ((addReason r s).context = none ↔ s.context = none) := by simp [addReason]

@[simp] theorem addCondition_traces (k : Condition) (s : State) :
    massOf (addCondition k s).context = massOf s.context ∧
    ((addCondition k s).context = none ↔ s.context = none) := by simp [addCondition]

@[simp] theorem onCrimpPart_traces (f : CrimpPart → CrimpPart) (s : State) :
    massOf (onCrimpPart f s).context = massOf s.context ∧
    ((onCrimpPart f s).context = none ↔ s.context = none) := by simp [onCrimpPart]

@[simp] theorem onCheckPart_traces (f : CheckPart → CheckPart) (s : State) :
    massOf (onCheckPart f s).context = massOf s.context ∧
    ((onCheckPart f s).context = none ↔ s.context = none) := by simp [onCheckPart]

@[simp] theorem onLastPulse_traces (f : Pulse → Pulse) (s : State) :
    massOf (onLastPulse f s).context = massOf s.context ∧
    ((onLastPulse f s).context = none ↔ s.context = none) := by simp [onLastPulse]

/-! ## Transmit slots and the closing of the context -/

@[simp] theorem placeStatus_traces (s : State) :
    (placeStatus s).line.wire = s.line.wire := by simp [placeStatus, LineUnit.wire]

@[simp] theorem placeFault_traces (c : Cell) (s : State) :
    (placeFault c s).line.wire = s.line.wire := by simp [placeFault, LineUnit.wire]

@[simp] theorem placeHold_traces (q : Nat) (s : State) :
    (placeHold q s).line.wire = s.line.wire := by simp [placeHold, LineUnit.wire]

@[simp] theorem placeShut_traces (samples : Nat) (s : State) :
    (placeShut samples s).line.wire = s.line.wire := by simp [placeShut, LineUnit.wire]

@[simp] theorem placeOpen_traces (s : State) :
    (placeOpen s).line.wire = s.line.wire := by simp [placeOpen, LineUnit.wire]

@[simp] theorem withdrawOpen_traces (s : State) :
    (withdrawOpen s).line.wire = s.line.wire := by simp [withdrawOpen, LineUnit.wire]

@[simp] theorem syncResult_traces (s : State) :
    (syncResult s).line.wire = s.line.wire := by
  unfold syncResult; dsimp only; (repeat' split) <;> simp [LineUnit.wire]

@[simp] theorem reportA_traces (c : Cell) (s : State) :
    (reportA c s).line.wire = s.line.wire := by unfold reportA; (try dsimp only); (repeat' split) <;> simp

@[simp] theorem countReject_traces (r : Reason) (s : State) :
    (countReject r s).line.wire = s.line.wire := by unfold countReject; (try dsimp only); (repeat' split) <;> simp

@[simp] theorem queueRecord_traces (r : Record) (s : State) :
    (queueRecord r s).line.wire = s.line.wire := by unfold queueRecord; (try dsimp only); (repeat' split) <;> simp

@[simp] theorem accrueDebt_traces (s : State) :
    (accrueDebt s).line.wire = s.line.wire := by unfold accrueDebt; (try dsimp only); (repeat' split) <;> simp

@[simp] theorem closeContext_traces (s : State) :
    (closeContext s).line.wire = s.line.wire ∧
    (closeContext s).context = none := by
  cases h : s.context <;> simp [closeContext, h]

/-! ## Claims and the SELF entry -/

@[simp] theorem retest_traces (s : State) :
    (retest s).line.wire = s.line.wire ∧
    massOf (retest s).context = massOf s.context ∧
    ((retest s).context = none ↔ s.context = none) := by unfold retest; (try dsimp only); (repeat' split) <;> simp

@[simp] theorem requestClaim_traces (s : State) :
    (requestClaim s).line.wire = s.line.wire ∧
    massOf (requestClaim s).context = massOf s.context ∧
    ((requestClaim s).context = none ↔ s.context = none) := by unfold requestClaim; (try dsimp only); (repeat' split) <;> simp

@[simp] theorem takeHeldRequest_traces (s : State) :
    (takeHeldRequest s).line.wire = s.line.wire ∧
    massOf (takeHeldRequest s).context = massOf s.context ∧
    ((takeHeldRequest s).context = none ↔ s.context = none) := by unfold takeHeldRequest; (try dsimp only); (repeat' split) <;> simp

@[simp] theorem cancelClaim_traces (s : State) :
    (cancelClaim s).line.wire = s.line.wire := by unfold cancelClaim; (try dsimp only); (repeat' split) <;> simp

@[simp] theorem reportClosed_traces (s : State) :
    (reportClosed s).line.wire = s.line.wire ∧
    (reportClosed s).draw.self = none := by unfold reportClosed; (try dsimp only); (repeat' split) <;> simp

@[simp] theorem stuckSelf_traces (s : State) :
    (stuckSelf s).line.wire = s.line.wire ∧
    (stuckSelf s).draw.self = some .stuck := by simp [stuckSelf]

@[simp] theorem readStuckEpisode_traces (s : State) :
    (readStuckEpisode s).line.wire = s.line.wire ∧
    ((readStuckEpisode s).draw.self = some .driven ↔ s.draw.self = some .driven) := by
  unfold readStuckEpisode; split <;> simp_all

@[simp] theorem closeSelf_traces (s : State) :
    (closeSelf s).draw.self ≠ some .driven := by
  unfold closeSelf; dsimp only; split <;> simp_all

@[simp] theorem removeKeyed_traces (sender : StationNo) (s : State) :
    (removeKeyed sender s).line.wire = s.line.wire := by unfold removeKeyed; (try dsimp only); (repeat' split) <;> simp

@[simp] theorem makeStuck_traces (sender : StationNo) (s : State) :
    (makeStuck sender s).line.wire = s.line.wire := by unfold makeStuck; (try dsimp only); (repeat' split) <;> simp

@[simp] theorem peerFaults_traces (sender : StationNo) (code : Byte) (s : State) :
    (peerFaults sender code s).line.wire = s.line.wire := by unfold peerFaults; (try dsimp only); (repeat' split) <;> simp

@[simp] theorem peerStatus_traces (sender : StationNo) (payload : List Byte) (s : State) :
    (peerStatus sender payload s).line.wire = s.line.wire := by unfold peerStatus; (try dsimp only); (repeat' split) <;> simp

/-! ## Gassing -/

@[simp] theorem compareDose_traces (s : State) :
    massOf (compareDose s).context = massOf s.context ∧
    ((compareDose s).context = none ↔ s.context = none) := by unfold compareDose; (try dsimp only); (repeat' split) <;> simp

@[simp] theorem enterEnded_traces (s : State) :
    massOf (enterEnded s).context = massOf s.context ∧
    ((enterEnded s).context = none ↔ s.context = none) ∧
    (enterEnded s).gas.stage = .ended := by simp [enterEnded]

@[simp] theorem advancePhase_traces (before after : Phase) (s : State) :
    (advancePhase before after s).cycle.phase = if s.cycle.phase = before then after else s.cycle.phase := by unfold advancePhase; (try dsimp only); (repeat' split) <;> simp

@[simp] theorem endGassing_traces (s : State) :
    massOf (endGassing s).context = massOf s.context ∧
    ((endGassing s).context = none ↔ s.context = none) ∧
    (endGassing s).gas.stage = .ended ∧
    (endGassing s).cycle.phase = if s.cycle.phase = .gas then .sealed else s.cycle.phase := by
  simp [endGassing]

@[simp] theorem noteNoDrive_traces (a : PlanAnswer) (s : State) :
    massOf (noteNoDrive a s).context = massOf s.context ∧
    ((noteNoDrive a s).context = none ↔ s.context = none) := by unfold noteNoDrive; (try dsimp only); (repeat' split) <;> simp

@[simp] theorem actOnAnswer_traces (a : PlanAnswer) (s : State) :
    (actOnAnswer a s).line.wire = s.line.wire ∧
    massOf (actOnAnswer a s).context = massOf s.context ∧
    ((actOnAnswer a s).context = none ↔ s.context = none) := by unfold actOnAnswer; (try dsimp only); (repeat' split) <;> simp

@[simp] theorem doseComplete_traces (s : State) :
    massOf (doseComplete s).context = massOf s.context ∧
    ((doseComplete s).context = none ↔ s.context = none) := by unfold doseComplete; (try dsimp only); (repeat' split) <;> simp

@[simp] theorem decideInPlan_traces (s : State) :
    (decideInPlan s).line.wire = s.line.wire ∧
    massOf (decideInPlan s).context = massOf s.context ∧
    ((decideInPlan s).context = none ↔ s.context = none) := by unfold decideInPlan; (try dsimp only); (repeat' split) <;> simp

@[simp] theorem enterPlan_traces (s : State) :
    (enterPlan s).line.wire = s.line.wire ∧
    massOf (enterPlan s).context = massOf s.context ∧
    ((enterPlan s).context = none ↔ s.context = none) := by simp [enterPlan]

@[simp] theorem startSettle_traces (s : State) :
    (startSettle s).line.wire = s.line.wire ∧
    massOf (startSettle s).context = massOf s.context ∧
    ((startSettle s).context = none ↔ s.context = none) ∧
    (startSettle s).draw.self = s.draw.self := by unfold startSettle; (try dsimp only); (repeat' split) <;> simp

@[simp] theorem valveClosed_traces (s : State) :
    (valveClosed s).line.wire = s.line.wire ∧
    massOf (valveClosed s).context = massOf s.context ∧
    ((valveClosed s).context = none ↔ s.context = none) ∧
    (valveClosed s).gas.closeWindow = none ∧
    (valveClosed s).draw.self = none := by simp [valveClosed]

@[simp] theorem closeIfShut_traces (s : State) :
    (closeIfShut s).line.wire = s.line.wire ∧
    massOf (closeIfShut s).context = massOf s.context ∧
    ((closeIfShut s).context = none ↔ s.context = none) := by unfold closeIfShut; (try dsimp only); (repeat' split) <;> simp

@[simp] theorem endPulse_traces (o : PulseOutcome) (s : State) :
    massOf (endPulse o s).context = massOf s.context ∧
    ((endPulse o s).context = none ↔ s.context = none) ∧
    (endPulse o s).draw.self ≠ some .driven ∧
    (endPulse o s).gas.closeWindow = some s.clock := by simp [endPulse]

@[simp] theorem takeBack_traces (s : State) :
    ((takeBack s).context = none ↔ s.context = none) := by simp [takeBack]

@[simp] theorem deadPulse_traces (s : State) :
    (deadPulse s).line.wire = s.line.wire ∧
    ((deadPulse s).context = none ↔ s.context = none) := by unfold deadPulse; (try dsimp only); (repeat' split) <;> simp

@[simp] theorem judgePulse_traces (s : State) :
    (judgePulse s).line.wire = s.line.wire ∧
    ((judgePulse s).context = none ↔ s.context = none) := by unfold judgePulse; (try dsimp only); (repeat' split) <;> simp

@[simp] theorem startPulse_traces (s : State) :
    massOf (startPulse s).context = massOf s.context ∧
    ((startPulse s).context = none ↔ s.context = none) ∧
    (startPulse s).gas.stage = .pulse ∧
    (startPulse s).draw.self = some .driven ∧
    (startPulse s).gas.closeWindow = none := by
  simp [startPulse, addSelf]

@[simp] theorem cutCheckPart_traces (s : State) :
    massOf (cutCheckPart s).context = massOf s.context ∧
    ((cutCheckPart s).context = none ↔ s.context = none) := by simp [cutCheckPart]

@[simp] theorem stopStage_traces (s : State) :
    (stopStage s).line.wire = s.line.wire ∧
    massOf (stopStage s).context = massOf s.context ∧
    ((stopStage s).context = none ↔ s.context = none) := by unfold stopStage; (try dsimp only); (repeat' split) <;> simp

@[simp] theorem closeAfter_traces (before : GasStage) (s : State) :
    (closeAfter before s).line.wire = s.line.wire ∧
    massOf (closeAfter before s).context = massOf s.context ∧
    ((closeAfter before s).context = none ↔ s.context = none) := by unfold closeAfter; (try dsimp only); (repeat' split) <;> simp

@[simp] theorem abandonGas_traces (s : State) :
    (abandonGas s).line.wire = s.line.wire ∧
    massOf (abandonGas s).context = massOf s.context ∧
    ((abandonGas s).context = none ↔ s.context = none) := by unfold abandonGas; (try dsimp only); (repeat' split) <;> simp

@[simp] theorem returnGas_traces (s : State) :
    (returnGas s).gas.stage = .idle := by
  unfold returnGas; split <;> simp_all

@[simp] theorem startGas_traces (s : State) :
    (startGas s).line.wire = s.line.wire ∧
    massOf (startGas s).context = massOf s.context ∧
    ((startGas s).context = none ↔ s.context = none) := by simp [startGas]

@[simp] theorem enterGas_traces (s : State) :
    (enterGas s).line.wire = s.line.wire ∧
    massOf (enterGas s).context = 0 ∧
    ((enterGas s).context = none ↔ s.context = none) := by
  refine ⟨by simp [enterGas], ?_, by simp [enterGas]⟩
  simp only [enterGas, startGas_traces, onContext_context]
  cases s.context <;> rfl

@[simp] theorem cutReason_traces (s : State) :
    massOf (cutReason s).context = massOf s.context ∧
    ((cutReason s).context = none ↔ s.context = none) := by unfold cutReason; (try dsimp only); (repeat' split) <;> simp

@[simp] theorem cutWindow_traces (s : State) :
    (cutWindow s).line.wire = s.line.wire ∧
    massOf (cutWindow s).context = massOf s.context ∧
    ((cutWindow s).context = none ↔ s.context = none) := by unfold cutWindow; (try dsimp only); (repeat' split) <;> simp

@[simp] theorem cutCheck_traces (s : State) :
    massOf (cutCheck s).context = massOf s.context ∧
    ((cutCheck s).context = none ↔ s.context = none) := by unfold cutCheck; (try dsimp only); (repeat' split) <;> simp

@[simp] theorem loseSensor_traces (s : State) :
    (loseSensor s).line.wire = s.line.wire ∧
    massOf (loseSensor s).context = massOf s.context ∧
    ((loseSensor s).context = none ↔ s.context = none) := by simp [loseSensor]

@[simp] theorem creditSample_traces (f : Nat) (s : State) :
    ((creditSample f s).context = none ↔ s.context = none) := by unfold creditSample; (try dsimp only); (repeat' split) <;> simp

@[simp] theorem countSample_traces (s : State) :
    ((countSample s).context = none ↔ s.context = none) := by unfold countSample; (try dsimp only); (repeat' split) <;> simp

@[simp] theorem noteHold_traces (s : State) :
    massOf (noteHold s).context = massOf s.context ∧
    ((noteHold s).context = none ↔ s.context = none) := by unfold noteHold; (try dsimp only); (repeat' split) <;> simp

@[simp] theorem gasTakesSample_traces (s : State) :
    (gasTakesSample s).line.wire = s.line.wire ∧
    ((gasTakesSample s).context = none ↔ s.context = none) := by unfold gasTakesSample; (try dsimp only); (repeat' split) <;> simp

/-! ## Station moves and reports -/

@[simp] theorem setAsserted_traces (b : Bool) (s : State) :
    (setAsserted b s).line.wire = s.line.wire := by simp [setAsserted]

@[simp] theorem releaseHold_traces (s : State) :
    (releaseHold s).line.wire = s.line.wire ∧
    massOf (releaseHold s).context = massOf s.context ∧
    ((releaseHold s).context = none ↔ s.context = none) := by simp [releaseHold]

@[simp] theorem standDown_traces (s : State) :
    (standDown s).line.wire = s.line.wire := by unfold standDown; (try dsimp only); (repeat' split) <;> simp

@[simp] theorem testAssertion_traces (s : State) :
    (testAssertion s).line.wire = s.line.wire ∧
    massOf (testAssertion s).context = massOf s.context ∧
    ((testAssertion s).context = none ↔ s.context = none) := by unfold testAssertion; (try dsimp only); (repeat' split) <;> simp

@[simp] theorem holdAtMove_traces (before after : Station) (s : State) :
    (holdAtMove before after s).line.wire = s.line.wire ∧
    massOf (holdAtMove before after s).context = massOf s.context ∧
    ((holdAtMove before after s).context = none ↔ s.context = none) := by unfold holdAtMove; (try dsimp only); (repeat' split) <;> simp

@[simp] theorem drawAtMove_traces (after : Station) (s : State) :
    (drawAtMove after s).line.wire = s.line.wire := by unfold drawAtMove; (try dsimp only); (repeat' split) <;> simp

@[simp] theorem moveTo_traces (after : Station) (s : State) :
    (moveTo after s).line.wire = s.line.wire ∧
    massOf (moveTo after s).context = massOf s.context ∧
    ((moveTo after s).context = none ↔ s.context = none) := by simp [moveTo]

@[simp] theorem abandonCrimp_traces (s : State) :
    massOf (abandonCrimp s).context = massOf s.context ∧
    ((abandonCrimp s).context = none ↔ s.context = none) ∧
    (abandonCrimp s).crimp.state = .idle := by
  unfold abandonCrimp; dsimp only; split <;> simp_all

@[simp] theorem abandonContext_traces (s : State) :
    (abandonContext s).line.wire = s.line.wire ∧
    (abandonContext s).context = none := by
  unfold abandonContext; split <;> simp_all

@[simp] theorem enterFaulted_traces (s : State) :
    (enterFaulted s).line.wire = s.line.wire ∧
    (enterFaulted s).context = none ∧
    (enterFaulted s).cycle.phase = .returning := by simp [enterFaulted]

@[simp] theorem retestIfDead_traces (c : Cell) (s : State) :
    (retestIfDead c s).line.wire = s.line.wire ∧
    massOf (retestIfDead c s).context = massOf s.context ∧
    ((retestIfDead c s).context = none ↔ s.context = none) := by unfold retestIfDead; (try dsimp only); (repeat' split) <;> simp

@[simp] theorem reportF_traces (c : Cell) (s : State) :
    (reportF c s).line.wire = s.line.wire := by unfold reportF; (try dsimp only); (repeat' split) <;> simp

@[simp] theorem drawTakesStuck_traces (s : State) :
    (drawTakesStuck s).line.wire = s.line.wire := by unfold drawTakesStuck; (try dsimp only); (repeat' split) <;> simp

@[simp] theorem findStuckValve_traces (s : State) :
    (findStuckValve s).line.wire = s.line.wire := by unfold findStuckValve; (try dsimp only); (repeat' split) <;> simp

@[simp] theorem parkTest_traces (s : State) :
    (parkTest s).line.wire = s.line.wire ∧
    massOf (parkTest s).context = massOf s.context ∧
    ((parkTest s).context = none ↔ s.context = none) := by unfold parkTest; (try dsimp only); (repeat' split) <;> simp

/-! ## The Crimp Sequencer -/

@[simp] theorem addFailureCondition_traces (f : CrimpFailure) (s : State) :
    massOf (addFailureCondition f s).context = massOf s.context ∧
    ((addFailureCondition f s).context = none ↔ s.context = none) := by unfold addFailureCondition; (try dsimp only); (repeat' split) <;> simp

@[simp] theorem enterRelease_traces (s : State) :
    massOf (enterRelease s).context = massOf s.context ∧
    ((enterRelease s).context = none ↔ s.context = none) ∧
    (enterRelease s).crimp.state = .release := by simp [enterRelease]

@[simp] theorem failCrimp_traces (f : CrimpFailure) (s : State) :
    massOf (failCrimp f s).context = massOf s.context ∧
    ((failCrimp f s).context = none ↔ s.context = none) ∧
    (failCrimp f s).crimp.state = .release := by simp [failCrimp]

@[simp] theorem enterDwell_traces (s : State) :
    massOf (enterDwell s).context = massOf s.context ∧
    ((enterDwell s).context = none ↔ s.context = none) ∧
    (enterDwell s).crimp.state ≠ .idle := by
  unfold enterDwell; split <;> simp [setCrimp]

@[simp] theorem readCrimpSample_traces (force depth : Nat) (s : State) :
    massOf (readCrimpSample force depth s).context = massOf s.context ∧
    ((readCrimpSample force depth s).context = none ↔ s.context = none) := by simp [readCrimpSample]

@[simp] theorem crimpVerdict_traces (good : Bool) (s : State) :
    (crimpVerdict good s).line.wire = s.line.wire ∧
    ((crimpVerdict good s).context = none ↔ s.context = none) := by unfold crimpVerdict; (try dsimp only); (repeat' split) <;> simp

@[simp] theorem enterDone_traces (s : State) :
    (enterDone s).line.wire = s.line.wire ∧
    ((enterDone s).context = none ↔ s.context = none) := by unfold enterDone; (try dsimp only); (repeat' split) <;> simp

@[simp] theorem sampleInForm_traces (force depth : Nat) (s : State) :
    massOf (sampleInForm force depth s).context = massOf s.context ∧
    ((sampleInForm force depth s).context = none ↔ s.context = none) := by unfold sampleInForm; (try dsimp only); (repeat' split) <;> simp

@[simp] theorem takeCrimpSample_traces (force depth : Nat) (s : State) :
    (takeCrimpSample force depth s).line.wire = s.line.wire ∧
    ((takeCrimpSample force depth s).context = none ↔ s.context = none) := by unfold takeCrimpSample; (try dsimp only); (repeat' split) <;> simp

@[simp] theorem jamCrimp_traces (s : State) :
    (jamCrimp s).line.wire = s.line.wire := by simp [jamCrimp]

/-! ## The Cycle Controller -/

@[simp] theorem openContext_traces (canPresent : Bool) (reasons : List Reason) (s : State) :
    massOf (openContext canPresent reasons s).context = 0 ∧
    (openContext canPresent reasons s).context ≠ none := by simp [openContext, freshContext, massOf]

@[simp] theorem startCrimp_traces (s : State) :
    massOf (startCrimp s).context = massOf s.context ∧
    ((startCrimp s).context = none ↔ s.context = none) ∧
    (startCrimp s).crimp.state = .seat := by simp [startCrimp]

@[simp] theorem passPocket_traces (canPresent : Bool) (r : Reason) (s : State) :
    (passPocket canPresent r s).line.wire = s.line.wire ∧
    (passPocket canPresent r s).context = none ∧
    (passPocket canPresent r s).cycle.phase = .pass := by simp [passPocket]

@[simp] theorem decidePocket_traces (canPresent : Bool) (s : State) :
    (decidePocket canPresent s).line.wire = s.line.wire ∧
    massOf (decidePocket canPresent s).context = 0 := by
  unfold decidePocket; dsimp only; (repeat' split) <;> simp [massOf_none]

@[simp] theorem startCycle_traces (canPresent : Bool) (s : State) :
    (startCycle canPresent s).line.wire = s.line.wire ∧
    massOf (startCycle canPresent s).context = 0 := by simp [startCycle]

@[simp] theorem recordStopped_traces (canPresent : Bool) (r : Reason) (s : State) :
    (recordStopped canPresent r s).line.wire = s.line.wire ∧
    (recordStopped canPresent r s).context = none := by simp [recordStopped]

@[simp] theorem closeOutOfOrder_traces (s : State) :
    (closeOutOfOrder s).line.wire = s.line.wire ∧
    (closeOutOfOrder s).context = none := by
  unfold closeOutOfOrder; split <;> simp_all

@[simp] theorem completeStop_traces (s : State) :
    (completeStop s).line.wire = s.line.wire ∧
    massOf (completeStop s).context = massOf s.context ∧
    ((completeStop s).context = none ↔ s.context = none) := by unfold completeStop; (try dsimp only); (repeat' split) <;> simp

@[simp] theorem handleAgain_traces (canPresent : Bool) (s : State) :
    (handleAgain canPresent s).line.wire = s.line.wire ∧
    massOf (handleAgain canPresent s).context = 0 := by
  unfold handleAgain; split <;> simp [massOf_none]

@[simp] theorem infeedOutOfOrder_traces (canPresent : Bool) (s : State) :
    (infeedOutOfOrder canPresent s).line.wire = s.line.wire ∧
    massOf (infeedOutOfOrder canPresent s).context = 0 := by simp [infeedOutOfOrder]

@[simp] theorem wake_traces (canPresent : Bool) (s : State) :
    (wake canPresent s).line.wire = s.line.wire ∧
    massOf (wake canPresent s).context = 0 := by simp [wake]

@[simp] theorem takeGasOpen_traces (s : State) :
    (takeGasOpen s).line.wire = s.line.wire ∧
    ((takeGasOpen s).context = none ↔ s.context = none) := by unfold takeGasOpen; (try dsimp only); (repeat' split) <;> simp

@[simp] theorem takeGasClose_traces (s : State) :
    (takeGasClose s).line.wire = s.line.wire ∧
    massOf (takeGasClose s).context = massOf s.context ∧
    ((takeGasClose s).context = none ↔ s.context = none) := by unfold takeGasClose; (try dsimp only); (repeat' split) <;> simp

@[simp] theorem discharge_traces (s : State) :
    (discharge s).line.wire = s.line.wire ∧
    (discharge s).context = none := by
  unfold discharge; dsimp only; split <;> simp

@[simp] theorem dischargeEarly_traces (s : State) :
    (dischargeEarly s).line.wire = s.line.wire ∧
    (dischargeEarly s).context = none := by
  unfold dischargeEarly; dsimp only; split <;> simp

@[simp] theorem takeDischarge_traces (s : State) :
    (takeDischarge s).line.wire = s.line.wire := by unfold takeDischarge; (try dsimp only); (repeat' split) <;> simp

/-! ## The Sensor Port -/

@[simp] theorem noteClamped_traces (s : State) :
    massOf (noteClamped s).context = massOf s.context ∧
    ((noteClamped s).context = none ↔ s.context = none) := by unfold noteClamped; (try dsimp only); (repeat' split) <;> simp

@[simp] theorem watermarkTest_traces (s : State) :
    (watermarkTest s).line.wire = s.line.wire ∧
    massOf (watermarkTest s).context = massOf s.context ∧
    ((watermarkTest s).context = none ↔ s.context = none) := by unfold watermarkTest; (try dsimp only); (repeat' split) <;> simp

@[simp] theorem handSample_traces (s : State) :
    (handSample s).line.wire = s.line.wire ∧
    ((handSample s).context = none ↔ s.context = none) := by simp [handSample]

@[simp] theorem statusIfChanged_traces (before after : Validity) (s : State) :
    (statusIfChanged before after s).line.wire = s.line.wire := by unfold statusIfChanged; (try dsimp only); (repeat' split) <;> simp

@[simp] theorem endHeaderTransaction_traces (r : SensorReply) (s : State) :
    (endHeaderTransaction r s).line.wire = s.line.wire := by simp [endHeaderTransaction]

@[simp] theorem reportHeaderLost_traces (s : State) :
    (reportHeaderLost s).line.wire = s.line.wire := by unfold reportHeaderLost; (try dsimp only); (repeat' split) <;> simp

@[simp] theorem endBellTransaction_traces (r : SensorReply) (s : State) :
    (endBellTransaction r s).line.wire = s.line.wire := by unfold endBellTransaction; (try dsimp only); (repeat' split) <;> simp

@[simp] theorem endTransaction_traces (c : Channel) (r : SensorReply) (s : State) :
    (endTransaction c r s).line.wire = s.line.wire := by unfold endTransaction; (try dsimp only); (repeat' split) <;> simp

@[simp] theorem applyZeroing_traces (s : State) :
    (applyZeroing s).line.wire = s.line.wire := by unfold applyZeroing; (try dsimp only); (repeat' split) <;> simp

@[simp] theorem endZeroing_traces (s : State) :
    (endZeroing s).line.wire = s.line.wire := by unfold endZeroing; (try dsimp only); (repeat' split) <;> simp

/-! ## The valve -/

@[simp] theorem endStuckEpisode_traces (s : State) :
    (endStuckEpisode s).line.wire = s.line.wire ∧
    (endStuckEpisode s).draw.self = none := by unfold endStuckEpisode; (try dsimp only); (repeat' split) <;> simp

@[simp] theorem takeValveClosed_traces (s : State) :
    (takeValveClosed s).line.wire = s.line.wire ∧
    massOf (takeValveClosed s).context = massOf s.context ∧
    ((takeValveClosed s).context = none ↔ s.context = none) := by unfold takeValveClosed; (try dsimp only); (repeat' split) <;> simp

@[simp] theorem endCloseWindow_traces (s : State) :
    (endCloseWindow s).line.wire = s.line.wire := by unfold endCloseWindow; (try dsimp only); (repeat' split) <;> simp

@[simp] theorem judgeSeal_traces (s : State) :
    massOf (judgeSeal s).context = massOf s.context ∧
    ((judgeSeal s).context = none ↔ s.context = none) ∧
    (judgeSeal s).gas.stage = .ended := by
  unfold judgeSeal; dsimp only; split <;> simp

/-! ## The Line Interface -/

@[simp] theorem onSlot_traces (k : SlotKind) (f : Slot FaultFrame → Slot FaultFrame) (g : {α : Type} → Slot α → Slot α)
    (s : State) :
    (onSlot k f g s).line.wire = s.line.wire := by
  cases k <;> simp [onSlot, LineUnit.wire]

@[simp] theorem endCancelled_traces (s : State) :
    (endCancelled s).line.wire = s.line.wire ∧
    massOf (endCancelled s).context = massOf s.context ∧
    ((endCancelled s).context = none ↔ s.context = none) := by simp [endCancelled]

@[simp] theorem openReturns_traces (s : State) :
    (openReturns s).line.wire = s.line.wire ∧
    massOf (openReturns s).context = massOf s.context ∧
    ((openReturns s).context = none ↔ s.context = none) := by
  unfold openReturns; split
  · simp
  · simp [LineUnit.wire]

@[simp] theorem slotReturns_traces (k : SlotKind) (s : State) :
    (slotReturns k s).line.wire = s.line.wire ∧
    massOf (slotReturns k s).context = massOf s.context ∧
    ((slotReturns k s).context = none ↔ s.context = none) := by unfold slotReturns; (try dsimp only); (repeat' split) <;> simp

@[simp] theorem noteLineWait_traces (k : SlotKind) (s : State) :
    massOf (noteLineWait k s).context = massOf s.context ∧
    ((noteLineWait k s).context = none ↔ s.context = none) := by unfold noteLineWait; (try dsimp only); (repeat' split) <;> simp

@[simp] theorem dropHead_traces (s : State) :
    (dropHead s).line.wire = s.line.wire := by simp [dropHead]

@[simp] theorem ownerNotSent_traces (k : SlotKind) (s : State) :
    (ownerNotSent k s).line.wire = s.line.wire ∧
    massOf (ownerNotSent k s).context = massOf s.context ∧
    ((ownerNotSent k s).context = none ↔ s.context = none) := by unfold ownerNotSent; (try dsimp only); (repeat' split) <;> simp

@[simp] theorem fourthFailure_traces (k : SlotKind) (s : State) :
    (fourthFailure k s).line.wire = s.line.wire := by simp [fourthFailure]

@[simp] theorem openCompleted_traces (s : State) :
    (openCompleted s).line.wire = s.line.wire ∧
    massOf (openCompleted s).context = massOf s.context ∧
    ((openCompleted s).context = none ↔ s.context = none) := by unfold openCompleted; (try dsimp only); (repeat' split) <;> simp

@[simp] theorem resultCompleted_traces (s : State) :
    (resultCompleted s).line.wire = s.line.wire := by simp [resultCompleted]

@[simp] theorem holdCompleted_traces (q : Nat) (s : State) :
    (holdCompleted q s).line = s.line := by unfold holdCompleted; (try dsimp only); (repeat' split) <;> simp

@[simp] theorem ownerCompleted_traces (k : SlotKind) (before s : State) :
    (ownerCompleted k before s).line.wire = s.line.wire ∧
    massOf (ownerCompleted k before s).context = massOf s.context ∧
    ((ownerCompleted k before s).context = none ↔ s.context = none) := by unfold ownerCompleted; (try dsimp only); (repeat' split) <;> simp

/-! ## The Recipe Store and the received frames -/

@[simp] theorem setEnables_traces (e : BitVec 4) (s : State) :
    (setEnables e s).line.wire = s.line.wire := by unfold setEnables; (try dsimp only); (repeat' split) <;> simp

@[simp] theorem leaveLoading_traces (s : State) :
    (leaveLoading s).line.wire = s.line.wire := by unfold leaveLoading; (try dsimp only); (repeat' split) <;> simp

@[simp] theorem acceptRecipe_traces (raw : Recipe) (unknown : Bool) (s : State) :
    (acceptRecipe raw unknown s).line.wire = s.line.wire := by simp [acceptRecipe]

@[simp] theorem refuseRecipe_traces (cause : RefusalCause) (s : State) :
    (refuseRecipe cause s).line.wire = s.line.wire := by simp [refuseRecipe]

@[simp] theorem takeLoadEnd_traces (length : Half) (s : State) :
    (takeLoadEnd length s).line.wire = s.line.wire := by unfold takeLoadEnd; (try dsimp only); (repeat' split) <;> simp

@[simp] theorem newImage_traces (s : State) :
    (newImage s).line.wire = s.line.wire ∧
    massOf (newImage s).context = massOf s.context ∧
    ((newImage s).context = none ↔ s.context = none) := by simp [newImage]

@[simp] theorem takeLoad_traces (offset : Byte) (data : List Byte) (s : State) :
    (takeLoad offset data s).line.wire = s.line.wire ∧
    massOf (takeLoad offset data s).context = massOf s.context ∧
    ((takeLoad offset data s).context = none ↔ s.context = none) := by unfold takeLoad; (try dsimp only); (repeat' split) <;> simp

@[simp] theorem suppressHold_traces (s : State) :
    (suppressHold s).line.wire = s.line.wire := by unfold suppressHold; (try dsimp only); (repeat' split) <;> simp

@[simp] theorem peerHolds_traces (sender : StationNo) (q : Nat) (s : State) :
    (peerHolds sender q s).line.wire = s.line.wire := by unfold peerHolds; (try dsimp only); (repeat' split) <;> simp

@[simp] theorem peerReleases_traces (sender : StationNo) (s : State) :
    (peerReleases sender s).line.wire = s.line.wire ∧
    massOf (peerReleases sender s).context = massOf s.context ∧
    ((peerReleases sender s).context = none ↔ s.context = none) := by unfold peerReleases; (try dsimp only); (repeat' split) <;> simp

@[simp] theorem enterRun_traces (s : State) :
    (enterRun s).line.wire = s.line.wire ∧
    massOf (enterRun s).context = massOf s.context ∧
    ((enterRun s).context = none ↔ s.context = none) := by simp [enterRun]

@[simp] theorem refuseStart_traces (s : State) :
    (refuseStart s).line.wire = s.line.wire := by simp [refuseStart]

@[simp] theorem takeStart_traces (s : State) :
    (takeStart s).line.wire = s.line.wire ∧
    massOf (takeStart s).context = massOf s.context ∧
    ((takeStart s).context = none ↔ s.context = none) := by unfold takeStart; (try dsimp only); (repeat' split) <;> simp

@[simp] theorem pendStop_traces (s : State) :
    (pendStop s).line.wire = s.line.wire := by unfold pendStop; (try dsimp only); (repeat' split) <;> simp

@[simp] theorem stopNow_traces (s : State) :
    (stopNow s).line.wire = s.line.wire ∧
    massOf (stopNow s).context = massOf s.context ∧
    ((stopNow s).context = none ↔ s.context = none) := by simp [stopNow]

@[simp] theorem takeStop_traces (s : State) :
    (takeStop s).line.wire = s.line.wire ∧
    massOf (takeStop s).context = massOf s.context ∧
    ((takeStop s).context = none ↔ s.context = none) := by unfold takeStop; (try dsimp only); (repeat' split) <;> simp

@[simp] theorem takeClear_traces (cells : Half) (s : State) :
    (takeClear cells s).line.wire = s.line.wire ∧
    massOf (takeClear cells s).context = massOf s.context ∧
    ((takeClear cells s).context = none ↔ s.context = none) := by unfold takeClear; (try dsimp only); (repeat' split) <;> simp

/-! ## The countdowns -/

@[simp] theorem countDrawTable_traces (s : State) :
    (countDrawTable s).line.wire = s.line.wire ∧
    massOf (countDrawTable s).context = massOf s.context ∧
    ((countDrawTable s).context = none ↔ s.context = none) := by unfold countDrawTable; (try dsimp only); (repeat' split) <;> simp

@[simp] theorem ownEntryExpired_traces (s : State) :
    (ownEntryExpired s).line.wire = s.line.wire ∧
    massOf (ownEntryExpired s).context = massOf s.context ∧
    ((ownEntryExpired s).context = none ↔ s.context = none) := by simp [ownEntryExpired]

@[simp] theorem countHoldTable_traces (s : State) :
    (countHoldTable s).line.wire = s.line.wire ∧
    massOf (countHoldTable s).context = massOf s.context ∧
    ((countHoldTable s).context = none ↔ s.context = none) := by unfold countHoldTable; (try dsimp only); (repeat' split) <;> simp

@[simp] theorem resendHold_traces (s : State) :
    (resendHold s).line.wire = s.line.wire ∧
    massOf (resendHold s).context = massOf s.context ∧
    ((resendHold s).context = none ↔ s.context = none) := by simp [resendHold]

end Sys2Proof.Machine
end

section
/-!
PROOFS. The state each command leaves, said once as a function, with an equation for each command, and the way a
law comes to hold after every step.
-/

namespace Sys2Proof.Machine

/-- The state a command leaves. -/
def effect (c : Instr) (s : State) : State :=
  match exec c s with
  | .next t => t
  | _ => s

theorem effect_of_exec {c : Instr} {s t : State} (h : exec c s = .next t) : effect c s = t := by
  simp [effect, h]

/-! ## One equation a command -/

@[simp] theorem effect_reset (straps : StationNo) (s : State) :
    effect (Instr.reset straps) s =
      (let fresh :=
        { State.reset with
          pending := s.pending, freeCount := s.freeCount, gasFb := s.gasFb
          line := { State.reset.line with station := straps } }
      if s.gasFb then findStuckValve fresh else fresh) := rfl

@[simp] theorem effect_mkInfeed (canPresent : Bool) (s : State) :
    effect (Instr.mkInfeed canPresent) s =
      (match s.cycle.station with
      | .loading => s
      | .ready => s
      | .standby => recordStopped canPresent .headStopped s
      | .faulted => recordStopped canPresent .headFaulted s
      | .parked => wake canPresent s
      | .run =>
        if s.cycle.phase = .returning then startCycle canPresent (measurePeriod s)
        else infeedOutOfOrder canPresent s) := effect_of_exec (by
  simp only [exec, execMkInfeed]
  cases s.cycle.station <;> try rfl
  dsimp only
  split <;> rfl)

@[simp] theorem effect_mkGasopen (s : State) :
    effect (Instr.mkGasopen) s =
      if s.cycle.station = .run then takeGasOpen s else s := rfl

@[simp] theorem effect_mkGasclose (s : State) :
    effect (Instr.mkGasclose) s =
      if s.cycle.station = .run then takeGasClose s else s := rfl

@[simp] theorem effect_mkDischarge (s : State) :
    effect (Instr.mkDischarge) s =
      if s.cycle.station = .run then parkTest (takeDischarge s) else s := rfl

@[simp] theorem effect_crimpSample (force depth : Int) (s : State) :
    effect (Instr.crimpSample force depth) s =
      takeCrimpSample (forceReading force) (depthReading depth) s := rfl

@[simp] theorem effect_tSeatExpiry (s : State) :
    effect (Instr.tSeatExpiry) s =
      if s.crimpExpires .seat then failCrimp .noSeat s else s := rfl

@[simp] theorem effect_tFormExpiry (s : State) :
    effect (Instr.tFormExpiry) s =
      if s.crimpExpires .form then failCrimp .timeout s else s := rfl

@[simp] theorem effect_tDwellExpiry (s : State) :
    effect (Instr.tDwellExpiry) s =
      if s.crimpExpires .dwell then enterRelease s else s := rfl

@[simp] theorem effect_tRelExpiry (s : State) :
    effect (Instr.tRelExpiry) s =
      if s.crimpExpires .release then jamCrimp s else s := rfl

@[simp] theorem effect_sensorTransactionEnd (channel : Channel) (r : SensorReply) (s : State) :
    effect (Instr.sensorTransactionEnd channel r) s =
      endTransaction channel r s := rfl

@[simp] theorem effect_zeroingTimerExpiry (s : State) :
    effect (Instr.zeroingTimerExpiry) s =
      if s.zeroingExpires then parkTest (endZeroing s) else s := rfl

@[simp] theorem effect_zeroingTest (s : State) :
    effect (Instr.zeroingTest) s =
      (match s.cycle.zeroTest with
      | none => s
      | some d => if reached s.clock d Config.ventTime then makeZeroTest d s else s) := effect_of_exec (by
  simp only [exec, execZeroingTest]
  cases s.cycle.zeroTest <;> rfl)

@[simp] theorem effect_grantVentWaitExpiry (s : State) :
    effect (Instr.grantVentWaitExpiry) s =
      if s.cycle.grant = .waitingForVent ∧ s.ventOn ∧ reached s.clock s.gas.ventSince Config.ventTime then
        startZeroing s
      else s := rfl

@[simp] theorem effect_silenceLimit (s : State) :
    effect (Instr.silenceLimit) s =
      if s.cycle.station = .run ∧ hasExpired s.clock s.cycle.silence (silenceLimit s.cycle) then
        parkTest { s with cycle := { s.cycle with silenceOver := true } }
      else s := rfl

@[simp] theorem effect_loadingStatusTimer (s : State) :
    effect (Instr.loadingStatusTimer) s =
      if s.loadingStatusDue then placeStatus s else s := rfl

@[simp] theorem effect_feedbackWindowLapse (s : State) :
    effect (Instr.feedbackWindowLapse) s =
      if hasExpired s.clock s.gas.feedbackWindow Config.feedbackWindow then
        { s with gas := { s.gas with feedbackWindow := none } }
      else s := rfl

@[simp] theorem effect_gasFbOpens (s : State) :
    effect (Instr.gasFbOpens) s =
      (let u := { s with gasFb := true }
      if s.gasOn then seeFeedback u
      else if s.gas.closeWindow.isSome then u
      else findStuckValve u) := effect_of_exec (by
  by_cases hp : s.gas.stage = .pulse
  · simp [exec, execGasFbOpens, State.gasOn, hp]
  · cases hw : s.gas.closeWindow <;>
      simp [exec, execGasFbOpens, State.gasOn, hp, hw])

@[simp] theorem effect_gasFbCloses (s : State) :
    effect (Instr.gasFbCloses) s =
      parkTest (takeValveClosed { s with gasFb := false }) := rfl

@[simp] theorem effect_closeWindowExpiry (s : State) :
    effect (Instr.closeWindowExpiry) s =
      if hasExpired s.clock s.gas.closeWindow Config.closeWindow then endCloseWindow s else s := rfl

@[simp] theorem effect_settleTimerExpiry (s : State) :
    effect (Instr.settleTimerExpiry) s =
      if s.gas.stage = .settle ∧ hasExpired s.clock s.gas.settleTimer s.params.settleTime then enterPlan s
      else s := rfl

@[simp] theorem effect_checkTimerExpiry (s : State) :
    effect (Instr.checkTimerExpiry) s =
      if s.gas.stage = .check ∧ hasExpired s.clock s.gas.checkTimer s.params.checkInterval then judgeSeal s
      else s := rfl

@[simp] theorem effect_lineIdle (s : State) :
    effect (Instr.lineIdle) s =
      (let idle := { s with line := { s.line with condition := .idle } }
      if s.lineQuiet then (if s.strapsValid then offerSlots offerOrder idle else idle) else s) := effect_of_exec (by
  simp only [exec, execLineIdle]
  split <;> rfl)

@[simp] theorem effect_arbitrationLoss (claim : ClaimField) (s : State) :
    effect (Instr.arbitrationLoss claim) s =
      (match s.line.attempt, s.line.abort with
      | some a, .none =>
        if 2 ≤ s.position a ∧ s.position a ≤ 8 then
          parkTest
            (slotReturns a.slot
              { s with
                line :=
                  { s.line with
                    attempt := none, receiving := some ((claimRead claim).take (s.position a)) } })
        else s
      | _, _ => s) := effect_of_exec (by
  simp only [exec, execArbitrationLoss]
  cases s.line.attempt <;> cases s.line.abort <;> try rfl
  dsimp only
  split <;> rfl)

@[simp] theorem effect_bitError (s : State) :
    effect (Instr.bitError) s =
      (match s.line.attempt, s.line.abort with
      | some a, .none =>
        if 1 ≤ s.position a ∧ s.position a ≤ a.lastPosition then
          let u := noteLineWait a.slot s
          let noted := { u with dose := { u.dose with attemptLength := none } }
          if s.slotFailures a.slot < 3 then
            let failed := onSlot a.slot slotFail slotFail noted
            parkTest { failed with line := { failed.line with abort := .short } }
          else parkTest { noted with line := { noted.line with abort := .fourth } }
        else s
      | _, _ => s) := effect_of_exec (by
  simp only [exec, execBitError]
  cases s.line.attempt <;> cases s.line.abort <;> try rfl
  dsimp only
  (repeat' split) <;> rfl)

@[simp] theorem effect_frameCompletion (s : State) :
    effect (Instr.frameCompletion) s =
      (match s.line.attempt, s.line.abort with
      | some a, .none =>
        if a.lastPosition ≤ s.position a then
          let sent := onSlot a.slot slotComplete slotComplete s
          parkTest
            (ownerCompleted a.slot s
              { sent with
                line :=
                  { sent.line with
                    attempt := none, recessiveRun := 0, dominantRun := 0, condition := .busy } })
        else s
      | _, _ => s) := effect_of_exec (by
  simp only [exec, execFrameCompletion]
  cases s.line.attempt <;> cases s.line.abort <;> try rfl
  dsimp only
  split <;> rfl)

@[simp] theorem effect_badFrame (s : State) :
    effect (Instr.badFrame) s =
      badFrame (endReception s) := rfl

@[simp] theorem effect_lineStuck (s : State) :
    effect (Instr.lineStuck) s =
      if s.line.condition ≠ .stuck ∧ Config.stuckRun ≤ s.line.dominantRun then
        { s with
          line :=
            { s.line with
              condition := .stuck, recessiveRun := 0, stuckSince := some s.clock, stuckReported := false } }
      else s := effect_of_exec (by
  simp only [exec, execLineStuck]
  split <;> rfl)

@[simp] theorem effect_stuckTimeout (s : State) :
    effect (Instr.stuckTimeout) s =
      if s.line.condition = .stuck ∧ s.line.stuckReported = false
          ∧ hasExpired s.clock s.line.stuckSince Config.stuckLimit then
        reportF .lineDead { s with line := { s.line with stuckReported := true } }
      else s := effect_of_exec (by
  simp only [exec, execStuckTimeout]
  split <;> rfl)

@[simp] theorem effect_stuckEnd (s : State) :
    effect (Instr.stuckEnd) s =
      if s.line.condition = .stuck then
        { s with
          line :=
            { s.line with
              condition := .busy, dominantRun := 0, recessiveRun := 1, stuckSince := none
              stuckReported := false } }
      else s := effect_of_exec (by
  simp only [exec, execStuckEnd]
  split <;> rfl)

@[simp] theorem effect_startBit (s : State) :
    effect (Instr.startBit) s =
      (match s.line.condition with
      | .idle =>
        { s with
          line :=
            { s.line with
              condition := .busy, recessiveRun := 0, dominantRun := 1, receiving := some [false] } }
      | .busy =>
        { s with line := { s.line with recessiveRun := 0, dominantRun := max 1 s.line.dominantRun } }
      | .stuck => s) := effect_of_exec (by
  simp only [exec, execStartBit]
  cases s.line.condition <;> rfl)

@[simp] theorem effect_receivedOpen (sender target : StationNo) (zone : Byte) (length : Half) (s : State) :
    effect (Instr.receivedOpen sender target zone length) s =
      receive .opening sender target (some zone) (frameGood .opening sender 3)
        (peerOpens sender length) s := rfl

@[simp] theorem effect_receivedShut (sender target : StationNo) (zone : Byte) (samples : Half) (s : State) :
    effect (Instr.receivedShut sender target zone samples) s =
      receive .shut sender target (some zone) (frameGood .shut sender 3) (removeKeyed sender) s := rfl

@[simp] theorem effect_receivedFault (sender target : StationNo) (code zone valve : Byte) (s : State) :
    effect (Instr.receivedFault sender target code zone valve) s =
      receive .fault sender target (some zone) (frameGood .fault sender 3) (peerFaults sender code) s := rfl

@[simp] theorem effect_receivedStatus (sender target : StationNo) (payload : List Byte) (s : State) :
    effect (Instr.receivedStatus sender target payload) s =
      receive .status sender target none (frameGood .status sender payload.length)
        (peerStatus sender payload) s := rfl

@[simp] theorem effect_receivedHold (sender target : StationNo) (zone q : Byte) (s : State) :
    effect (Instr.receivedHold sender target zone q) s =
      receive .hold sender target (some zone) (frameGood .hold sender 2)
        (fun s => if 0 < q.toNat then peerHolds sender q.toNat s else peerReleases sender s) s := rfl

@[simp] theorem effect_receivedResult (sender target : StationNo) (payload : List Byte) (s : State) :
    effect (Instr.receivedResult sender target payload) s =
      receive .result sender target none (frameGood .result sender payload.length) id s := rfl

@[simp] theorem effect_load (sender target : StationNo) (offset : Byte) (data : List Byte) (s : State) :
    effect (Instr.load sender target offset data) s =
      receive .load sender target none (frameGood .load sender (data.length + 1)) (takeLoad offset data) s := rfl

@[simp] theorem effect_loadEnd (sender target : StationNo) (length : Half) (s : State) :
    effect (Instr.loadEnd sender target length) s =
      receive .loadEnd sender target none (frameGood .loadEnd sender 2) (takeLoadEnd length) s := rfl

@[simp] theorem effect_start (sender target : StationNo) (s : State) :
    effect (Instr.start sender target) s =
      receive .start sender target none (frameGood .start sender 0) takeStart s := rfl

@[simp] theorem effect_stop (sender target : StationNo) (s : State) :
    effect (Instr.stop sender target) s =
      receive .stop sender target none (frameGood .stop sender 0) takeStop s := rfl

@[simp] theorem effect_clear (sender target : StationNo) (cells : Half) (s : State) :
    effect (Instr.clear sender target cells) s =
      receive .clear sender target none (frameGood .clear sender 2) (takeClear cells) s := rfl

@[simp] theorem effect_unknownKindFrame (sender target : StationNo) (kind : BitVec 4) (payload : List Byte) (s : State) :
    effect (Instr.unknownKindFrame sender target kind payload) s =
      receive .unknown sender target none true id s := rfl

@[simp] theorem effect_drawCountdown (s : State) :
    effect (Instr.drawCountdown) s =
      if s.cycle.station = .loading then s else countDrawTable s := rfl

@[simp] theorem effect_holdCountdown (s : State) :
    effect (Instr.holdCountdown) s =
      if s.cycle.station = .loading then s else parkTest (countHoldTable s) := rfl

@[simp] theorem effect_holdResend (s : State) :
    effect (Instr.holdResend) s =
      if s.hold.asserted ∧ hasExpired s.clock s.hold.resend (resendInterval s.params) then resendHold s
      else s := rfl

@[simp] theorem effect_abortMarkEnd (s : State) :
    effect (Instr.abortMarkEnd) s =
      (match s.line.attempt with
      | none => s
      | some a =>
        if Config.abortPosition ≤ s.position a then
          match s.line.abort with
          | .none => s
          | .short => parkTest (slotReturns a.slot (releaseLine s))
          | .fourth => parkTest (fourthFailure a.slot (releaseLine s))
        else s) := effect_of_exec (by
  simp only [exec, execAbortMarkEnd]
  cases s.line.attempt <;> try rfl
  dsimp only
  split <;> cases s.line.abort <;> rfl)

/-! ## Every command is taken -/

/-- Every command answers a next state: the head has no halt. -/
theorem exec_eq_effect (c : Instr) (s : State) : exec c s = .next (effect c s) := by
  have h : ∃ t, exec c s = .next t := by
    cases c with
    | mkInfeed b =>
      simp only [exec, execMkInfeed]
      cases s.cycle.station <;> simp
      split <;> simp
    | zeroingTest => simp only [exec, execZeroingTest]; split <;> simp
    | gasFbOpens => simp only [exec, execGasFbOpens]; (repeat' split) <;> simp
    | lineIdle => simp only [exec, execLineIdle]; split <;> simp
    | arbitrationLoss => simp only [exec, execArbitrationLoss]; (repeat' split) <;> simp
    | bitError => simp only [exec, execBitError]; (repeat' split) <;> simp
    | frameCompletion => simp only [exec, execFrameCompletion]; (repeat' split) <;> simp
    | lineStuck => simp only [exec, execLineStuck]; split <;> simp
    | stuckTimeout => simp only [exec, execStuckTimeout]; split <;> simp
    | stuckEnd => simp only [exec, execStuckEnd]; split <;> simp
    | startBit => simp only [exec, execStartBit]; split <;> simp
    | abortMarkEnd => simp only [exec, execAbortMarkEnd]; (repeat' split) <;> simp
    | _ => exact ⟨_, rfl⟩
  obtain ⟨t, ht⟩ := h
  simp [effect, ht]

theorem eq_effect_of_exec {c : Instr} {s t : State} (h : exec c s = .next t) : t = effect c s :=
  (effect_of_exec h).symm

/-- A predicate holds after every step that does not look at the queue and is kept by a tick and by every command. -/
theorem step_keeps {P : State → Prop} (queue : ∀ s q, P s → P { s with pending := q })
    (ticks : ∀ s, P s → P (tick s)) (commands : ∀ c s, P s → P (effect c s)) {s t : State} (h : P s)
    (hs : step s = .next t) : P t := by
  unfold step at hs
  split at hs
  · rw [exec_eq_effect] at hs
    cases hs
    exact commands _ _ (queue _ _ h)
  · cases hs
    exact ticks _ h

end Sys2Proof.Machine
end

section
/-!
PROOFS. The bounds of the sensor port, the result queue, the line's runs and M (O56): one relation between the
states before and after an operation, which composes, and which every operation and every command meets.
-/

namespace Sys2Proof.Machine

/-- Each of the four bounds that holds of `s` holds of `t`. -/
structure BoundsKept (s t : State) : Prop where
  sensor : SensorLaw s → SensorLaw t
  queue : QueueLaw s → QueueLaw t
  line : LineLaw s → LineLaw t
  mass : MassLaw s → MassLaw t

theorem BoundsKept.refl (s : State) : BoundsKept s s := ⟨id, id, id, id⟩

theorem BoundsKept.trans {s t u : State} (h : BoundsKept s t) (g : BoundsKept t u) : BoundsKept s u :=
  ⟨g.sensor ∘ h.sensor, g.queue ∘ h.queue, g.line ∘ h.line, g.mass ∘ h.mass⟩

/-! ## Each bound from what it reads -/

theorem SensorLaw.of_eq {s t : State} (h : SensorLaw s) (ho : t.sensor.zeroOffset = s.sensor.zeroOffset)
    (hh : t.sensor.header = s.sensor.header) (hb : t.sensor.bell = s.sensor.bell)
    (hd : t.sensor.zeroDebt ≤ 4) (hz : t.sensor.zeroSamples.length ≤ 16) : SensorLaw t :=
  ⟨ho ▸ h.offset, hd, hh ▸ h.header, hb ▸ h.bell, hz⟩

theorem QueueLaw.of_eq {s t : State} (h : QueueLaw s) (hq : t.result.queue = s.result.queue)
    (hd : t.result.dropCount = s.result.dropCount) : QueueLaw t :=
  ⟨hq ▸ h.records, hd ▸ h.drops⟩

theorem LineLaw.of_wire {s t : State} (h : LineLaw s) (hw : t.line.wire = s.line.wire) : LineLaw t := by
  have hr := congrArg (·.recessiveRun) hw
  have hd := congrArg (·.dominantRun) hw
  have hb := congrArg (·.badCount) hw
  exact ⟨hr.trans_le h.recessive, hd.trans_le h.dominant, hb.trans_le h.bad⟩

theorem MassLaw.of_le {s t : State} (h : MassLaw s) (hm : massOf t.context ≤ massOf s.context)
    (hs : t.dose.massAtStart = s.dose.massAtStart) : MassLaw t :=
  ⟨hm.trans h.mass, hs ▸ h.start⟩

/-- An operation keeps the bounds when it leaves what they read, M apart, which it may also put to 0. -/
theorem BoundsKept.of_same {s t : State}
    (h : t.sensor = s.sensor ∧ t.result.queue = s.result.queue ∧ t.result.dropCount = s.result.dropCount
      ∧ t.line.wire = s.line.wire ∧ t.dose.massAtStart = s.dose.massAtStart
      ∧ massOf t.context ≤ massOf s.context) : BoundsKept s t := by
  obtain ⟨hs, hq, hd, hw, hm, hc⟩ := h
  exact ⟨fun l => l.of_eq (by rw [hs]) (by rw [hs]) (by rw [hs]) (hs ▸ l.debt) (hs ▸ l.samples),
    fun l => l.of_eq hq hd, fun l => l.of_wire hw, fun l => l.of_le hc hm⟩

/-- As `of_same`, for an operation on the zeroing and its debt. -/
theorem BoundsKept.of_sensor {s t : State}
    (h : t.sensor.zeroOffset = s.sensor.zeroOffset ∧ t.sensor.header = s.sensor.header
      ∧ t.sensor.bell = s.sensor.bell ∧ t.result.queue = s.result.queue
      ∧ t.result.dropCount = s.result.dropCount ∧ t.line.wire = s.line.wire
      ∧ t.dose.massAtStart = s.dose.massAtStart ∧ massOf t.context ≤ massOf s.context)
    (hd : s.sensor.zeroDebt ≤ 4 → t.sensor.zeroDebt ≤ 4)
    (hz : s.sensor.zeroSamples.length ≤ 16 → t.sensor.zeroSamples.length ≤ 16) : BoundsKept s t := by
  obtain ⟨ho, hh, hb, hq, hr, hw, hm, hc⟩ := h
  exact ⟨fun l => l.of_eq ho hh hb (hd l.debt) (hz l.samples),
    fun l => l.of_eq hq hr, fun l => l.of_wire hw, fun l => l.of_le hc hm⟩

/-! ## The closing of a context -/

theorem length_discardOldest (b : Bool) (q : List Record) (h : q.length ≤ 8) (h' : 8 ≤ q.length) :
    (discardOldest b q).length = 7 := by
  match q with
  | r :: rest =>
    simp only [List.length_cons] at h h'
    cases b
    · simp [discardOldest]; omega
    · simp [discardOldest]; omega

theorem oneMoreDropped_le (n : Nat) : oneMoreDropped n ≤ 255 := by
  unfold oneMoreDropped; split <;> omega

theorem queueLaw_queueRecord (r : Record) {s : State} (h : QueueLaw s) : QueueLaw (queueRecord r s) := by
  obtain ⟨hq, hd⟩ := h
  unfold queueRecord
  split
  · next hlt =>
    have hl : s.result.queue.length < 8 := hlt
    exact ⟨by simp; omega, by simpa using hd⟩
  · next hge =>
    have hl := length_discardOldest (slotOnLine s.line.resultSlot) _ hq (not_lt.1 hge)
    exact ⟨by simp [hl], by simpa using oneMoreDropped_le _⟩

theorem accrueDebt_debt_le {s : State} (h : s.sensor.zeroDebt ≤ 4) : (accrueDebt s).sensor.zeroDebt ≤ 4 := by
  unfold accrueDebt
  dsimp only
  (repeat' split) <;> simp [h]

theorem boundsKept_closeContext (s : State) : BoundsKept s (closeContext s) := by
  cases hc : s.context with
  | none => simpa [closeContext, hc] using BoundsKept.refl s
  | some c =>
    refine ⟨fun l => ?_, fun l => ?_, fun l => l.of_wire (by simp), fun l => l.of_le (by simp) (by simp)⟩
    · refine l.of_eq (by simp) (by simp) (by simp) ?_ (by simpa using l.samples)
      simpa [closeContext, hc] using accrueDebt_debt_le (by simpa using l.debt)
    · have : QueueLaw (queueRecord (buildRecord s c) (countReject (buildRecord s c).reason
          { s with context := none, result := { s.result with sequence := s.result.sequence + 1 } })) :=
        queueLaw_queueRecord _ (l.of_eq (by simp) (by simp))
      exact this.of_eq (by simp [closeContext, hc]) (by simp [closeContext, hc])

/-! ## Zeroing time and the moves of the station -/

theorem boundsKept_startZeroing (s : State) : BoundsKept s (startZeroing s) :=
  .of_sensor (by simp) (by simp) (by simp [startZeroing])

theorem boundsKept_endGrant (s : State) : BoundsKept s (endGrant s) := by
  refine .of_sensor (by simp) (by simp) (fun h => ?_)
  cases hz : s.sensor.zeroing <;> simp [endGrant, hz, h]

theorem boundsKept_grantPassPocket (s : State) : BoundsKept s (grantPassPocket s) := by
  unfold grantPassPocket
  split
  · exact boundsKept_startZeroing s
  · exact .of_same (by simp)

theorem boundsKept_moveTo (a : Station) (s : State) : BoundsKept s (moveTo a s) :=
  .of_sensor (by simp) (by simp) (by simp)

theorem boundsKept_parkTest (s : State) : BoundsKept s (parkTest s) := by
  unfold parkTest
  split
  · exact boundsKept_moveTo _ s
  · exact .refl s

theorem boundsKept_abandonContext (s : State) : BoundsKept s (abandonContext s) := by
  unfold abandonContext
  split
  · exact .trans (.of_same (by simp)) (boundsKept_closeContext _)
  · exact .refl s

theorem boundsKept_enterFaulted (s : State) : BoundsKept s (enterFaulted s) :=
  (boundsKept_moveTo .faulted s).trans
    ((boundsKept_abandonContext _).trans (.trans (.of_same (by simp)) (boundsKept_endGrant _)))

theorem boundsKept_reportF (c : Cell) (s : State) : BoundsKept s (reportF c s) := by
  unfold reportF
  split
  · split
    · exact .of_same (by simp)
    · exact .refl s
  · have placed : BoundsKept s (placeFault c (retestIfDead c (latch c s))) := .of_same (by simp)
    dsimp only
    split
    · exact placed.trans ((boundsKept_enterFaulted _).trans (.of_same (by simp)))
    · exact placed.trans (.of_same (by simp))

theorem boundsKept_findStuckValve (s : State) : BoundsKept s (findStuckValve s) := by
  unfold findStuckValve
  split
  · exact .refl s
  · exact .trans (.of_same (by simp)) (boundsKept_reportF _ _)

/-! ## The Cycle Controller -/

theorem boundsKept_openContext (b : Bool) (rs : List Reason) (s : State) :
    BoundsKept s (openContext b rs s) :=
  .of_same (by simp [openContext, freshContext, massOf])

theorem boundsKept_passPocket (b : Bool) (r : Reason) (s : State) : BoundsKept s (passPocket b r s) :=
  (boundsKept_openContext b [r] s).trans
    (.trans (.of_same (t := { openContext b [r] s with
      cycle := { (openContext b [r] s).cycle with phase := .pass } }) (by simp)) (boundsKept_closeContext _))

theorem boundsKept_decidePocket (b : Bool) (s : State) : BoundsKept s (decidePocket b s) := by
  unfold decidePocket
  dsimp only
  split
  · exact (boundsKept_passPocket b _ s).trans (boundsKept_grantPassPocket _)
  · split
    · exact (boundsKept_openContext b [] s).trans (.of_same (by simp))
    · split
      · exact (boundsKept_passPocket b _ s).trans (boundsKept_grantPassPocket _)
      · exact boundsKept_passPocket b _ s

theorem boundsKept_startCycle (b : Bool) (s : State) : BoundsKept s (startCycle b s) :=
  .trans (.trans (.of_same (by simp)) (boundsKept_endGrant _)) (boundsKept_decidePocket b _)

theorem boundsKept_recordStopped (b : Bool) (r : Reason) (s : State) :
    BoundsKept s (recordStopped b r s) :=
  (boundsKept_openContext b [r] s).trans (boundsKept_closeContext _)

theorem boundsKept_completeStop (s : State) : BoundsKept s (completeStop s) := by
  unfold completeStop
  split
  · exact .trans (.of_same (by simp)) (boundsKept_moveTo _ _)
  · exact .refl s

theorem boundsKept_closeOutOfOrder (s : State) : BoundsKept s (closeOutOfOrder s) := by
  unfold closeOutOfOrder
  split
  · exact .trans (.of_same (by simp)) (boundsKept_closeContext _)
  · exact .refl s

theorem boundsKept_handleAgain (b : Bool) (s : State) : BoundsKept s (handleAgain b s) := by
  unfold handleAgain
  split
  · exact boundsKept_recordStopped b _ s
  · exact boundsKept_startCycle b s

theorem boundsKept_infeedOutOfOrder (b : Bool) (s : State) : BoundsKept s (infeedOutOfOrder b s) := by
  have measured : BoundsKept s (measurePeriod (reportA .markOrder s)) := .of_same (by simp)
  have ended (u : State) : BoundsKept u (endGrant { u with cycle := { u.cycle with phase := .returning } }) :=
    .trans (.of_same (by simp)) (boundsKept_endGrant _)
  exact measured.trans ((boundsKept_closeOutOfOrder _).trans
    ((ended _).trans ((boundsKept_completeStop _).trans (boundsKept_handleAgain b _))))

theorem boundsKept_wake (b : Bool) (s : State) : BoundsKept s (wake b s) :=
  (boundsKept_moveTo .run s).trans (.trans (.of_same (by simp)) (boundsKept_startCycle b _))

theorem boundsKept_discharge (s : State) : BoundsKept s (discharge s) := by
  have closed : BoundsKept s (setPhase .returning (closeContext (returnGas (returnCrimp s)))) :=
    .trans (.of_same (by simp))
      ((boundsKept_closeContext (returnGas (returnCrimp s))).trans (.of_same (by simp)))
  unfold discharge
  dsimp only
  split
  · exact closed.trans (boundsKept_completeStop _)
  · exact closed.trans (.of_same (by simp))

theorem boundsKept_dischargeEarly (s : State) : BoundsKept s (dischargeEarly s) := by
  have ends (u : State) : BoundsKept u (reportA .markOrder (discharge (addReason .markError u))) :=
    .trans (.of_same (by simp)) ((boundsKept_discharge (addReason .markError u)).trans (.of_same (by simp)))
  unfold dischargeEarly
  dsimp only
  split
  · exact .trans (.of_same (by simp)) (ends _)
  · exact .trans (.of_same (by simp)) (ends _)

theorem boundsKept_takeDischarge (s : State) : BoundsKept s (takeDischarge s) := by
  unfold takeDischarge
  split
  · exact .refl s
  · exact .of_same (by simp)
  · exact boundsKept_discharge s
  · exact boundsKept_dischargeEarly s

theorem boundsKept_mkInfeed (b : Bool) (s : State) : BoundsKept s (effect (.mkInfeed b) s) := by
  rw [effect_mkInfeed]
  split
  · exact .refl s
  · exact .refl s
  · exact boundsKept_recordStopped b _ s
  · exact boundsKept_recordStopped b _ s
  · exact boundsKept_wake b s
  · split
    · exact .trans (.of_same (by simp)) (boundsKept_startCycle b _)
    · exact boundsKept_infeedOutOfOrder b s

/-! ## Gassing -/

theorem boundsKept_crimpVerdict (good : Bool) (s : State) : BoundsKept s (crimpVerdict good s) := by
  unfold crimpVerdict
  split
  · split
    · split
      · split
        · exact .of_same (by simp)
        · exact .of_same (by simp)
      · exact .of_same (by simp)
    · exact .of_same (by simp)
  · exact .refl s

theorem boundsKept_takeCrimpSample (force depth : Nat) (s : State) :
    BoundsKept s (takeCrimpSample force depth s) := by
  unfold takeCrimpSample
  split
  · exact .refl s
  · split
    · exact .of_same (by simp)
    · exact .refl s
  · exact .of_same (by simp)
  · exact .of_same (by simp)
  · split
    · unfold enterDone
      dsimp only
      (repeat' split) <;> exact .trans (.of_same (by simp)) (boundsKept_crimpVerdict _ _)
    · exact .refl s
  · exact .refl s

/-- The take-back gives M the value it had at the pulse's start, which the bound covers too (R66). -/
theorem boundsKept_takeBack (s : State) : BoundsKept s (takeBack s) := by
  refine ⟨fun l => l.of_eq rfl rfl rfl l.debt l.samples, fun l => l.of_eq rfl rfl,
    fun l => l.of_wire rfl, fun l => ⟨?_, l.start⟩⟩
  have hm := l.mass
  have hs := l.start
  rw [State.mass_eq] at hm ⊢
  cases hc : s.context with
  | none => simp [takeBack, hc]
  | some c => cases hg : c.gas <;> simp [takeBack, hc, hg, massOf, hs]

theorem boundsKept_deadPulse (s : State) : BoundsKept s (deadPulse s) := by
  have ended : BoundsKept s (takeBack (endPulse .dead s)) :=
    .trans (.of_same (by simp)) (boundsKept_takeBack _)
  unfold deadPulse
  dsimp only
  (repeat' split) <;> exact ended.trans (.of_same (by simp))

theorem boundsKept_creditSample (f : Nat) (s : State) : BoundsKept s (creditSample f s) := by
  refine ⟨fun l => l.of_eq (by simp) (by simp) (by simp) (by simpa using l.debt) (by simpa using l.samples),
    fun l => l.of_eq (by simp) (by simp), fun l => l.of_wire (by simp), fun l => ⟨?_, by simpa using l.start⟩⟩
  have hm := l.mass
  unfold creditSample
  split
  · exact hm
  · next g hg =>
    obtain ⟨c, hc, hcg⟩ := Option.bind_eq_some_iff.1 hg
    have credited : massOf (onGasPart (fun p => { p with
        mass := massAfter p.mass (creditOf s.params.coefficient f g.remainder)
        remainder := remainderAfter s.params.coefficient f p.remainder }) s).context ≤ 50000000 := by
      simp [hc, hcg, massOf, massAfter, Config.massLimit]
    dsimp only
    split
    · rw [State.mass_eq, (addCondition_traces _ _).1]
      exact credited
    · exact credited

theorem boundsKept_countSample (s : State) : BoundsKept s (countSample s) := by
  unfold countSample
  split
  · dsimp only
    split
    · exact .trans (.of_same (by simp)) (boundsKept_creditSample _ _)
    · exact .of_same (by simp)
  · exact .refl s

theorem boundsKept_gasTakesSample (s : State) : BoundsKept s (gasTakesSample s) := by
  unfold gasTakesSample judgePulse
  dsimp only
  (repeat' split) <;> first | exact boundsKept_deadPulse s | exact .of_same (by simp)

theorem boundsKept_startPulse (s : State) : BoundsKept s (startPulse s) := by
  refine ⟨fun l => l.of_eq (by simp) (by simp) (by simp) (by simpa using l.debt) (by simpa using l.samples),
    fun l => l.of_eq (by simp) (by simp), fun l => l.of_wire (by simp), fun l => ⟨?_, ?_⟩⟩
  · rw [State.mass_eq, (startPulse_traces s).1]
    exact l.mass
  · exact l.mass

/-! ## The Sensor Port -/

theorem channelAfter_misses_le (r : SensorReply) (c : ChannelState) : (channelAfter r c).misses ≤ 3 := by
  unfold channelAfter
  dsimp only
  (repeat' split) <;> simp <;> omega

theorem length_keepReadings_le (l : List (BitVec 12)) (r : BitVec 12) : (keepReadings l r).length ≤ 16 := by
  simp [keepReadings, Config.zeroingReadings]
  omega

theorem boundsKept_collectReading (r : SensorReply) (s : State) : BoundsKept s (collectReading r s) := by
  unfold collectReading
  split
  · exact .refl s
  · split
    · exact .of_sensor (by simp) (by simp) (fun _ => length_keepReadings_le _ _)
    · exact .refl s

theorem boundsKept_handSample (s : State) : BoundsKept s (handSample s) := by
  let u := formDrive (noteClamped { s with sensor := { s.sensor with sample := formSample s.sensor } })
  have formed : BoundsKept s u := .of_sensor (by simp [u]) (by simp [u]) (by simp [u])
  have taken : BoundsKept s (gasTakesSample (countSample u)) :=
    formed.trans ((boundsKept_countSample _).trans (boundsKept_gasTakesSample _))
  show BoundsKept s (watermarkTest (gasTakesSample (countSample u)))
  exact taken.trans (.of_same (by simp))

theorem boundsKept_reportHeaderLost (s : State) : BoundsKept s (reportHeaderLost s) := by
  unfold reportHeaderLost
  split
  · exact .trans (t := { s with sensor := { s.sensor with headerLostDue := false } })
      (.of_sensor (by simp) id id) (boundsKept_reportF _ _)
  · exact .refl s

theorem boundsKept_endHeaderTransaction (r : SensorReply) (s : State) :
    BoundsKept s (endHeaderTransaction r s) := by
  refine ⟨fun l => ⟨by simpa using l.offset, by simpa using l.debt, ?_, by simpa using l.bell,
    by simpa using l.samples⟩, fun l => l.of_eq (by simp) (by simp), fun l => l.of_wire (by simp),
    fun l => l.of_le (by simp) (by simp)⟩
  simpa [endHeaderTransaction] using channelAfter_misses_le r s.sensor.header

theorem boundsKept_endBellTransaction (r : SensorReply) (s : State) :
    BoundsKept s (endBellTransaction r s) := by
  have taken : BoundsKept s { s with sensor := { s.sensor with bell := channelAfter r s.sensor.bell } } :=
    ⟨fun l => ⟨l.offset, l.debt, l.header, channelAfter_misses_le r _, l.samples⟩,
      fun l => l.of_eq rfl rfl, fun l => l.of_wire rfl, fun l => l.of_le le_rfl rfl⟩
  have handed : BoundsKept s (reportHeaderLost (handSample (collectReading r
      (statusIfChanged s.sensor.bell.validity (channelAfter r s.sensor.bell).validity
        { s with sensor := { s.sensor with bell := channelAfter r s.sensor.bell } })))) :=
    (taken.trans (.of_same (by simp))).trans ((boundsKept_collectReading r _).trans
      ((boundsKept_handSample _).trans (boundsKept_reportHeaderLost _)))
  unfold endBellTransaction
  dsimp only
  split
  · exact handed.trans (boundsKept_reportF _ _)
  · exact handed

theorem boundsKept_endTransaction (c : Channel) (r : SensorReply) (s : State) :
    BoundsKept s (endTransaction c r s) := by
  unfold endTransaction
  split
  · exact .refl s
  · split
    · have ended : BoundsKept s { s with sensor := { s.sensor with transaction := none } } :=
        .of_sensor (by simp) id id
      dsimp only
      split
      · exact ended.trans (boundsKept_endHeaderTransaction _ _)
      · exact ended.trans ((boundsKept_endBellTransaction _ _).trans (boundsKept_parkTest _))
    · exact .refl s

theorem boundsKept_finishZeroing (s : State) : BoundsKept s (finishZeroing s) :=
  .of_sensor (by simp) (by simp) (by simp [finishZeroing])

/-- The offset is at most 200 and the debt falls (R50). -/
theorem boundsKept_zeroed (mean : Nat) (s : State) :
    BoundsKept s { s with
      sensor := { s.sensor with zeroOffset := min Config.maxOffset mean, zeroDebt := s.sensor.zeroDebt - 1 } } :=
  ⟨fun l => ⟨min_le_left _ _, (Nat.sub_le _ _).trans l.debt, l.header, l.bell, l.samples⟩,
    fun l => l.of_eq rfl rfl, fun l => l.of_wire rfl, fun l => l.of_le le_rfl rfl⟩

theorem BoundsKept.placeStatus {s t : State} (h : BoundsKept s t) : BoundsKept s (placeStatus t) :=
  h.trans (.of_same (by simp))

theorem boundsKept_applyZeroing (s : State) : BoundsKept s (applyZeroing s) := by
  have applied (mean : Nat) (u : State) := (boundsKept_zeroed mean u).trans (boundsKept_finishZeroing _)
  have reported : BoundsKept s (reportA .zeroDrift s) := .of_same (by simp)
  unfold applyZeroing
  dsimp only
  split <;> split
  · exact (reported.trans (applied _ _)).placeStatus
  · exact (applied _ _).placeStatus
  · exact reported.trans (applied _ _)
  · exact applied _ _

theorem boundsKept_zeroingTest (s : State) : BoundsKept s (effect .zeroingTest s) := by
  rw [effect_zeroingTest]
  split
  · exact .refl s
  · unfold makeZeroTest
    dsimp only
    (repeat' split)
    · exact .trans (.of_same (by simp)) (boundsKept_startZeroing _)
    · exact .of_same (by simp)
    · exact .refl s

/-! ## The Line Interface -/

theorem boundsKept_dropHead (s : State) : BoundsKept s (dropHead s) := by
  refine ⟨fun l => l.of_eq (by simp) (by simp) (by simp) (by simpa using l.debt) (by simpa using l.samples),
    fun l => ⟨?_, by simpa [dropHead] using l.drops⟩, fun l => l.of_wire (by simp), fun l => l.of_le (by simp) (by simp)⟩
  have := l.records
  simp [dropHead]
  omega

/-- A drop count that stays at most 255 keeps the bounds. -/
theorem boundsKept_dropCount (n carried : Nat) (s : State) (h : s.result.dropCount ≤ 255 → n ≤ 255) :
    BoundsKept s { s with result := { s.result with dropCount := n, carried := carried } } :=
  ⟨fun l => l.of_eq rfl rfl rfl l.debt l.samples, fun l => ⟨l.records, h l.drops⟩,
    fun l => l.of_wire rfl, fun l => l.of_le le_rfl rfl⟩

theorem boundsKept_resultCompleted (s : State) : BoundsKept s (resultCompleted s) :=
  (boundsKept_dropCount _ _ s (fun h => (Nat.sub_le _ _).trans h)).trans (boundsKept_dropHead _)

theorem boundsKept_ownerNotSent (k : SlotKind) (s : State) : BoundsKept s (ownerNotSent k s) := by
  unfold ownerNotSent
  split
  · exact (boundsKept_dropCount _ _ s (fun _ => oneMoreDropped_le _)).trans (boundsKept_dropHead _)
  · (repeat' split) <;> exact .of_same (by simp)
  · exact .refl s

theorem boundsKept_fourthFailure (k : SlotKind) (s : State) : BoundsKept s (fourthFailure k s) :=
  .trans (.of_same (by simp)) ((boundsKept_ownerNotSent k _).trans (boundsKept_reportF _ _))

theorem boundsKept_ownerCompleted (k : SlotKind) (before s : State) :
    BoundsKept s (ownerCompleted k before s) := by
  unfold ownerCompleted
  split
  · exact .of_same (by simp)
  · unfold openCompleted
    split
    · exact boundsKept_startPulse s
    · exact .of_same (by simp)
  · exact boundsKept_resultCompleted s
  · exact .refl s

/-- A change of the line's runs and of what is on the line keeps the bounds while the runs stay in theirs. -/
theorem boundsKept_line (l : LineUnit) (s : State) (h : LineLaw s → LineLaw { s with line := l }) :
    BoundsKept s { s with line := l } :=
  ⟨fun l => l.of_eq rfl rfl rfl l.debt l.samples, fun l => l.of_eq rfl rfl, h, fun l => l.of_le le_rfl rfl⟩

theorem boundsKept_beginAttempt (k : SlotKind) (s : State) : BoundsKept s (beginAttempt k s) := by
  have started : BoundsKept s (onSlot k slotStart slotStart s) := .of_same (by simp)
  refine started.trans ⟨fun l => l.of_eq rfl rfl rfl l.debt l.samples, fun l => l.of_eq rfl rfl,
    fun l => ⟨Nat.zero_le _, l.dominant, l.bad⟩, fun l => l.of_le le_rfl rfl⟩

theorem boundsKept_offerOpen (s : State) : BoundsKept s (offerOpen s).2 := by
  unfold offerOpen
  (repeat' split) <;> exact .of_same (by simp [returnToPlan])

theorem boundsKept_offerSlots (l : List SlotKind) (s : State) : BoundsKept s (offerSlots l s) := by
  induction l generalizing s with
  | nil => exact .refl s
  | cons k rest ih =>
    unfold offerSlots
    have opened := boundsKept_offerOpen s
    split
    · split
      · split
        · next u hu => exact (hu ▸ opened).trans (boundsKept_beginAttempt k u)
        · next u hu => exact (hu ▸ opened).trans (ih u)
      · exact boundsKept_beginAttempt k s
    · exact ih s

theorem boundsKept_slotReturns (k : SlotKind) (s : State) : BoundsKept s (slotReturns k s) :=
  .of_same (by simp)

theorem boundsKept_arbitrationLoss (claim : ClaimField) (s : State) :
    BoundsKept s (effect (.arbitrationLoss claim) s) := by
  rw [effect_arbitrationLoss]
  split
  · split
    · refine .trans (boundsKept_line _ s ?_) ((boundsKept_slotReturns _ _).trans (boundsKept_parkTest _))
      exact fun l => ⟨l.recessive, l.dominant, l.bad⟩
    · exact .refl s
  · exact .refl s

theorem boundsKept_bitError (s : State) : BoundsKept s (effect .bitError s) := by
  have marked (u : State) (m : AbortMark) : BoundsKept u { u with line := { u.line with abort := m } } :=
    boundsKept_line _ u (fun l => ⟨l.recessive, l.dominant, l.bad⟩)
  have raised (k : SlotKind) (u : State) : BoundsKept u (onSlot k slotFail slotFail u) := .of_same (by simp)
  have noted (k : SlotKind) : BoundsKept s { noteLineWait k s with
      dose := { (noteLineWait k s).dose with attemptLength := none } } := .of_same (by simp)
  rw [effect_bitError]
  split
  · split
    · dsimp only
      split
      · exact (noted _).trans ((raised _ _).trans ((marked _ _).trans (boundsKept_parkTest _)))
      · exact (noted _).trans ((marked _ _).trans (boundsKept_parkTest _))
    · exact .refl s
  · exact .refl s

theorem boundsKept_frameCompletion (s : State) : BoundsKept s (effect .frameCompletion s) := by
  rw [effect_frameCompletion]
  split
  · split
    · next a _ _ _ =>
      have sent : BoundsKept s (onSlot a.slot slotComplete slotComplete s) := .of_same (by simp)
      refine sent.trans ((boundsKept_line _ _ ?_).trans
        ((boundsKept_ownerCompleted _ s _).trans (boundsKept_parkTest _)))
      exact fun l => ⟨Nat.zero_le _, Nat.zero_le _, l.bad⟩
    · exact .refl s
  · exact .refl s

theorem boundsKept_abortMarkEnd (s : State) : BoundsKept s (effect .abortMarkEnd s) := by
  have released : BoundsKept s (releaseLine s) :=
    boundsKept_line _ s (fun l => ⟨Nat.zero_le _, l.dominant, l.bad⟩)
  rw [effect_abortMarkEnd]
  split
  · exact .refl s
  · split
    · split
      · exact .refl s
      · exact released.trans ((boundsKept_slotReturns _ _).trans (boundsKept_parkTest _))
      · exact released.trans ((boundsKept_fourthFailure _ _).trans (boundsKept_parkTest _))
    · exact .refl s

theorem boundsKept_lineIdle (s : State) : BoundsKept s (effect .lineIdle s) := by
  have idle : BoundsKept s { s with line := { s.line with condition := .idle } } :=
    boundsKept_line _ s (fun l => ⟨l.recessive, l.dominant, l.bad⟩)
  rw [effect_lineIdle]
  dsimp only
  (repeat' split)
  · exact idle.trans (boundsKept_offerSlots _ _)
  · exact idle
  · exact .refl s

theorem boundsKept_startBit (s : State) : BoundsKept s (effect .startBit s) := by
  rw [effect_startBit]
  split
  · exact boundsKept_line _ s (fun l => ⟨Nat.zero_le _, by simp, l.bad⟩)
  · exact boundsKept_line _ s (fun l => ⟨Nat.zero_le _, by have := l.dominant; simp; omega, l.bad⟩)
  · exact .refl s

/-! ## Received frames -/

theorem boundsKept_endReception (s : State) : BoundsKept s (endReception s) :=
  boundsKept_line _ s (fun l => ⟨Nat.zero_le _, l.dominant, l.bad⟩)

theorem boundsKept_endGoodReception (s : State) : BoundsKept s (endGoodReception s) := by
  unfold endGoodReception
  dsimp only
  split
  · exact boundsKept_endReception s
  · exact (boundsKept_endReception s).trans
      (boundsKept_line _ _ (fun l => ⟨l.recessive, Nat.zero_le _, l.bad⟩))

theorem boundsKept_countBad (s : State) : BoundsKept s (countBad s) := by
  unfold countBad
  split
  · next h =>
    have h16 : s.line.badCount < 16 := h
    have counted : BoundsKept s { s with line := { s.line with badCount := s.line.badCount + 1 } } :=
      boundsKept_line _ s (fun l => ⟨l.recessive, l.dominant, h16⟩)
    dsimp only
    split
    · exact counted.trans (.of_same (by simp))
    · exact counted
  · exact .refl s

theorem boundsKept_retest (s : State) : BoundsKept s (retest s) := .of_same (by simp)

theorem boundsKept_badFrame (s : State) : BoundsKept s (badFrame (endReception s)) := by
  have phantom : BoundsKept (countBad (endReception s)) (phantomForBadFrame (countBad (endReception s))) :=
    .of_same (by simp)
  exact (boundsKept_endReception s).trans ((boundsKept_countBad _).trans (phantom.trans (boundsKept_retest _)))

/-- A received frame keeps the bounds when the action of its kind does. -/
theorem boundsKept_receive {k sender target zone good} {act : State → State} (s : State)
    (h : ∀ u, BoundsKept u (act u)) : BoundsKept s (receive k sender target zone good act s) := by
  refine receive_cases (boundsKept_badFrame s) (fun u hu => ?_)
  have heard : BoundsKept s u := hu ▸ (boundsKept_endGoodReception s).trans
    (boundsKept_line _ _ (fun l => ⟨l.recessive, l.dominant, Nat.zero_le _⟩))
  exact ⟨heard.trans (boundsKept_retest u),
    heard.trans ((boundsKept_reportF _ u).trans (boundsKept_retest _)),
    fun _ _ _ _ => heard.trans ((h u).trans (boundsKept_retest _))⟩

theorem boundsKept_takeLoad (offset : Byte) (data : List Byte) (s : State) :
    BoundsKept s (takeLoad offset data s) := by
  have begun : BoundsKept s (newImage s) :=
    (boundsKept_moveTo .loading s).trans (.trans (t := { moveTo .loading s with recipe := State.reset.recipe })
      (.of_same (by simp)) (.of_same (by simp [newImage])))
  unfold takeLoad
  dsimp only
  split
  · exact .of_same (by simp)
  · exact begun.trans (.of_same (by simp))
  · exact .refl s

theorem boundsKept_leaveLoading (s : State) : BoundsKept s (leaveLoading s) := by
  unfold leaveLoading
  split
  · dsimp only
    split
    · exact (boundsKept_enterFaulted s).trans (.of_same (by simp))
    · exact boundsKept_enterFaulted s
  · exact boundsKept_moveTo _ s

theorem boundsKept_takeLoadEnd (length : Half) (s : State) : BoundsKept s (takeLoadEnd length s) := by
  unfold takeLoadEnd
  split
  · dsimp only
    split
    · exact .of_same (by simp)
    · exact .trans (.of_same (by simp)) (boundsKept_leaveLoading _)
  · exact .of_same (by simp)
  · exact .refl s

theorem boundsKept_takeStart (s : State) : BoundsKept s (takeStart s) := by
  have run : BoundsKept s (enterRun s) := .trans (.of_same (by simp)) (boundsKept_moveTo _ _)
  unfold takeStart
  split
  · exact run
  · split
    · exact run
    · exact .of_same (by simp)
  · split
    · exact .of_same (by simp)
    · exact .refl s
  · exact .refl s

theorem boundsKept_takeStop (s : State) : BoundsKept s (takeStop s) := by
  unfold takeStop
  split
  · split
    · exact (boundsKept_endGrant s).trans (.trans (.of_same (by simp)) (boundsKept_moveTo _ _))
    · exact .of_same (by simp)
  · exact boundsKept_moveTo _ s
  · exact .refl s

theorem boundsKept_takeClear (cells : Half) (s : State) : BoundsKept s (takeClear cells s) := by
  have cleared : BoundsKept s (placeStatus (formAlert (allCells.foldl (clearOne cells) s))) :=
    .of_same (by simp)
  unfold takeClear
  dsimp only
  split
  · exact cleared.trans (boundsKept_moveTo _ _)
  · exact cleared

/-! ## Every command and every step -/

theorem boundsKept_reset (straps : StationNo) (s : State) : BoundsKept s (effect (.reset straps) s) := by
  let fresh : State :=
    { State.reset with
      pending := s.pending, freeCount := s.freeCount, gasFb := s.gasFb
      line := { State.reset.line with station := straps } }
  have started : BoundsKept s fresh :=
    ⟨fun _ => ⟨sensorLaw_reset.offset, sensorLaw_reset.debt, sensorLaw_reset.header, sensorLaw_reset.bell,
        sensorLaw_reset.samples⟩,
      fun _ => ⟨queueLaw_reset.records, queueLaw_reset.drops⟩,
      fun _ => ⟨lineLaw_reset.recessive, lineLaw_reset.dominant, lineLaw_reset.bad⟩,
      fun _ => ⟨massLaw_reset.mass, massLaw_reset.start⟩⟩
  rw [effect_reset]
  show BoundsKept s (if s.gasFb then findStuckValve fresh else fresh)
  split
  · exact started.trans (boundsKept_findStuckValve _)
  · exact started

theorem boundsKept_effect (c : Instr) (s : State) : BoundsKept s (effect c s) := by
  cases c with
  | reset straps => exact boundsKept_reset straps s
  | mkInfeed b => exact boundsKept_mkInfeed b s
  | mkGasopen =>
    rw [effect_mkGasopen]; unfold takeGasOpen
    (repeat' split) <;> exact .of_same (by simp)
  | mkGasclose => rw [effect_mkGasclose]; split <;> exact .of_same (by simp)
  | mkDischarge =>
    rw [effect_mkDischarge]
    split
    · exact (boundsKept_takeDischarge s).trans (boundsKept_parkTest _)
    · exact .refl s
  | crimpSample f d => rw [effect_crimpSample]; exact boundsKept_takeCrimpSample _ _ s
  | tSeatExpiry => rw [effect_tSeatExpiry]; split <;> exact .of_same (by simp)
  | tFormExpiry => rw [effect_tFormExpiry]; split <;> exact .of_same (by simp)
  | tDwellExpiry => rw [effect_tDwellExpiry]; split <;> exact .of_same (by simp)
  | tRelExpiry =>
    rw [effect_tRelExpiry]
    split
    · exact .trans (.of_same (by simp)) (boundsKept_reportF _ _)
    · exact .refl s
  | sensorTransactionEnd ch r => rw [effect_sensorTransactionEnd]; exact boundsKept_endTransaction ch r s
  | zeroingTimerExpiry =>
    rw [effect_zeroingTimerExpiry]; unfold endZeroing
    (repeat' split)
    · exact (boundsKept_applyZeroing s).trans (boundsKept_parkTest _)
    · exact (boundsKept_finishZeroing s).trans (boundsKept_parkTest _)
    · exact .refl s
  | zeroingTest => exact boundsKept_zeroingTest s
  | grantVentWaitExpiry =>
    rw [effect_grantVentWaitExpiry]
    split
    · exact boundsKept_startZeroing s
    · exact .refl s
  | silenceLimit =>
    rw [effect_silenceLimit]
    split
    · exact .trans (.of_same (by simp)) (boundsKept_parkTest _)
    · exact .refl s
  | loadingStatusTimer => rw [effect_loadingStatusTimer]; split <;> exact .of_same (by simp)
  | feedbackWindowLapse => rw [effect_feedbackWindowLapse]; split <;> exact .of_same (by simp)
  | gasFbOpens =>
    rw [effect_gasFbOpens]
    dsimp only
    (repeat' split)
    · exact .of_same (by simp)
    · exact .of_same (by simp)
    · exact .trans (.of_same (by simp)) (boundsKept_findStuckValve _)
  | gasFbCloses => rw [effect_gasFbCloses]; exact .trans (.of_same (by simp)) (boundsKept_parkTest _)
  | closeWindowExpiry =>
    rw [effect_closeWindowExpiry]; unfold endCloseWindow
    dsimp only
    (repeat' split)
    · exact .trans (.of_same (by simp)) (boundsKept_findStuckValve _)
    · exact .of_same (by simp)
    · exact .refl s
  | settleTimerExpiry => rw [effect_settleTimerExpiry]; split <;> exact .of_same (by simp)
  | checkTimerExpiry => rw [effect_checkTimerExpiry]; split <;> exact .of_same (by simp)
  | lineIdle => exact boundsKept_lineIdle s
  | arbitrationLoss claim => exact boundsKept_arbitrationLoss claim s
  | bitError => exact boundsKept_bitError s
  | frameCompletion => exact boundsKept_frameCompletion s
  | badFrame => rw [effect_badFrame]; exact boundsKept_badFrame s
  | lineStuck =>
    rw [effect_lineStuck]
    split
    · exact boundsKept_line _ s (fun l => ⟨Nat.zero_le _, l.dominant, l.bad⟩)
    · exact .refl s
  | stuckTimeout =>
    rw [effect_stuckTimeout]
    split
    · refine .trans (boundsKept_line { s.line with stuckReported := true } s ?_) (boundsKept_reportF _ _)
      exact fun l => ⟨l.recessive, l.dominant, l.bad⟩
    · exact .refl s
  | stuckEnd =>
    rw [effect_stuckEnd]
    split
    · exact boundsKept_line _ s (fun l => ⟨by simp, Nat.zero_le _, l.bad⟩)
    · exact .refl s
  | startBit => exact boundsKept_startBit s
  | abortMarkEnd => exact boundsKept_abortMarkEnd s
  | receivedOpen => rw [effect_receivedOpen]; exact boundsKept_receive s (fun _ => .of_same (by simp))
  | receivedShut => rw [effect_receivedShut]; exact boundsKept_receive s (fun _ => .of_same (by simp))
  | receivedFault => rw [effect_receivedFault]; exact boundsKept_receive s (fun _ => .of_same (by simp))
  | receivedStatus => rw [effect_receivedStatus]; exact boundsKept_receive s (fun _ => .of_same (by simp))
  | receivedHold =>
    rw [effect_receivedHold]
    refine boundsKept_receive s (fun u => ?_)
    split <;> exact .of_same (by simp)
  | receivedResult => rw [effect_receivedResult]; exact boundsKept_receive s .refl
  | unknownKindFrame => rw [effect_unknownKindFrame]; exact boundsKept_receive s .refl
  | load => rw [effect_load]; exact boundsKept_receive s (boundsKept_takeLoad _ _)
  | loadEnd => rw [effect_loadEnd]; exact boundsKept_receive s (boundsKept_takeLoadEnd _)
  | start => rw [effect_start]; exact boundsKept_receive s boundsKept_takeStart
  | stop => rw [effect_stop]; exact boundsKept_receive s boundsKept_takeStop
  | clear => rw [effect_clear]; exact boundsKept_receive s (boundsKept_takeClear _)
  | drawCountdown => rw [effect_drawCountdown]; split <;> exact .of_same (by simp)
  | holdCountdown =>
    rw [effect_holdCountdown]
    split
    · exact .refl s
    · exact .trans (.of_same (by simp)) (boundsKept_parkTest _)
  | holdResend => rw [effect_holdResend]; split <;> exact .of_same (by simp)

theorem boundsKept_tick (s : State) : BoundsKept s (tick s) := by
  refine ⟨fun l => l.of_eq (by simp) (by simp) (by simp) (by simpa using l.debt) (by simpa using l.samples),
    fun l => l.of_eq rfl rfl, fun l => ⟨?_, ?_, l.bad⟩, fun l => l.of_le le_rfl rfl⟩
  · rw [tick_line, readBit_recessiveRun]
    split <;> omega
  · rw [tick_line, readBit_dominantRun]
    split <;> omega

theorem boundsKept_step {s t : State} (h : step s = .next t) : BoundsKept s t :=
  step_keeps (P := BoundsKept s) (fun _ _ g => g.trans (.of_same (by simp)))
    (fun u g => g.trans (boundsKept_tick u)) (fun c u g => g.trans (boundsKept_effect c u)) (.refl s) h

end Sys2Proof.Machine
end

section
/-!
PROOFS. What every step keeps of the class F cells, the image, the recipe, the draw table and the hold table
(O56, O57): one relation between the states before and after an operation, which composes, and which every
operation and every command meets.
-/

namespace Sys2Proof.Machine

/-- Each of the laws of the image, the recipe and the two tables that holds of `s` holds of `t`. -/
structure TablesKept (s t : State) : Prop where
  image : ImageLaw s → ImageLaw t
  recipe : RecipeLaw s → RecipeLaw t
  draw : DrawLaw s → DrawLaw t
  hold : HoldLaw s → HoldLaw t

/-- Beside the laws of the tables, a class F cell keeps its hold on the station. -/
structure LawsKept (s t : State) : Prop where
  tables : TablesKept s t
  faults : FaultsHold s → FaultsHold t

theorem TablesKept.refl (s : State) : TablesKept s s := ⟨id, id, id, id⟩

theorem TablesKept.trans {s t u : State} (h : TablesKept s t) (g : TablesKept t u) : TablesKept s u :=
  ⟨g.image ∘ h.image, g.recipe ∘ h.recipe, g.draw ∘ h.draw, g.hold ∘ h.hold⟩

theorem LawsKept.refl (s : State) : LawsKept s s := ⟨.refl s, id⟩

theorem LawsKept.trans {s t u : State} (h : LawsKept s t) (g : LawsKept t u) : LawsKept s u :=
  ⟨h.tables.trans g.tables, g.faults ∘ h.faults⟩

/-! ## Each law from what it reads -/

theorem FaultsHold.of_eq {s t : State} (h : FaultsHold s) (hs : t.cycle.station = s.cycle.station)
    (hf : anyClassF t.fault.latched = anyClassF s.fault.latched) : FaultsHold t := by
  intro any
  rw [hs]
  exact h (hf.symm.trans any)

theorem RecipeLaw.of_eq {s t : State} (h : RecipeLaw s) (hs : t.cycle.station = s.cycle.station)
    (hr : t.recipe.recipe = s.recipe.recipe) : RecipeLaw t :=
  ⟨by rw [hs, hr]; exact h.held, by rw [hr]; exact h.ranges⟩

theorem DrawLaw.of_eq {s t : State} (h : DrawLaw s) (hr : RecipeLaw t) (hl : t.line.station = s.line.station)
    (hk : t.draw.keyed = s.draw.keyed) (hp : t.draw.phantoms = s.draw.phantoms) : DrawLaw t := by
  have ho : t.ownKey = s.ownKey := by simp only [State.ownKey, hl]
  exact ⟨hr, hk ▸ h.form, hk ▸ h.keys, by rw [ho, hk]; exact h.own, hk ▸ h.entries, hp ▸ h.phantoms⟩

theorem HoldLaw.of_eq {s t : State} (h : HoldLaw s) (hr : RecipeLaw t) (hl : t.line.station = s.line.station)
    (ht : t.hold.table = s.hold.table) (ha : t.hold.asserted = s.hold.asserted)
    (hs : t.hold.asserted = true → t.cycle.station = .ready ∨ t.cycle.station = .run) : HoldLaw t := by
  have ho : t.ownKey = s.ownKey := by simp only [State.ownKey, hl]
  have hv : t.strapsValid = s.strapsValid := by simp only [State.strapsValid, hl]
  exact ⟨hr, ht ▸ h.form, by rw [hv, ht]; exact h.keys, ht ▸ h.entries, by rw [ho, ht, ha]; exact h.own, hs⟩

/-- The fields the laws of the tables read are the same in both states. -/
theorem TablesKept.of_same {s t : State}
    (h : t.cycle.station = s.cycle.station ∧ t.recipe = s.recipe ∧ t.line.station = s.line.station
      ∧ t.draw.keyed = s.draw.keyed ∧ t.draw.phantoms = s.draw.phantoms ∧ t.hold.table = s.hold.table
      ∧ t.hold.asserted = s.hold.asserted) : TablesKept s t := by
  obtain ⟨hs, hr, hl, hk, hp, ht, ha⟩ := h
  have recipe (l : RecipeLaw s) : RecipeLaw t := l.of_eq hs (by rw [hr])
  refine ⟨fun l => ?_, recipe, fun l => l.of_eq (recipe l.recipe) hl hk hp, fun l =>
    l.of_eq (recipe l.recipe) hl ht ha (by rw [ha, hs]; exact l.states)⟩
  unfold ImageLaw at l ⊢
  rw [hr]
  exact l

theorem LawsKept.of_same {s t : State}
    (h : t.cycle.station = s.cycle.station ∧ anyClassF t.fault.latched = anyClassF s.fault.latched
      ∧ t.recipe = s.recipe ∧ t.line.station = s.line.station
      ∧ t.draw.keyed = s.draw.keyed ∧ t.draw.phantoms = s.draw.phantoms ∧ t.hold.table = s.hold.table
      ∧ t.hold.asserted = s.hold.asserted) : LawsKept s t := by
  obtain ⟨hs, hf, tables⟩ := h
  exact ⟨.of_same ⟨hs, tables⟩, fun l => l.of_eq hs hf⟩

/-- As `of_same`, for an operation on the draw table's entries of other stations. -/
theorem LawsKept.of_draw {s t : State}
    (h : t.cycle.station = s.cycle.station ∧ t.fault.latched = s.fault.latched
      ∧ t.recipe = s.recipe ∧ t.line.station = s.line.station ∧ t.hold = s.hold)
    (hd : DrawLaw s → DrawLaw t) : LawsKept s t := by
  obtain ⟨hs, hf, hr, hl, hh⟩ := h
  have recipe (l : RecipeLaw s) : RecipeLaw t := l.of_eq hs (by rw [hr])
  refine ⟨⟨fun l => ?_, recipe, hd, fun l => l.of_eq (recipe l.recipe) hl (by rw [hh]) (by rw [hh]) ?_⟩,
    fun l => l.of_eq hs (by rw [hf])⟩
  · unfold ImageLaw at l ⊢
    rw [hr]
    exact l
  · rw [hh, hs]
    exact l.states

/-- As `of_same`, for an operation on the hold table. -/
theorem LawsKept.of_hold {s t : State}
    (h : t.cycle.station = s.cycle.station ∧ t.fault.latched = s.fault.latched
      ∧ t.recipe = s.recipe ∧ t.line.station = s.line.station
      ∧ t.draw.keyed = s.draw.keyed ∧ t.draw.phantoms = s.draw.phantoms)
    (hh : HoldLaw s → HoldLaw t) : LawsKept s t := by
  obtain ⟨hs, hf, hr, hl, hk, hp⟩ := h
  have recipe (l : RecipeLaw s) : RecipeLaw t := l.of_eq hs (by rw [hr])
  refine ⟨⟨fun l => ?_, recipe, fun l => l.of_eq (recipe l.recipe) hl hk hp, hh⟩,
    fun l => l.of_eq hs (by rw [hf])⟩
  unfold ImageLaw at l ⊢
  rw [hr]
  exact l

/-! ## Every entry of a table -/

section Entries
variable {α : Type} {p : Nat × α → Bool}

theorem all_tableSet {k : Nat} {v : α} (hv : p (k, v) = true) {l : List (Nat × α)} (h : l.all p = true) :
    (tableSet k v l).all p = true := by
  induction l with
  | nil => simp [tableSet, hv]
  | cons e rest ih =>
    simp only [List.all_cons, Bool.and_eq_true] at h
    unfold tableSet
    (repeat' split) <;> simp [hv, h.1, h.2, ih h.2]

theorem all_tableErase (k : Nat) {l : List (Nat × α)} (h : l.all p = true) :
    (tableErase k l).all p = true := by
  induction l with
  | nil => rfl
  | cons e rest ih =>
    simp only [List.all_cons, Bool.and_eq_true] at h
    unfold tableErase
    split <;> simp [h.1, ih h.2]

theorem all_tableUpdate {f : α → Option α} (hf : ∀ k v w, p (k, v) = true → f v = some w → p (k, w) = true)
    {l : List (Nat × α)} (h : l.all p = true) : (tableUpdate f l).all p = true := by
  induction l with
  | nil => rfl
  | cons e rest ih =>
    simp only [List.all_cons, Bool.and_eq_true] at h
    unfold tableUpdate
    split
    · next w hw => simp [hf _ _ _ h.1 hw, ih h.2]
    · exact ih h.2

theorem tableGet_tableUpdate_of_none {k : Nat} (f : α → Option α) {l : List (Nat × α)}
    (h : tableGet k l = none) : tableGet k (tableUpdate f l) = none := by
  induction l with
  | nil => rfl
  | cons e rest ih =>
    obtain ⟨j, v⟩ := e
    unfold tableGet at h
    split at h
    · cases h
    · next hj =>
      unfold tableUpdate
      split
      · simp [tableGet, hj, ih h]
      · exact ih h

end Entries

/-! ## What the recipe's ranges give -/

theorem clampTo_range {low high : Nat} (h : low ≤ high) (v : Nat) :
    low ≤ clampTo low high v ∧ clampTo low high v ≤ high := by
  unfold clampTo
  (repeat' split) <;> omega

theorem RecipeLaw.present {s : State} (h : RecipeLaw s) (hs : s.cycle.station ≠ .loading) : InRange s.params := by
  cases hr : s.recipe.recipe with
  | none => exact absurd (h.held.2 hr) hs
  | some p => simpa [State.params, hr] using h.ranges p hr

theorem HoldLaw.station_of_asserted {s : State} (h : HoldLaw s) (ha : s.hold.asserted = true) :
    s.cycle.station ≠ .loading := by
  rcases h.states ha with h | h <;> simp [h]

theorem HoldLaw.own_of_asserted {s : State} (h : HoldLaw s) (ha : s.hold.asserted = true) :
    (tableGet s.ownKey s.hold.table).isSome = true := by rw [← h.own]; exact ha

/-! ## The own entry of the hold table -/

theorem ownKey_lt_of_strapsValid {s : State} (h : s.strapsValid = true) : s.ownKey < 31 := by
  simp only [State.strapsValid, decide_eq_true_eq] at h
  simp only [State.ownKey]
  omega

/-- The own entry made or renewed at Q by an assertion in READY or RUN. -/
theorem HoldLaw.ownEntrySet {s t : State} (h : HoldLaw s)
    (hs : s.cycle.station = .ready ∨ s.cycle.station = .run)
    (ht : t.cycle.station = s.cycle.station ∧ t.recipe = s.recipe ∧ t.line.station = s.line.station
      ∧ t.hold.table = tableSet s.ownKey s.params.holdTime s.hold.table ∧ t.hold.asserted = true) :
    HoldLaw t := by
  obtain ⟨hst, hr, hl, htab, ha⟩ := ht
  have ho : t.ownKey = s.ownKey := by simp only [State.ownKey, hl]
  have hv : t.strapsValid = s.strapsValid := by simp only [State.strapsValid, hl]
  have range := (h.recipe.present (by rcases hs with hs | hs <;> simp [hs])).holdTime
  refine ⟨h.recipe.of_eq hst (by rw [hr]), ?_, fun valid => ?_, ?_, ?_, fun _ => hst ▸ hs⟩
  · rw [htab]; exact tableWf_tableSet _ _ h.form
  · rw [hv] at valid
    rw [htab]; exact keysBelow31_tableSet (ownKey_lt_of_strapsValid valid) _ (h.keys valid)
  · rw [htab]; exact all_tableSet (by simpa using range) h.entries
  · rw [ha, ho, htab]; simp

/-- The own entry gone, and the assertion with it. -/
theorem HoldLaw.ownEntryDropped {s t : State} (h : HoldLaw s) (hr : RecipeLaw t)
    (ht : t.line.station = s.line.station ∧ t.hold.table = tableErase s.ownKey s.hold.table
      ∧ t.hold.asserted = false) : HoldLaw t := by
  obtain ⟨hl, htab, ha⟩ := ht
  have ho : t.ownKey = s.ownKey := by simp only [State.ownKey, hl]
  have hv : t.strapsValid = s.strapsValid := by simp only [State.strapsValid, hl]
  refine ⟨hr, ?_, fun valid => ?_, ?_, ?_, fun h => by simp [ha] at h⟩
  · rw [htab]; exact tableWf_tableErase _ h.form
  · rw [hv] at valid
    rw [htab]; exact keysBelow31_tableErase _ (h.keys valid)
  · rw [htab]; exact all_tableErase _ h.entries
  · rw [ha, ho, htab]; simp

/-- The table without entries, and no assertion. -/
theorem HoldLaw.emptied {t : State} (hr : RecipeLaw t) (ht : t.hold.table = []) (ha : t.hold.asserted = false) :
    HoldLaw t :=
  ⟨hr, by rw [ht]; rfl, fun _ => by rw [ht]; rfl, by rw [ht]; rfl, by rw [ht, ha]; rfl, fun h => by simp [ha] at h⟩

theorem lawsKept_testAssertion (s : State) : LawsKept s (testAssertion s) := by
  unfold testAssertion
  split
  · next h =>
    simp only [State.assertionPasses, Bool.and_eq_true, Bool.or_eq_true, beq_iff_eq] at h
    obtain ⟨⟨⟨⟨_, hs⟩, _⟩, _⟩, _⟩ := h
    exact .of_hold (by simp)
      (fun l => l.ownEntrySet hs (by simp [setAsserted, setOwnEntry, State.ownKey, State.params]))
  · exact .refl s

theorem lawsKept_retest (s : State) : LawsKept s (retest s) := .of_same (by simp)

theorem lawsKept_releaseHold (s : State) : LawsKept s (releaseHold s) :=
  .of_hold (by simp [releaseHold]) (fun l => l.ownEntryDropped (l.recipe.of_eq (by simp) (by simp))
    (by simp [releaseHold, setAsserted, dropOwnEntry, State.ownKey]))

theorem lawsKept_standDown (s : State) : LawsKept s (standDown s) := by
  unfold standDown
  split
  · exact .of_hold (by simp) (fun l => l.ownEntryDropped (l.recipe.of_eq (by simp) (by simp))
      (by simp [setAsserted, dropOwnEntry]))
  · exact .refl s

theorem lawsKept_suppressHold (s : State) : LawsKept s (suppressHold s) := by
  unfold suppressHold
  dsimp only
  split
  · exact .of_hold (by simp) (fun l => l.ownEntryDropped (l.recipe.of_eq (by simp) (by simp))
      (by simp [setAsserted, dropOwnEntry, State.ownKey]))
  · exact .of_same (by simp)

theorem lawsKept_resendHold (s : State) (ha : s.hold.asserted = true) : LawsKept s (resendHold s) :=
  .of_hold (by simp)
    (fun l => l.ownEntrySet (l.states ha) (by simp [resendHold, setOwnEntry, ha, State.ownKey, State.params]))

theorem lawsKept_holdCompleted (q : Nat) (s : State) : LawsKept s (holdCompleted q s) := by
  unfold holdCompleted
  split
  · next h => exact .of_hold (by simp) (fun l => l.ownEntrySet (l.states h.2) (by simp [setOwnEntry, h.2]))
  · exact .refl s

/-- The entry of another station made or replaced. -/
theorem HoldLaw.entrySet {s t : State} (h : HoldLaw s) {k q : Nat} (hk : k < 31) (hq : 1 ≤ q ∧ q ≤ 255)
    (hne : s.ownKey ≠ k)
    (ht : t = { s with hold := { s.hold with table := tableSet k q s.hold.table } }) : HoldLaw t := by
  subst ht
  refine ⟨h.recipe.of_eq rfl rfl, tableWf_tableSet _ _ h.form,
    fun valid => keysBelow31_tableSet hk _ (h.keys valid),
    all_tableSet (by simpa using hq) h.entries, ?_, h.states⟩
  show s.hold.asserted = (tableGet s.ownKey (tableSet k q s.hold.table)).isSome
  rw [tableGet_tableSet_of_ne hne]
  exact h.own

/-- The entry of another station removed. -/
theorem HoldLaw.entryErased {s t : State} (h : HoldLaw s) {k : Nat} (hne : s.ownKey ≠ k)
    (ht : t = { s with hold := { s.hold with table := tableErase k s.hold.table } }) : HoldLaw t := by
  subst ht
  refine ⟨h.recipe.of_eq rfl rfl, tableWf_tableErase _ h.form,
    fun valid => keysBelow31_tableErase _ (h.keys valid), all_tableErase _ h.entries, ?_, h.states⟩
  show s.hold.asserted = (tableGet s.ownKey (tableErase k s.hold.table)).isSome
  rw [tableGet_tableErase, if_neg hne]
  exact h.own

theorem lawsKept_peerHolds {sender : StationNo} {q : Nat} {s : State} (hk : sender.toNat < 31)
    (hq : 1 ≤ q ∧ q ≤ 255) (hne : s.ownKey ≠ sender.toNat) : LawsKept s (peerHolds sender q s) := by
  have set : LawsKept s { s with hold := { s.hold with table := tableSet sender.toNat q s.hold.table } } :=
    .of_hold (by simp) (fun l => l.entrySet hk hq hne rfl)
  unfold peerHolds
  dsimp only
  split
  · exact set.trans (lawsKept_suppressHold _)
  · exact set

theorem lawsKept_peerReleases {sender : StationNo} {s : State} (hne : s.ownKey ≠ sender.toNat) :
    LawsKept s (peerReleases sender s) := by
  have erased : LawsKept s { s with hold := { s.hold with table := tableErase sender.toNat s.hold.table } } :=
    .of_hold (by simp) (fun l => l.entryErased hne rfl)
  unfold peerReleases
  split
  · exact .refl s
  · dsimp only
    split
    · exact erased.trans (lawsKept_testAssertion _)
    · exact erased

/-! ## The countdown of the hold table -/

theorem countOne_range {n m : Nat} (h : countOne n = some m) (hn : n ≤ 255) : 1 ≤ m ∧ m ≤ 255 := by
  unfold countOne at h
  split at h
  · cases h
  · cases h; omega

theorem countedEntries {l : List (Nat × Nat)} (h : l.all (fun e => decide (1 ≤ e.2 ∧ e.2 ≤ 255)) = true) :
    (tableUpdate countOne l).all (fun e => decide (1 ≤ e.2 ∧ e.2 ≤ 255)) = true :=
  all_tableUpdate (fun _ v w hv hw => by
    simp only [decide_eq_true_eq] at hv ⊢
    exact countOne_range hw hv.2) h

theorem holdLaw_counted {s t : State} (h : HoldLaw s)
    (ht : t = { s with hold := { s.hold with table := tableUpdate countOne s.hold.table } })
    (kept : s.hold.asserted = true → tableGet s.ownKey t.hold.table ≠ none) : HoldLaw t := by
  subst ht
  refine ⟨h.recipe.of_eq rfl rfl, tableWf_tableUpdate _ h.form,
    fun valid => keysBelow31_tableUpdate _ (h.keys valid), countedEntries h.entries, ?_, h.states⟩
  show s.hold.asserted = (tableGet s.ownKey (tableUpdate countOne s.hold.table)).isSome
  cases ha : s.hold.asserted with
  | true => exact (Option.isSome_iff_ne_none.2 (kept ha)).symm
  | false =>
    have none : tableGet s.ownKey s.hold.table = none := by simpa [ha] using h.own.symm
    rw [tableGet_tableUpdate_of_none _ none]
    rfl

theorem lawsKept_ownEntryExpired {s : State} (hn : tableGet s.ownKey (tableUpdate countOne s.hold.table) = none) :
    LawsKept s
      (ownEntryExpired { s with hold := { s.hold with table := tableUpdate countOne s.hold.table } }) := by
  refine .trans (.trans (.of_hold (t := setAsserted false { s with hold :=
    { s.hold with table := tableUpdate countOne s.hold.table, resend := none } }) (by simp) fun l => ?_)
    (lawsKept_retest _)) (lawsKept_testAssertion _)
  refine ⟨l.recipe.of_eq (by simp) (by simp), ?_, fun valid => ?_, ?_, ?_, fun h => by simp [setAsserted] at h⟩
  · simpa [setAsserted] using tableWf_tableUpdate _ l.form
  · simpa [setAsserted] using keysBelow31_tableUpdate _ (l.keys (by simpa [State.strapsValid] using valid))
  · simpa [setAsserted] using countedEntries l.entries
  · simpa [setAsserted, State.ownKey] using hn

theorem lawsKept_countHoldTable (s : State) : LawsKept s (countHoldTable s) := by
  unfold countHoldTable
  dsimp only
  split
  · next h => exact lawsKept_ownEntryExpired h.2.2
  · next stays =>
    have counted :
        LawsKept s { s with hold := { s.hold with table := tableUpdate countOne s.hold.table } } :=
      .of_hold (by simp) (fun l =>
        holdLaw_counted l rfl (fun ha gone => stays ⟨ha, l.own_of_asserted ha, gone⟩))
    (repeat' split)
    · exact counted.trans ((lawsKept_retest _).trans (lawsKept_testAssertion _))
    · exact counted.trans (lawsKept_retest _)
    · exact counted

/-! ## The draw table -/

theorem DrawLaw.entrySet {s t : State} (h : DrawLaw s) {k : Nat} {e : KeyedEntry} (hk : k < 31)
    (hne : s.ownKey ≠ k) (he : entryInRange e = true)
    (ht : t.cycle.station = s.cycle.station ∧ t.recipe = s.recipe ∧ t.line.station = s.line.station
      ∧ t.draw.keyed = tableSet k e s.draw.keyed ∧ t.draw.phantoms = s.draw.phantoms) : DrawLaw t := by
  obtain ⟨hst, hr, hl, hkey, hp⟩ := ht
  have ho : t.ownKey = s.ownKey := by simp only [State.ownKey, hl]
  refine ⟨h.recipe.of_eq hst (by rw [hr]), ?_, ?_, ?_, ?_, hp ▸ h.phantoms⟩ <;> rw [hkey]
  · exact tableWf_tableSet _ _ h.form
  · exact keysBelow31_tableSet hk _ h.keys
  · rw [ho, tableGet_tableSet_of_ne hne]; exact h.own
  · exact all_tableSet he h.entries

theorem DrawLaw.entryErased {s t : State} (h : DrawLaw s) {k : Nat}
    (ht : t.cycle.station = s.cycle.station ∧ t.recipe = s.recipe ∧ t.line.station = s.line.station
      ∧ t.draw.keyed = tableErase k s.draw.keyed ∧ t.draw.phantoms = s.draw.phantoms) : DrawLaw t := by
  obtain ⟨hst, hr, hl, hkey, hp⟩ := ht
  have ho : t.ownKey = s.ownKey := by simp only [State.ownKey, hl]
  refine ⟨h.recipe.of_eq hst (by rw [hr]), ?_, ?_, ?_, ?_, hp ▸ h.phantoms⟩ <;> rw [hkey]
  · exact tableWf_tableErase _ h.form
  · exact keysBelow31_tableErase _ h.keys
  · rw [ho, tableGet_tableErase]; simp [h.own]
  · exact all_tableErase _ h.entries

theorem lawsKept_peerOpens {sender : StationNo} (length : Half) {s : State} (hk : sender.toNat < 31)
    (hne : s.ownKey ≠ sender.toNat) (hs : s.cycle.station ≠ .loading) :
    LawsKept s (peerOpens sender length s) := by
  unfold peerOpens
  split
  · exact .refl s
  · refine .of_draw (by simp) (fun l =>
      l.entrySet (e := .peer (clampTo 1 400 length.toNat + s.params.guardTime)) hk hne ?_
        ⟨rfl, rfl, rfl, rfl, rfl⟩)
    have guard := (l.recipe.present hs).guardTime
    have opening := clampTo_range (low := 1) (high := 400) (by omega) length.toNat
    exact decide_eq_true ⟨by omega, by omega⟩

theorem lawsKept_removeKeyed (sender : StationNo) (s : State) : LawsKept s (removeKeyed sender s) := by
  unfold removeKeyed
  dsimp only
  split <;> exact .of_draw (by simp) (fun l => l.entryErased (k := sender.toNat) (by simp))

theorem lawsKept_makeStuck {sender : StationNo} {s : State} (hk : sender.toNat < 31)
    (hne : s.ownKey ≠ sender.toNat) : LawsKept s (makeStuck sender s) := by
  unfold makeStuck
  split
  · exact .refl s
  · exact .of_draw (by simp) (fun l => l.entrySet (e := .stuck) hk hne rfl (by simp))

theorem lawsKept_peerFaults {sender : StationNo} {s : State} (code : Byte) (hk : sender.toNat < 31)
    (hne : s.ownKey ≠ sender.toNat) : LawsKept s (peerFaults sender code s) := by
  unfold peerFaults
  split
  · exact lawsKept_makeStuck hk hne
  · exact .refl s

theorem lawsKept_peerStatus {sender : StationNo} {s : State} (payload : List Byte) (hk : sender.toNat < 31)
    (hne : s.ownKey ≠ sender.toNat) : LawsKept s (peerStatus sender payload s) := by
  unfold peerStatus
  (repeat' split)
  · exact .refl s
  · exact .refl s
  · exact lawsKept_makeStuck hk hne
  · exact lawsKept_removeKeyed sender s
  · exact .refl s

theorem phantomInRange_reserve {n : Nat} (hn : 1 ≤ n ∧ n ≤ 500) {p : Phantoms}
    (h : (phantomList p).all phantomInRange = true) :
    (phantomList (reservePhantom n p)).all phantomInRange = true := by
  have new : phantomInRange (some n) = true := by simpa [phantomInRange] using hn
  simp only [phantomList, List.all_cons, List.all_nil, Bool.and_true, Bool.and_eq_true] at h
  obtain ⟨h1, h2, h3, h4⟩ := h
  unfold reservePhantom
  (repeat' split) <;> simp [phantomList, new, h1, h2, h3, h4]

theorem lawsKept_phantomForBadFrame (s : State) : LawsKept s (phantomForBadFrame s) := by
  unfold phantomForBadFrame
  split
  · exact .refl s
  · next hs =>
    refine .of_draw (by simp) (fun l => ⟨l.recipe.of_eq rfl rfl, l.form, l.keys, l.own, l.entries,
      phantomInRange_reserve ?_ l.phantoms⟩)
    obtain ⟨hshort, hlong⟩ := (l.recipe.present hs).longest
    have least := (l.recipe.present hs).shortest
    have guard := (l.recipe.present hs).guardTime
    omega

theorem phantomInRange_count {o : Option Nat} (h : phantomInRange o = true) :
    phantomInRange (o.bind countOne) = true := by
  cases o with
  | none => rfl
  | some n =>
    simp only [phantomInRange, decide_eq_true_eq] at h
    simp only [Option.bind_some, countOne]
    split
    · rfl
    · simp only [phantomInRange, decide_eq_true_eq]; omega

theorem entryInRange_count {e f : KeyedEntry} (h : entryInRange e = true) (hf : countKeyed e = some f) :
    entryInRange f = true := by
  cases e with
  | stuck => cases hf; rfl
  | peer n =>
    simp only [entryInRange, decide_eq_true_eq] at h
    simp only [countKeyed, countOne] at hf
    split at hf
    · cases hf
    · cases hf
      simp only [entryInRange, decide_eq_true_eq]; omega

theorem lawsKept_countDrawTable (s : State) : LawsKept s (countDrawTable s) := by
  have counted : LawsKept s { s with draw := countDraw s.draw } := by
    refine .of_draw (by simp) (fun l => ⟨l.recipe.of_eq rfl rfl, tableWf_tableUpdate _ l.form,
      keysBelow31_tableUpdate _ l.keys, tableGet_tableUpdate_of_none _ l.own,
      all_tableUpdate (fun _ _ _ hv hw => entryInRange_count hv hw) l.entries, ?_⟩)
    have h := l.phantoms
    simp only [phantomList, List.all_cons, List.all_nil, Bool.and_true, Bool.and_eq_true] at h
    obtain ⟨h1, h2, h3, h4⟩ := h
    simp [phantomList, countDraw, countPhantoms, phantomInRange_count, h1, h2, h3, h4]
  unfold countDrawTable
  dsimp only
  split
  · exact counted.trans (lawsKept_retest _)
  · exact counted

/-! ## A change of station state -/

theorem moveTo_draw {a : Station} (ha : a ≠ .loading) (s : State) :
    (moveTo a s).draw.keyed = s.draw.keyed ∧ (moveTo a s).draw.phantoms = s.draw.phantoms := by
  cases a <;> simp [moveTo, drawAtMove] at ha ⊢

theorem moveTo_hold_of_not_asserted {a : Station} {s : State} (ha : a ≠ .loading)
    (hs : s.hold.asserted = false) : (moveTo a s).hold = s.hold := by
  cases a <;> simp [moveTo, holdAtMove, standDown, hs] at ha ⊢

theorem moveTo_hold_of_awake {a : Station} (ha : a = .ready ∨ a = .run) (s : State) :
    (moveTo a s).hold = s.hold := by
  rcases ha with rfl | rfl <;> simp [moveTo, holdAtMove]

theorem moveTo_hold_dropped {a : Station} {s : State} (hs : s.hold.asserted = true)
    (ha : a = .faulted ∨ a = .standby ∧ s.cycle.station = .run) :
    (moveTo a s).hold.table = tableErase s.ownKey s.hold.table ∧ (moveTo a s).hold.asserted = false := by
  rcases ha with rfl | ⟨rfl, hr⟩
  · simp [moveTo, holdAtMove, standDown, hs, setAsserted, dropOwnEntry, State.ownKey]
  · simp [moveTo, holdAtMove, hr, hs, releaseHold, setAsserted, dropOwnEntry, State.ownKey]

/-- A move between states other than LOADING keeps the laws when a fault does not stay behind in READY, RUN, PARKED
or STANDBY, and when an assertion is not carried to PARKED or STANDBY. -/
theorem lawsKept_moveTo {a : Station} {s : State} (ha : a ≠ .loading) (hs : s.cycle.station ≠ .loading)
    (hf : a = .faulted ∨ s.cycle.station ≠ .faulted ∨ anyClassF s.fault.latched = false)
    (hp : a = .parked → s.hold.asserted = false)
    (hb : a = .standby → s.cycle.station ≠ .ready) : LawsKept s (moveTo a s) := by
  have recipe (l : RecipeLaw s) : RecipeLaw (moveTo a s) :=
    ⟨by simpa [ha] using fun h => hs (l.held.2 h), by simpa using l.ranges⟩
  obtain ⟨hk, hph⟩ := moveTo_draw ha s
  refine ⟨⟨fun l => by simpa [ImageLaw] using l, recipe, fun l => l.of_eq (recipe l.recipe) (by simp) hk hph,
    fun l => ?_⟩, fun l any => ?_⟩
  · cases hh : s.hold.asserted with
    | false =>
      have same := moveTo_hold_of_not_asserted ha hh
      exact l.of_eq (recipe l.recipe) (by simp) (by rw [same]) (by rw [same]) (by rw [same, hh]; simp)
    | true =>
      have awake := l.states hh
      cases a with
      | loading => exact absurd rfl ha
      | ready =>
        have same := moveTo_hold_of_awake (.inl rfl) s
        exact l.of_eq (recipe l.recipe) (by simp) (by rw [same]) (by rw [same]) (by simp)
      | run =>
        have same := moveTo_hold_of_awake (.inr rfl) s
        exact l.of_eq (recipe l.recipe) (by simp) (by rw [same]) (by rw [same]) (by simp)
      | parked => simp [hp rfl] at hh
      | standby =>
        have running := awake.resolve_left (hb rfl)
        exact l.ownEntryDropped (recipe l.recipe) ⟨by simp, moveTo_hold_dropped hh (.inr ⟨rfl, running⟩)⟩
      | faulted => exact l.ownEntryDropped (recipe l.recipe) ⟨by simp, moveTo_hold_dropped hh (.inl rfl)⟩
  · have before : anyClassF s.fault.latched = true := by simpa [State.anyF] using any
    rcases hf with rfl | hf | hf
    · simp
    · exact absurd (l before) (by simp [hs, hf])
    · simp [before] at hf

theorem lawsKept_parkTest (s : State) : LawsKept s (parkTest s) := by
  unfold parkTest
  split
  · next h =>
    obtain ⟨hs, _, hp⟩ := h
    refine lawsKept_moveTo (by simp) (by simp [hs]) (by simp [hs]) (fun _ => ?_) (by simp)
    simp only [State.mayPark, Bool.and_eq_true] at hp
    simpa using hp.2
  · exact .refl s

theorem lawsKept_enterFaulted {s : State} (hs : s.cycle.station ≠ .loading) : LawsKept s (enterFaulted s) := by
  have moved : LawsKept s (moveTo .faulted s) := lawsKept_moveTo (by simp) hs (by simp) (by simp) (by simp)
  have abandoned : LawsKept (moveTo .faulted s) (abandonContext (moveTo .faulted s)) := .of_same (by simp)
  have ended (u : State) :
      LawsKept u (endGrant { u with cycle := { u.cycle with phase := .returning, stopPending := false } }) :=
    .of_same (by simp)
  exact moved.trans (abandoned.trans (ended _))

/-- A class F report keeps the laws: it leaves the station FAULTED, or in LOADING. -/
theorem lawsKept_reportF (c : Cell) (s : State) : LawsKept s (reportF c s) := by
  unfold reportF
  split
  · split
    · exact .of_same (by simp)
    · exact .refl s
  · dsimp only
    have placed : TablesKept s (placeFault c (retestIfDead c (latch c s))) := .of_same (by simp)
    split
    · next hm =>
      have hs : (placeFault c (retestIfDead c (latch c s))).cycle.station ≠ .loading := by
        intro h
        rw [h] at hm
        exact absurd hm (by decide)
      refine ⟨placed.trans ((lawsKept_enterFaulted hs).tables.trans (.of_same (by simp))), fun _ _ => ?_⟩
      simp
    · next hm =>
      refine ⟨placed.trans (.of_same (by simp)), fun _ _ => ?_⟩
      cases hs : s.cycle.station <;> simp [hs, movesToFaulted] at hm ⊢

theorem lawsKept_findStuckValve (s : State) : LawsKept s (findStuckValve s) := by
  unfold findStuckValve
  split
  · exact .refl s
  · exact .trans (.of_same (by simp)) (lawsKept_reportF _ _)

/-! ## The Cycle Controller -/

theorem lawsKept_completeStop {s : State} (hs : s.cycle.station = .run) : LawsKept s (completeStop s) := by
  unfold completeStop
  split
  · exact .trans (.of_same (by simp))
      (lawsKept_moveTo (by simp) (by simp [hs]) (by simp [hs]) (by simp) (by simp [hs]))
  · exact .refl s

theorem lawsKept_infeedOutOfOrder (b : Bool) {s : State} (hs : s.cycle.station = .run) :
    LawsKept s (infeedOutOfOrder b s) := by
  have closed : LawsKept s (closeOutOfOrder (measurePeriod (reportA .markOrder s))) := .of_same (by simp)
  have ended (u : State) : LawsKept u (endGrant { u with cycle := { u.cycle with phase := .returning } }) :=
    .of_same (by simp)
  have again (u : State) : LawsKept u (handleAgain b u) := .of_same (by simp)
  exact closed.trans ((ended _).trans ((lawsKept_completeStop (by simp [hs])).trans (again _)))

theorem lawsKept_wake (b : Bool) {s : State} (hs : s.cycle.station = .parked) : LawsKept s (wake b s) := by
  have started (u : State) :
      LawsKept u (startCycle b { u with cycle := { u.cycle with infeedRef := some u.clock } }) := .of_same (by simp)
  exact (lawsKept_moveTo (a := .run) (by simp) (by simp [hs]) (by simp [hs]) (by simp) (by simp)).trans (started _)

theorem lawsKept_discharge {s : State} (hs : s.cycle.station = .run) : LawsKept s (discharge s) := by
  have closed : LawsKept s (setPhase .returning (closeContext (returnGas (returnCrimp s)))) := .of_same (by simp)
  unfold discharge
  dsimp only
  split
  · exact closed.trans (lawsKept_completeStop (by simp [hs]))
  · exact closed.trans (.of_same (by simp))

theorem lawsKept_dischargeEarly {s : State} (hs : s.cycle.station = .run) : LawsKept s (dischargeEarly s) := by
  have ends (u : State) (hu : u.cycle.station = .run) :
      LawsKept u (reportA .markOrder (discharge (addReason .markError u))) :=
    .trans (.of_same (by simp)) ((lawsKept_discharge (s := addReason .markError u) (by simp [hu])).trans
      (.of_same (by simp)))
  unfold dischargeEarly
  dsimp only
  split
  · exact .trans (.of_same (by simp)) (ends _ (by simp [hs]))
  · exact .trans (.of_same (by simp)) (ends _ (by simp [hs]))

theorem lawsKept_takeDischarge {s : State} (hs : s.cycle.station = .run) : LawsKept s (takeDischarge s) := by
  unfold takeDischarge
  split
  · exact .refl s
  · exact .of_same (by simp)
  · exact lawsKept_discharge hs
  · exact lawsKept_dischargeEarly hs

theorem lawsKept_mkInfeed (b : Bool) (s : State) : LawsKept s (effect (.mkInfeed b) s) := by
  rw [effect_mkInfeed]
  split
  · exact .refl s
  · exact .refl s
  · exact .of_same (by simp)
  · exact .of_same (by simp)
  · next hs => exact lawsKept_wake b hs
  · next hs =>
    split
    · exact .of_same (by simp)
    · exact lawsKept_infeedOutOfOrder b hs

theorem lawsKept_takeStart (s : State) : LawsKept s (takeStart s) := by
  have run (hs : s.cycle.station = .ready ∨ s.cycle.station = .standby) : LawsKept s (enterRun s) := by
    refine .trans (.of_same (by simp)) (lawsKept_moveTo ?_ ?_ ?_ ?_ ?_)
    all_goals rcases hs with hs | hs <;> simp [hs]
  unfold takeStart
  split
  · next hs => exact run (.inl hs)
  · next hs =>
    split
    · exact run (.inr hs)
    · exact .of_same (by simp)
  · split
    · exact .of_same (by simp)
    · exact .refl s
  · exact .refl s

theorem lawsKept_takeStop (s : State) : LawsKept s (takeStop s) := by
  have ended (u : State) : LawsKept u { endGrant u with cycle := { (endGrant u).cycle with phase := .returning } } :=
    .of_same (by simp)
  unfold takeStop
  split
  · next hs =>
    split
    · exact (ended s).trans (lawsKept_moveTo (by simp) (by simp [hs]) (by simp [hs]) (by simp) (by simp [hs]))
    · exact .of_same (by simp)
  · next hs => exact lawsKept_moveTo (by simp) (by simp [hs]) (by simp [hs]) (by simp) (by simp [hs])
  · exact .refl s

/-! ## Cells cleared -/

theorem clearOne_anyF {cells : Half} {s : State} {c : Cell}
    (h : anyClassF (clearOne cells s c).fault.latched = true) : anyClassF s.fault.latched = true := by
  unfold clearOne at h
  split at h
  · exact anyClassF_clear c _ h
  · exact h

theorem clearCells_anyF {cells : Half} (l : List Cell) {s : State}
    (h : anyClassF (l.foldl (clearOne cells) s).fault.latched = true) : anyClassF s.fault.latched = true := by
  induction l generalizing s with
  | nil => exact h
  | cons c rest ih => exact clearOne_anyF (ih h)

theorem lawsKept_takeClear (cells : Half) (s : State) : LawsKept s (takeClear cells s) := by
  have cleared : LawsKept s (placeStatus (formAlert (allCells.foldl (clearOne cells) s))) := by
    refine ⟨.of_same (by simp), fun l any => ?_⟩
    have before : anyClassF s.fault.latched = true :=
      clearCells_anyF allCells (by simpa [State.anyF] using any)
    simpa using l before
  unfold takeClear
  dsimp only
  split
  · next h =>
    obtain ⟨hs, hn⟩ := h
    exact cleared.trans (lawsKept_moveTo (by simp) (by rw [hs]; simp) (.inr (.inr hn)) (by simp) (by simp))
  · exact cleared

/-! ## The recipe -/

theorem InRange.clamped (p : Recipe) : InRange (clampRecipe p) := by
  constructor
  all_goals simp only [clampRecipe, clampTo]
  all_goals (repeat' split) <;> omega

theorem leaveLoading_station (s : State) :
    (leaveLoading s).cycle.station = if anyClassF s.fault.latched then .faulted else .ready := by
  unfold leaveLoading State.anyF
  dsimp only
  split
  · split <;> simp
  · simp

theorem leaveLoading_anyF (s : State) :
    anyClassF (leaveLoading s).fault.latched = anyClassF s.fault.latched := by
  unfold leaveLoading
  dsimp only
  (repeat' split) <;> simp

theorem leaveLoading_draw (s : State) :
    (leaveLoading s).draw.keyed = s.draw.keyed ∧ (leaveLoading s).draw.phantoms = s.draw.phantoms := by
  have faulted := moveTo_draw (a := .faulted) (by simp) s
  have ready := moveTo_draw (a := .ready) (by simp) s
  unfold leaveLoading
  dsimp only
  (repeat' split) <;> simp [enterFaulted, faulted, ready]

theorem leaveLoading_hold {s : State} (ha : s.hold.asserted = false) : (leaveLoading s).hold = s.hold := by
  have faulted := moveTo_hold_of_not_asserted (a := .faulted) (by simp) ha
  have ready := moveTo_hold_of_not_asserted (a := .ready) (by simp) ha
  unfold leaveLoading
  dsimp only
  (repeat' split) <;> simp [enterFaulted, faulted, ready]

/-- LOADING left with a recipe in its ranges, from a state that differs from one in LOADING by its recipe and its
enables alone. -/
theorem lawsKept_leaveLoading {s u : State} {p : Recipe} (hs : s.cycle.station = .loading) (hp : InRange p)
    (hu : u.recipe.recipe = some p ∧ u.recipe.image = s.recipe.image ∧ u.line.station = s.line.station
      ∧ u.draw = s.draw ∧ u.hold = s.hold) : LawsKept s (leaveLoading u) := by
  obtain ⟨hrec, himage, hl, hd, hh⟩ := hu
  have recipe : RecipeLaw (leaveLoading u) := by
    refine ⟨?_, ?_⟩
    · rw [leaveLoading_station]
      split <;> simp [hrec]
    · intro q hq
      simp only [leaveLoading_keeps, hrec, Option.some.injEq] at hq
      exact hq ▸ hp
  have hk := leaveLoading_draw u
  refine ⟨⟨fun l => ?_, fun _ => recipe, fun l => ?_, fun l => ?_⟩, fun _ any => ?_⟩
  · simpa [ImageLaw, himage] using l
  · exact l.of_eq recipe (by simp [hl]) (by rw [hk.1, hd]) (by rw [hk.2, hd])
  · have quiet : s.hold.asserted = false := by
      rw [← Bool.not_eq_true]
      exact fun ha => l.station_of_asserted ha hs
    have same := leaveLoading_hold (s := u) (by rw [hh]; exact quiet)
    exact l.of_eq recipe (by simp [hl]) (by rw [same, hh]) (by rw [same, hh]) (by rw [same, hh, quiet]; simp)
  · rw [State.anyF, leaveLoading_anyF] at any
    rw [leaveLoading_station, if_pos any]
    exact .inr rfl

theorem lawsKept_acceptRecipe (raw : Recipe) (unknown : Bool) {s u : State} (hs : s.cycle.station = .loading)
    (hu : u.recipe.image = s.recipe.image ∧ u.line.station = s.line.station ∧ u.draw = s.draw ∧ u.hold = s.hold) :
    LawsKept s (acceptRecipe raw unknown u) :=
  lawsKept_leaveLoading hs (.clamped raw) (by simp [hu])

theorem lawsKept_refuseRecipe (cause : RefusalCause) {s u : State} (hs : s.cycle.station = .loading)
    (hu : u = { s with recipe := { s.recipe with checkResult := u.recipe.checkResult } }) :
    LawsKept s (refuseRecipe cause u) := by
  have recipe : RecipeLaw (refuseRecipe cause u) := by
    rw [hu]
    exact ⟨by simp [refuseRecipe, hs], by simp [refuseRecipe]⟩
  rw [hu] at recipe ⊢
  refine ⟨⟨fun l => ?_, fun _ => recipe, fun l => l.of_eq recipe (by simp) (by simp) (by simp),
    fun l => l.of_eq recipe (by simp) (by simp) (by simp) (by simpa using l.states)⟩, fun l any => ?_⟩
  · simpa [ImageLaw, refuseRecipe] using l
  · simp [hs]

theorem lawsKept_takeLoadEnd (length : Half) (s : State) : LawsKept s (takeLoadEnd length s) := by
  unfold takeLoadEnd
  split
  · next hs =>
    dsimp only
    split
    · exact lawsKept_refuseRecipe _ hs rfl
    · exact lawsKept_acceptRecipe _ _ hs (by simp)
  · exact .of_same (by simp)
  · exact .refl s

theorem lawsKept_newImage (s : State) : LawsKept s (newImage s) := by
  have recipe : RecipeLaw (newImage s) := ⟨by simp [newImage, State.reset], by simp [newImage, State.reset]⟩
  refine ⟨⟨fun _ => ?_, fun _ => recipe, fun _ => ?_, fun _ => ?_⟩, fun _ _ => .inl (by simp [newImage])⟩
  · simp [ImageLaw, newImage, State.reset, Memory.wf, tableWf, cellsProper]
  · have hd : (newImage s).draw = State.reset.draw := by
      cases ha : s.hold.asserted <;> simp [newImage, moveTo, drawAtMove, holdAtMove, ha, setAsserted]
    refine ⟨recipe, ?_, ?_, ?_, ?_, ?_⟩ <;> rw [hd]
    · exact drawLaw_reset.form
    · exact drawLaw_reset.keys
    · rfl
    · exact drawLaw_reset.entries
    · exact drawLaw_reset.phantoms
  · refine .emptied recipe ?_ ?_
    · cases ha : s.hold.asserted <;> simp [newImage, moveTo, holdAtMove, ha, setAsserted]
    · cases ha : s.hold.asserted <;> simp [newImage, moveTo, holdAtMove, ha, setAsserted]

theorem writeBytes_recipe (p : Nat) (data : List Byte) (u : RecipeUnit) :
    (writeBytes p data u).recipe = u.recipe := by
  induction data generalizing p u with
  | nil => rfl
  | cons v rest ih =>
    rw [writeBytes, ih]
    unfold writeImage
    split <;> rfl

theorem lawsKept_written (offset : Nat) (data : List Byte) (s : State) :
    LawsKept s { s with recipe := writeBytes offset data s.recipe } := by
  have recipe (l : RecipeLaw s) : RecipeLaw { s with recipe := writeBytes offset data s.recipe } :=
    l.of_eq rfl (writeBytes_recipe _ _ _)
  exact ⟨⟨fun l => wf_writeBytes _ _ l, recipe, fun l => l.of_eq (recipe l.recipe) rfl rfl rfl,
    fun l => l.of_eq (recipe l.recipe) rfl rfl rfl l.states⟩, fun l => l⟩

theorem lawsKept_takeLoad (offset : Byte) (data : List Byte) (s : State) : LawsKept s (takeLoad offset data s) := by
  unfold takeLoad
  dsimp only
  split
  · exact lawsKept_written _ _ s
  · exact (lawsKept_newImage s).trans (lawsKept_written _ _ _)
  · exact .refl s

/-! ## Received frames -/

theorem lawsKept_badFrame (s : State) : LawsKept s (badFrame (endReception s)) := by
  have counted : LawsKept s (countBad (endReception s)) := .of_same (by simp)
  exact counted.trans ((lawsKept_phantomForBadFrame _).trans (lawsKept_retest _))

/-- A received frame keeps the laws when the action of its kind does, where the filter lets it act. -/
theorem lawsKept_receive {k sender target zone good} {act : State → State} (s : State)
    (h : ∀ u, good = true → u.dispatches k target zone = true → sender ≠ u.line.station → LawsKept u (act u)) :
    LawsKept s (receive k sender target zone good act s) := by
  refine receive_cases (lawsKept_badFrame s) (fun u hu => ?_)
  have heard : LawsKept s u := hu ▸ .of_same (by simp)
  exact ⟨heard.trans (lawsKept_retest u),
    heard.trans ((lawsKept_reportF _ u).trans (lawsKept_retest _)),
    fun hg hd hn _ => heard.trans ((h u hg hd hn).trans (lawsKept_retest _))⟩

theorem sender_lt_of_frameGood {k : FrameKind} {sender : StationNo} {n : Nat} (h : frameGood k sender n = true) :
    sender.toNat < 31 := by
  simp only [frameGood, everyStation, Bool.and_eq_true, bne_iff_ne] at h
  have hn : sender.toNat ≠ 31 := fun e => h.1 (BitVec.eq_of_toNat_eq e)
  have := sender.isLt
  omega

theorem ownKey_ne_of_sender_ne {sender : StationNo} {s : State} (h : sender ≠ s.line.station) :
    s.ownKey ≠ sender.toNat :=
  fun e => h (BitVec.eq_of_toNat_eq e.symm)

theorem admitted_of_dispatches {k : FrameKind} {target : StationNo} {zone : Option Byte} {s : State}
    (h : s.dispatches k target zone = true) : admitted k s.cycle.station = true := by
  simp only [State.dispatches, Bool.and_eq_true] at h
  exact h.1.2

/-! ## The Sensor Port, the valve and the line -/

theorem lawsKept_watermarkTest (s : State) : LawsKept s (watermarkTest s) := by
  unfold watermarkTest
  dsimp only
  (repeat' split)
  · exact .refl s
  · exact lawsKept_standDown s
  · exact lawsKept_releaseHold s
  · exact .refl s
  · exact lawsKept_testAssertion s
  · exact .refl s
  · exact .refl s

theorem lawsKept_handSample (s : State) : LawsKept s (handSample s) := by
  let u := formDrive (noteClamped { s with sensor := { s.sensor with sample := formSample s.sensor } })
  have taken : LawsKept s (gasTakesSample (countSample u)) := .of_same (by simp [u])
  show LawsKept s (watermarkTest (gasTakesSample (countSample u)))
  exact taken.trans (lawsKept_watermarkTest _)

theorem lawsKept_reportHeaderLost (s : State) : LawsKept s (reportHeaderLost s) := by
  unfold reportHeaderLost
  split
  · exact .trans (t := { s with sensor := { s.sensor with headerLostDue := false } }) (.of_same (by simp))
      (lawsKept_reportF _ _)
  · exact .refl s

theorem lawsKept_endBellTransaction (r : SensorReply) (s : State) : LawsKept s (endBellTransaction r s) := by
  have handed : LawsKept s (reportHeaderLost (handSample (collectReading r
      (statusIfChanged s.sensor.bell.validity (channelAfter r s.sensor.bell).validity
        { s with sensor := { s.sensor with bell := channelAfter r s.sensor.bell } })))) :=
    .trans (.of_same (by simp)) ((lawsKept_handSample _).trans (lawsKept_reportHeaderLost _))
  unfold endBellTransaction
  dsimp only
  split
  · exact handed.trans (lawsKept_reportF _ _)
  · exact handed

theorem lawsKept_endTransaction (c : Channel) (r : SensorReply) (s : State) :
    LawsKept s (endTransaction c r s) := by
  unfold endTransaction
  split
  · exact .refl s
  · split
    · dsimp only
      split
      · exact .of_same (by simp)
      · exact .trans (.of_same (by simp)) ((lawsKept_endBellTransaction _ _).trans (lawsKept_parkTest _))
    · exact .refl s

theorem lawsKept_endCloseWindow (s : State) : LawsKept s (endCloseWindow s) := by
  unfold endCloseWindow
  dsimp only
  split
  · exact .trans (.of_same (by simp)) (lawsKept_findStuckValve _)
  · exact .of_same (by simp)

theorem lawsKept_endZeroing (s : State) : LawsKept s (endZeroing s) := by
  unfold endZeroing
  split <;> exact .of_same (by simp)

theorem lawsKept_ownerCompleted (k : SlotKind) (before s : State) : LawsKept s (ownerCompleted k before s) := by
  cases k with
  | holdSlot => exact lawsKept_holdCompleted _ s
  | _ => exact .of_same (by simp [ownerCompleted])

theorem lawsKept_frameCompletion (s : State) : LawsKept s (effect .frameCompletion s) := by
  rw [effect_frameCompletion]
  split
  · split
    · exact .trans (.of_same (by simp)) ((lawsKept_ownerCompleted _ _ _).trans (lawsKept_parkTest _))
    · exact .refl s
  · exact .refl s

theorem lawsKept_fourthFailure (k : SlotKind) (s : State) : LawsKept s (fourthFailure k s) :=
  .trans (.of_same (by simp)) (lawsKept_reportF .lineDead _)

/-! ## Every command and every step -/

theorem lawsKept_reset (straps : StationNo) (s : State) : LawsKept s (effect (.reset straps) s) := by
  let fresh : State :=
    { State.reset with
      pending := s.pending, freeCount := s.freeCount, gasFb := s.gasFb
      line := { State.reset.line with station := straps } }
  have recipe : RecipeLaw fresh := recipeLaw_reset.of_eq rfl rfl
  have started : LawsKept s fresh := by
    refine ⟨⟨fun _ => wf_reset_image, fun _ => recipe, fun _ => ?_, fun _ => .emptied recipe rfl rfl⟩,
      fun _ _ => .inl rfl⟩
    exact ⟨recipe, drawLaw_reset.form, drawLaw_reset.keys, rfl, drawLaw_reset.entries, drawLaw_reset.phantoms⟩
  rw [effect_reset]
  show LawsKept s (if s.gasFb then findStuckValve fresh else fresh)
  split
  · exact started.trans (lawsKept_findStuckValve _)
  · exact started

theorem lawsKept_effect (c : Instr) (s : State) : LawsKept s (effect c s) := by
  cases c with
  | reset straps => exact lawsKept_reset straps s
  | mkInfeed b => exact lawsKept_mkInfeed b s
  | mkGasopen => rw [effect_mkGasopen]; split <;> exact .of_same (by simp)
  | mkGasclose => rw [effect_mkGasclose]; split <;> exact .of_same (by simp)
  | mkDischarge =>
    rw [effect_mkDischarge]
    split
    · next hs => exact (lawsKept_takeDischarge hs).trans (lawsKept_parkTest _)
    · exact .refl s
  | crimpSample f d => exact .of_same (by simp)
  | tSeatExpiry => rw [effect_tSeatExpiry]; split <;> exact .of_same (by simp)
  | tFormExpiry => rw [effect_tFormExpiry]; split <;> exact .of_same (by simp)
  | tDwellExpiry => rw [effect_tDwellExpiry]; split <;> exact .of_same (by simp)
  | tRelExpiry =>
    rw [effect_tRelExpiry]
    split
    · exact .trans (.of_same (by simp)) (lawsKept_reportF .crimpJam _)
    · exact .refl s
  | sensorTransactionEnd ch r => rw [effect_sensorTransactionEnd]; exact lawsKept_endTransaction ch r s
  | zeroingTimerExpiry =>
    rw [effect_zeroingTimerExpiry]
    split
    · exact (lawsKept_endZeroing s).trans (lawsKept_parkTest _)
    · exact .refl s
  | zeroingTest => rw [effect_zeroingTest]; (repeat' split) <;> exact .of_same (by simp)
  | grantVentWaitExpiry => rw [effect_grantVentWaitExpiry]; split <;> exact .of_same (by simp)
  | silenceLimit =>
    rw [effect_silenceLimit]
    split
    · exact .trans (.of_same (by simp)) (lawsKept_parkTest _)
    · exact .refl s
  | loadingStatusTimer => rw [effect_loadingStatusTimer]; split <;> exact .of_same (by simp)
  | feedbackWindowLapse => rw [effect_feedbackWindowLapse]; split <;> exact .of_same (by simp)
  | gasFbOpens =>
    rw [effect_gasFbOpens]
    dsimp only
    (repeat' split)
    · exact .of_same (by simp)
    · exact .of_same (by simp)
    · exact .trans (.of_same (by simp)) (lawsKept_findStuckValve _)
  | gasFbCloses =>
    rw [effect_gasFbCloses]
    exact .trans (.of_same (by simp)) (lawsKept_parkTest _)
  | closeWindowExpiry =>
    rw [effect_closeWindowExpiry]
    split
    · exact lawsKept_endCloseWindow s
    · exact .refl s
  | settleTimerExpiry => rw [effect_settleTimerExpiry]; split <;> exact .of_same (by simp)
  | checkTimerExpiry => rw [effect_checkTimerExpiry]; split <;> exact .of_same (by simp)
  | lineIdle => rw [effect_lineIdle]; dsimp only; (repeat' split) <;> exact .of_same (by simp)
  | arbitrationLoss claim =>
    rw [effect_arbitrationLoss]
    (repeat' split)
    · exact .trans (.of_same (by simp)) (lawsKept_parkTest _)
    · exact .refl s
    · exact .refl s
  | bitError =>
    rw [effect_bitError]
    dsimp only
    (repeat' split)
    · exact .trans (.of_same (by simp)) (lawsKept_parkTest _)
    · exact .trans (.of_same (by simp)) (lawsKept_parkTest _)
    · exact .refl s
    · exact .refl s
  | frameCompletion => exact lawsKept_frameCompletion s
  | badFrame => rw [effect_badFrame]; exact lawsKept_badFrame s
  | lineStuck => rw [effect_lineStuck]; split <;> exact .of_same (by simp)
  | stuckTimeout =>
    rw [effect_stuckTimeout]
    split
    · exact .trans (.of_same (by simp)) (lawsKept_reportF _ _)
    · exact .refl s
  | stuckEnd => rw [effect_stuckEnd]; split <;> exact .of_same (by simp)
  | startBit => rw [effect_startBit]; split <;> exact .of_same (by simp)
  | abortMarkEnd =>
    rw [effect_abortMarkEnd]
    have released : LawsKept s (releaseLine s) := .of_same ⟨rfl, rfl, rfl, rfl, rfl, rfl, rfl, rfl⟩
    (repeat' split)
    · exact .refl s
    · exact .refl s
    · exact released.trans (.trans (.of_same (by simp)) (lawsKept_parkTest _))
    · exact released.trans ((lawsKept_fourthFailure _ _).trans (lawsKept_parkTest _))
    · exact .refl s
  | receivedOpen sender target zone length =>
    rw [effect_receivedOpen]
    refine lawsKept_receive s (fun u hg hd hn => ?_)
    have heard := admitted_of_dispatches hd
    exact lawsKept_peerOpens _ (sender_lt_of_frameGood hg) (ownKey_ne_of_sender_ne hn)
      (fun h => by simp [admitted, h] at heard)
  | receivedShut => rw [effect_receivedShut]; exact lawsKept_receive s (fun _ _ _ _ => lawsKept_removeKeyed _ _)
  | receivedFault =>
    rw [effect_receivedFault]
    exact lawsKept_receive s fun _ hg _ hn =>
      lawsKept_peerFaults _ (sender_lt_of_frameGood hg) (ownKey_ne_of_sender_ne hn)
  | receivedStatus =>
    rw [effect_receivedStatus]
    exact lawsKept_receive s fun _ hg _ hn =>
      lawsKept_peerStatus _ (sender_lt_of_frameGood hg) (ownKey_ne_of_sender_ne hn)
  | receivedHold sender target zone q =>
    rw [effect_receivedHold]
    refine lawsKept_receive s (fun u hg _ hn => ?_)
    have bound := q.isLt
    split
    · next hq =>
      exact lawsKept_peerHolds (sender_lt_of_frameGood hg) ⟨hq, by omega⟩ (ownKey_ne_of_sender_ne hn)
    · exact lawsKept_peerReleases (ownKey_ne_of_sender_ne hn)
  | receivedResult => rw [effect_receivedResult]; exact lawsKept_receive s (fun u _ _ _ => .refl u)
  | unknownKindFrame => rw [effect_unknownKindFrame]; exact lawsKept_receive s (fun u _ _ _ => .refl u)
  | load => rw [effect_load]; exact lawsKept_receive s (fun _ _ _ _ => lawsKept_takeLoad _ _ _)
  | loadEnd => rw [effect_loadEnd]; exact lawsKept_receive s (fun _ _ _ _ => lawsKept_takeLoadEnd _ _)
  | start => rw [effect_start]; exact lawsKept_receive s (fun _ _ _ _ => lawsKept_takeStart _)
  | stop => rw [effect_stop]; exact lawsKept_receive s (fun _ _ _ _ => lawsKept_takeStop _)
  | clear => rw [effect_clear]; exact lawsKept_receive s (fun _ _ _ _ => lawsKept_takeClear _ _)
  | drawCountdown =>
    rw [effect_drawCountdown]
    split
    · exact .refl s
    · exact lawsKept_countDrawTable s
  | holdCountdown =>
    rw [effect_holdCountdown]
    split
    · exact .refl s
    · exact (lawsKept_countHoldTable s).trans (lawsKept_parkTest _)
  | holdResend =>
    rw [effect_holdResend]
    split
    · next h => exact lawsKept_resendHold s h.1
    · exact .refl s

theorem lawsKept_tick (s : State) : LawsKept s (tick s) := .of_same (by simp)

theorem lawsKept_step {s t : State} (h : step s = .next t) : LawsKept s t :=
  step_keeps (P := LawsKept s) (fun _ _ g => g.trans (.of_same (by simp)))
    (fun u g => g.trans (lawsKept_tick u)) (fun c u g => g.trans (lawsKept_effect c u)) (.refl s) h

/-! ## The statements -/

/-- Settles O56, from what one step keeps of the bounds and of the laws. -/
theorem plainLawsHoldAtEveryStep : Obligations.PlainLawsHoldAtEveryStep := by
  unfold Obligations.PlainLawsHoldAtEveryStep
  exact ⟨fun _ _ l h => (lawsKept_step h).faults l, fun _ _ l h => (lawsKept_step h).tables.image l,
    fun _ _ l h => (boundsKept_step h).sensor l, fun _ _ l h => (boundsKept_step h).queue l,
    fun _ _ l h => (boundsKept_step h).line l, fun _ _ l h => (boundsKept_step h).mass l⟩

/-- Settles O57, from what one step keeps of the recipe and the tables. -/
theorem recipeAndTablesKeepTheirForm : Obligations.RecipeAndTablesKeepTheirForm := by
  unfold Obligations.RecipeAndTablesKeepTheirForm
  exact ⟨fun _ _ l h => (lawsKept_step h).tables.recipe l, fun _ _ l h => (lawsKept_step h).tables.draw l,
    fun _ _ l h => (lawsKept_step h).tables.hold l⟩

end Sys2Proof.Machine
end

section
/-!
PROOFS. The pocket's law (O58), first half: how the operations of the Gas Sequencer keep its stage, the pocket
phase, the SELF entry and the close window together.
-/

namespace Sys2Proof.Machine

/-- The part of the pocket's law that ties the gas sequencer's stage to the pocket phase, to the SELF entry and to
the close window. -/
structure GasFits (s : State) : Prop where
  beforeGas : s.cycle.phase = .crimp ∨ s.cycle.phase = .waitWindow → s.gas.stage = .idle
  gassing : gassingStage s.gas.stage → s.cycle.phase = .gas
  checking : s.gas.stage = .check → s.cycle.phase = .check
  driven : s.gas.stage = .pulse ↔ s.draw.self = some .driven
  window : s.gas.stage = .pulse → s.gas.closeWindow = none

/-- The sequencer's work fits a pocket that is in GAS or has left it for CHECK or SEALED. -/
structure Gassed (s : State) : Prop where
  fits : GasFits s
  phase : s.cycle.phase = .gas ∨ s.cycle.phase = .check ∨ s.cycle.phase = .sealed

theorem GasFits.of_same {s t : State} (h : GasFits s)
    (hk : t.cycle.phase = s.cycle.phase ∧ t.gas.stage = s.gas.stage ∧ t.gas.closeWindow = s.gas.closeWindow
      ∧ (t.draw.self = some .driven ↔ s.draw.self = some .driven)) : GasFits t := by
  obtain ⟨hp, hs, hw, hd⟩ := hk
  exact ⟨by rw [hp, hs]; exact h.beforeGas, by rw [hp, hs]; exact h.gassing, by rw [hp, hs]; exact h.checking,
    by rw [hs, hd]; exact h.driven, by rw [hs, hw]; exact h.window⟩

/-- As `of_same`, for an operation on SELF and the close window while GAS is off. -/
theorem GasFits.of_undriven {s t : State} (h : GasFits s) (hs : s.gas.stage ≠ .pulse)
    (hk : t.cycle.phase = s.cycle.phase ∧ t.gas.stage = s.gas.stage ∧ t.draw.self ≠ some .driven) : GasFits t := by
  obtain ⟨hp, hst, hd⟩ := hk
  exact ⟨by rw [hp, hst]; exact h.beforeGas, by rw [hp, hst]; exact h.gassing, by rw [hp, hst]; exact h.checking,
    by simp [hst, hs, hd], by simp [hst, hs]⟩

/-! ## The stages a state without a driven SELF can stand in -/
theorem gasFits_idle {s : State} (hs : s.gas.stage = .idle) (hd : s.draw.self ≠ some .driven) : GasFits s :=
  ⟨fun _ => hs, by simp [hs, gassingStage], by simp [hs], by simp [hs, hd], by simp [hs]⟩

theorem gasFits_ended {s : State} (hs : s.gas.stage = .ended) (hd : s.draw.self ≠ some .driven)
    (hp : s.cycle.phase = .gas ∨ s.cycle.phase = .check ∨ s.cycle.phase = .sealed) : GasFits s :=
  ⟨by rcases hp with hp | hp | hp <;> simp [hp], by simp [hs, gassingStage], by simp [hs], by simp [hs, hd],
    by simp [hs]⟩

theorem gassed_ended {s : State} (hs : s.gas.stage = .ended) (hd : s.draw.self ≠ some .driven)
    (hp : s.cycle.phase = .gas ∨ s.cycle.phase = .check ∨ s.cycle.phase = .sealed) : Gassed s :=
  ⟨gasFits_ended hs hd hp, hp⟩

theorem gassed_gassing {s : State} (hs : s.gas.stage = .plan ∨ s.gas.stage = .claim ∨ s.gas.stage = .settle)
    (hp : s.cycle.phase = .gas) (hd : s.draw.self ≠ some .driven) : Gassed s := by
  refine ⟨⟨by simp [hp], fun _ => hp, ?_, ?_, ?_⟩, .inl hp⟩
  all_goals rcases hs with hs | hs | hs <;> simp [hs, hd]

theorem gassed_check {s : State} (hs : s.gas.stage = .check) (hp : s.cycle.phase = .check)
    (hd : s.draw.self ≠ some .driven) : Gassed s :=
  ⟨⟨by simp [hp], by simp [hs, gassingStage], fun _ => hp, by simp [hs, hd], by simp [hs]⟩, .inr (.inl hp)⟩

/-! ## Plans -/

theorem gassed_endGassing {s : State} (hp : s.cycle.phase = .gas) (hd : s.draw.self ≠ some .driven) :
    Gassed (endGassing s) :=
  gassed_ended (by simp) (by simpa using hd) (by simp [hp])

theorem gassed_doseComplete {s : State} (hp : s.cycle.phase = .gas) (hd : s.draw.self ≠ some .driven) :
    Gassed (doseComplete s) := by
  unfold doseComplete
  split
  · exact gassed_endGassing hp hd
  · exact gassed_check (by simp) (by simp [hp]) (by simpa using hd)

theorem gassed_actOnAnswer {s : State} (a : PlanAnswer) (hp : s.cycle.phase = .gas) (hs : s.gas.stage = .plan)
    (hd : s.draw.self ≠ some .driven) : Gassed (actOnAnswer a s) := by
  refine gassed_gassing ?_ (by simpa using hp) (by simpa using hd)
  unfold actOnAnswer
  (repeat' split) <;> simp [hs]

/-- A decision in PLAN leaves the sequencer in PLAN or CLAIM with the pocket in GAS, in CHECK, or in ENDED. -/
theorem gassed_decideInPlan {s : State} (hp : s.cycle.phase = .gas) (hs : s.gas.stage = .plan)
    (hd : s.draw.self ≠ some .driven) : Gassed (decideInPlan s) := by
  unfold decideInPlan
  dsimp only
  (repeat' split)
  · exact gassed_doseComplete hp hd
  · exact gassed_endGassing (by simpa using hp) (by simpa using hd)
  · exact gassed_actOnAnswer _ (by simpa using hp) (by simpa using hs) (by simpa using hd)

theorem gassed_enterPlan {s : State} (hp : s.cycle.phase = .gas) (hd : s.draw.self ≠ some .driven) :
    Gassed (enterPlan s) :=
  gassed_decideInPlan hp rfl hd

theorem gassed_enterGas {s : State} (hs : s.gas.stage = .idle) (hd : s.draw.self ≠ some .driven) :
    Gassed (enterGas s) := by
  unfold enterGas startGas
  refine gassed_enterPlan ?_ ?_ <;> simp [abandonGas, hs, hd]

/-! ## The valve and the end of a pulse -/

@[simp] theorem setStage_stage (g : GasStage) (s : State) : (setStage g s).gas.stage = g := rfl
theorem startSettle_of_ne {s : State} (hs : s.gas.stage ≠ .settle) : startSettle s = s := by
  simp [startSettle, hs]

theorem gassed_startSettle {s : State} (h : Gassed s) (hs : s.gas.stage ≠ .pulse) : Gassed (startSettle s) := by
  have hd : s.draw.self ≠ some .driven := fun d => hs (h.fits.driven.2 d)
  by_cases hset : s.gas.stage = .settle
  · have hp : s.cycle.phase = .gas := h.fits.gassing (by simp [hset, gassingStage])
    unfold startSettle
    rw [if_pos hset]
    split
    · exact gassed_enterPlan hp hd
    · exact gassed_gassing (.inr (.inr hset)) hp hd
  · rw [startSettle_of_ne hset]
    exact h

/-- A valve seen closed: SELF is gone, and a sequencer in SETTLE goes on. -/
theorem gassed_valveClosed {s : State} (h : Gassed s) (hs : s.gas.stage ≠ .pulse) : Gassed (valveClosed s) := by
  unfold valveClosed
  exact gassed_startSettle ⟨h.fits.of_undriven hs (by simp), by simpa using h.phase⟩ (by simpa using hs)

theorem gassed_closeIfShut {s : State} (h : Gassed s) (hs : s.gas.stage ≠ .pulse) : Gassed (closeIfShut s) := by
  unfold closeIfShut
  split
  · exact h
  · exact gassed_valveClosed h hs

theorem gassed_deadPulse {s : State} (hp : s.cycle.phase = .gas) : Gassed (deadPulse s) := by
  unfold deadPulse
  dsimp only
  split
  · exact gassed_closeIfShut (gassed_gassing (.inr (.inr rfl)) (by simpa using hp) (by simp)) (by simp)
  · refine gassed_closeIfShut (gassed_endGassing ?_ ?_) (by simp) <;> simp [hp]

theorem gassed_judgePulse {s : State} (hp : s.cycle.phase = .gas) : Gassed (judgePulse s) := by
  unfold judgePulse
  split
  · exact gassed_deadPulse hp
  · exact gassed_closeIfShut (gassed_gassing (.inr (.inr rfl)) (by simpa using hp) (by simp)) (by simp)

theorem gassed_startPulse {s : State} (hp : s.cycle.phase = .gas) : Gassed (startPulse s) := by
  have phase : (startPulse s).cycle.phase = .gas := by simpa using hp
  exact ⟨⟨by simp [hp], fun _ => phase, by simp, by simp, by simp⟩, .inl phase⟩

/-! ## Cut, loss and abandonment -/

/-- What the sequencer stops by its stage leaves no driven SELF. -/
theorem stopStage_undriven {s : State} (h : s.draw.self = some .driven → s.gas.stage = .pulse) :
    (stopStage s).draw.self ≠ some .driven := by
  unfold stopStage
  split
  · simp
  · next hs => simpa using fun d => absurd (h d) (by simp [hs])
  · next hs => simpa using fun d => absurd (h d) (by simp [hs])
  · next hs _ _ => simpa using fun d => absurd (h d) (by simpa using hs)

theorem closeAfter_of_ne {b : GasStage} (hb : b ≠ .pulse) (s : State) : closeAfter b s = s := by
  simp [closeAfter, hb]

theorem stopStage_window {s : State} (hs : s.gas.stage ≠ .pulse) :
    (stopStage s).gas.closeWindow = s.gas.closeWindow := by
  unfold stopStage
  split <;> simp_all

theorem gassed_closeAfter {b : GasStage} {s : State} (h : Gassed s) (hs : s.gas.stage ≠ .pulse) :
    Gassed (closeAfter b s) := by
  unfold closeAfter
  split
  · exact gassed_closeIfShut h hs
  · exact h

theorem valveClosed_stage_of_ne {s : State} (hs : s.gas.stage ≠ .settle) :
    (valveClosed s).gas.stage = s.gas.stage := by
  rw [valveClosed, startSettle_of_ne] <;> simp [hs]

/-- The sequencer abandoned: it is IDLE, GAS is off, and the close window is touched only where GAS was on. -/
theorem abandonGas_stage (s : State) : (abandonGas s).gas.stage = .idle := by
  unfold abandonGas closeAfter closeIfShut
  dsimp only
  (repeat' split)
  · assumption
  · rfl
  · rw [valveClosed_stage_of_ne] <;> simp
  · rfl

theorem abandonGas_undriven {s : State} (h : s.draw.self = some .driven → s.gas.stage = .pulse) :
    (abandonGas s).draw.self ≠ some .driven := by
  have stopped : (stopStage s).draw.self ≠ some .driven := stopStage_undriven h
  unfold abandonGas closeAfter closeIfShut
  dsimp only
  (repeat' split)
  · next hs => exact fun d => absurd (h d) (by simp [hs])
  · simpa using stopped
  · simp
  · simpa using stopped

theorem abandonGas_window {s : State} (hs : s.gas.stage ≠ .pulse) :
    (abandonGas s).gas.closeWindow = s.gas.closeWindow := by
  unfold abandonGas
  dsimp only
  split
  · rfl
  · rw [closeAfter_of_ne hs]
    simpa using stopStage_window hs

theorem gassed_loseSensor {s : State} (h : Gassed s) : Gassed (loseSensor s) := by
  have undriven := stopStage_undriven h.fits.driven.2
  exact gassed_closeAfter (gassed_ended (by simp) (by simpa using undriven) (by simpa using h.phase)) (by simp)

/-- The mark that cuts the window leaves a sequencer that neither gasses nor checks. -/
theorem cutWindow_stage {s : State} (h : GasFits s) (hp : s.cycle.phase = .gas) :
    ((cutWindow s).gas.stage = .idle ∨ (cutWindow s).gas.stage = .ended)
      ∧ (cutWindow s).draw.self ≠ some .driven := by
  have undriven (hs : s.gas.stage ≠ .pulse) : s.draw.self ≠ some .driven := fun d => hs (h.driven.2 d)
  unfold cutWindow
  split
  · next hs => exact ⟨.inr (by simp), by simpa using undriven (by simp [hs])⟩
  · next hs => exact ⟨.inr (by simp), by simpa using undriven (by simp [hs])⟩
  · unfold closeIfShut
    split
    · exact ⟨.inr (by simp), by simp⟩
    · exact ⟨.inr (by rw [valveClosed_stage_of_ne] <;> simp), by simp⟩
  · next hs => exact ⟨.inr (by simp), by simpa using undriven (by simp [hs])⟩
  · next hplan hclaim hpulse hsettle =>
    refine ⟨?_, undriven hpulse⟩
    have hcheck : s.gas.stage ≠ .check := fun hc => by simp [h.checking hc] at hp
    cases hs : s.gas.stage <;> simp_all

theorem cutCheck_stage {s : State} (h : GasFits s) (hp : s.cycle.phase = .check) :
    ((cutCheck s).gas.stage = .idle ∨ (cutCheck s).gas.stage = .ended)
      ∧ (cutCheck s).draw.self ≠ some .driven := by
  have hgas : ¬ gassingStage s.gas.stage := fun hg => by simp [h.gassing hg] at hp
  have undriven : s.draw.self ≠ some .driven := fun d => hgas (by simp [h.driven.2 d, gassingStage])
  unfold cutCheck
  split
  · exact ⟨.inr (by simp), by simpa using undriven⟩
  · next hcheck =>
    refine ⟨?_, undriven⟩
    cases hs : s.gas.stage <;> simp_all [gassingStage]

end Sys2Proof.Machine
end

section
/-!
PROOFS. Latched cells (R187, R191): the operations that report a cause latch cells and clear none, and a CLEAR is the
one command that clears them.
-/

namespace Sys2Proof.Machine

/-- Every cell latched in `s` is latched in `t`. -/
structure CellsStay (s t : State) : Prop where
  stay : ∀ k, s.latched k = true → t.latched k = true

theorem CellsStay.of_same {s t : State} (h : t.fault.latched = s.fault.latched) : CellsStay s t :=
  ⟨fun k hk => by rwa [State.latched, h]⟩

theorem CellsStay.refl (s : State) : CellsStay s s := ⟨fun _ h => h⟩

theorem CellsStay.trans {s t u : State} (h : CellsStay s t) (g : CellsStay t u) : CellsStay s u :=
  ⟨fun k hk => g.stay k (h.stay k hk)⟩

theorem cellNumber_lt (c : Cell) : cellNumber c < 10 := by cases c <;> decide

theorem cellNumber_inj {c k : Cell} (h : cellNumber c = cellNumber k) : c = k := by
  cases c <;> cases k <;> simp_all [cellNumber]

theorem isLatched_latchCell (c k : Cell) (l : BitVec 10) :
    isLatched k (latchCell c l) = (isLatched k l || decide (k = c)) := by
  have bit : decide (cellNumber c = cellNumber k) = decide (k = c) := by
    by_cases h : k = c
    · simp [h]
    · have hne : ¬ cellNumber c = cellNumber k := fun e => h (cellNumber_inj e).symm
      simp [h, hne]
  simp only [isLatched, latchCell, BitVec.getLsbD_or, BitVec.getLsbD_twoPow, cellNumber_lt, decide_true,
    Bool.true_and, bit]

theorem latched_latch (c k : Cell) (s : State) : (latch c s).latched k = (s.latched k || decide (k = c)) :=
  isLatched_latchCell c k s.fault.latched

theorem cellsStay_latch (c : Cell) (s : State) : CellsStay s (latch c s) :=
  ⟨fun k hk => by simp [latched_latch, hk]⟩

theorem cellsStay_reportA (c : Cell) (s : State) : CellsStay s (reportA c s) := by
  unfold reportA
  split
  · exact .refl s
  · exact (cellsStay_latch c s).trans (.of_same (by simp))

theorem cellsStay_countReject (r : Reason) (s : State) : CellsStay s (countReject r s) := by
  unfold countReject
  (repeat' split)
  · exact .of_same rfl
  · exact .refl s
  · exact .of_same rfl
  · exact .trans (.of_same (by simp)) (cellsStay_reportA .rejectRun _)
  · exact .of_same rfl

theorem cellsStay_closeContext (s : State) : CellsStay s (closeContext s) := by
  cases hc : s.context with
  | none => simpa [closeContext, hc] using CellsStay.refl s
  | some c =>
    have counted : CellsStay s (countReject (buildRecord s c).reason
        { s with context := none, result := { s.result with sequence := s.result.sequence + 1 } }) :=
      .trans (.of_same (by simp)) (cellsStay_countReject _ _)
    exact counted.trans (.of_same (by simp [closeContext, hc]))

theorem cellsStay_abandonContext (s : State) : CellsStay s (abandonContext s) := by
  unfold abandonContext
  split
  · exact .trans (.of_same (by simp)) (cellsStay_closeContext _)
  · exact .refl s

theorem cellsStay_enterFaulted (s : State) : CellsStay s (enterFaulted s) := by
  have moved : CellsStay s (moveTo .faulted s) := .of_same (by simp)
  exact moved.trans ((cellsStay_abandonContext _).trans (.of_same (by rfl)))

theorem latched_reportF (c : Cell) (s : State) : (reportF c s).latched c = true := by
  unfold reportF
  split
  · next h => split <;> simpa [State.latched] using h
  · dsimp only
    have placed : CellsStay (latch c s) (placeFault c (retestIfDead c (latch c s))) := .of_same (by simp)
    have latched : (latch c s).latched c = true := by simp [latched_latch]
    split
    · exact (placed.trans ((cellsStay_enterFaulted _).trans (.of_same (by simp)))).stay c latched
    · exact (placed.trans (.of_same (by simp))).stay c latched

theorem cellsStay_reportF (c : Cell) (s : State) : CellsStay s (reportF c s) := by
  unfold reportF
  split
  · split
    · exact .of_same (by simp)
    · exact .refl s
  · dsimp only
    have placed : CellsStay s (placeFault c (retestIfDead c (latch c s))) :=
      (cellsStay_latch c s).trans (.of_same (by simp))
    split
    · exact placed.trans ((cellsStay_enterFaulted _).trans (.of_same (by simp)))
    · exact placed.trans (.of_same (by simp))

theorem cellsStay_findStuckValve (s : State) : CellsStay s (findStuckValve s) := by
  unfold findStuckValve
  split
  · exact .refl s
  · exact .trans (.of_same (by simp)) (cellsStay_reportF _ _)

/-! ## The Cycle Controller -/

theorem cellsStay_passPocket (b : Bool) (r : Reason) (s : State) : CellsStay s (passPocket b r s) := by
  have opened : CellsStay s { openContext b [r] s with cycle := { (openContext b [r] s).cycle with phase := .pass } } :=
    .of_same (by simp)
  exact opened.trans (cellsStay_closeContext _)

theorem cellsStay_decidePocket (b : Bool) (s : State) : CellsStay s (decidePocket b s) := by
  unfold decidePocket
  dsimp only
  (repeat' split)
  · exact (cellsStay_passPocket b .skippedZero s).trans (.of_same (by simp))
  · exact .of_same (by simp)
  · exact (cellsStay_passPocket b .noCan s).trans (.of_same (by simp))
  · exact cellsStay_passPocket b _ s

theorem cellsStay_startCycle (b : Bool) (s : State) : CellsStay s (startCycle b s) :=
  .trans (.of_same (by simp)) (cellsStay_decidePocket b _)

theorem cellsStay_recordStopped (b : Bool) (r : Reason) (s : State) : CellsStay s (recordStopped b r s) := by
  have opened : CellsStay s (openContext b [r] s) := .of_same (by simp)
  exact opened.trans (cellsStay_closeContext _)

theorem cellsStay_closeOutOfOrder (s : State) : CellsStay s (closeOutOfOrder s) := by
  unfold closeOutOfOrder
  split
  · exact .trans (.of_same (by simp)) (cellsStay_closeContext _)
  · exact .refl s

theorem cellsStay_handleAgain (b : Bool) (s : State) : CellsStay s (handleAgain b s) := by
  unfold handleAgain
  split
  · exact cellsStay_recordStopped b _ s
  · exact cellsStay_startCycle b s

theorem cellsStay_infeedOutOfOrder (b : Bool) (s : State) : CellsStay s (infeedOutOfOrder b s) := by
  have measured (u : State) : CellsStay u (measurePeriod u) := .of_same rfl
  have ended (u : State) :
      CellsStay u (completeStop (endGrant { u with cycle := { u.cycle with phase := .returning } })) :=
    .of_same (by simp)
  exact (cellsStay_reportA .markOrder s).trans ((measured _).trans ((cellsStay_closeOutOfOrder _).trans
    ((ended _).trans (cellsStay_handleAgain b _))))

theorem cellsStay_wake (b : Bool) (s : State) : CellsStay s (wake b s) := by
  have moved : CellsStay s (moveTo .run s) := .of_same (by simp)
  exact moved.trans (.trans (.of_same (by simp)) (cellsStay_startCycle b _))

theorem cellsStay_mkInfeed (b : Bool) (s : State) : CellsStay s (effect (.mkInfeed b) s) := by
  rw [effect_mkInfeed]
  (repeat' split)
  · exact .refl s
  · exact .refl s
  · exact cellsStay_recordStopped b _ s
  · exact cellsStay_recordStopped b _ s
  · exact cellsStay_wake b s
  · exact .trans (.of_same (by simp)) (cellsStay_startCycle b _)
  · exact cellsStay_infeedOutOfOrder b s

theorem cellsStay_discharge (s : State) : CellsStay s (discharge s) := by
  have returned : CellsStay s (returnGas (returnCrimp s)) := .of_same (by simp)
  have closed : CellsStay s (setPhase .returning (closeContext (returnGas (returnCrimp s)))) :=
    returned.trans ((cellsStay_closeContext _).trans (.of_same (by simp)))
  unfold discharge
  dsimp only
  split
  · exact closed.trans (.of_same (by simp))
  · exact closed.trans (.of_same (by simp))

theorem cellsStay_dischargeEarly (s : State) : CellsStay s (dischargeEarly s) := by
  have ends (u : State) : CellsStay u (reportA .markOrder (discharge (addReason .markError u))) :=
    .trans (.of_same (by simp)) ((cellsStay_discharge (addReason .markError u)).trans (cellsStay_reportA _ _))
  unfold dischargeEarly
  dsimp only
  split
  · exact .trans (.of_same (by simp)) (ends _)
  · exact .trans (.of_same (by simp)) (ends _)

theorem cellsStay_takeDischarge (s : State) : CellsStay s (takeDischarge s) := by
  unfold takeDischarge
  split
  · exact .refl s
  · exact .of_same rfl
  · exact cellsStay_discharge s
  · exact cellsStay_dischargeEarly s

/-! ## The other units -/

theorem cellsStay_applyZeroing (s : State) : CellsStay s (applyZeroing s) := by
  have drifted : CellsStay s (if Config.maxOffset < readingMean s.sensor.zeroSamples then reportA .zeroDrift s else s) := by
    split
    · exact cellsStay_reportA _ s
    · exact .refl s
  exact drifted.trans (.of_same (by unfold applyZeroing; dsimp only; split <;> simp))

theorem cellsStay_endZeroing (s : State) : CellsStay s (endZeroing s) := by
  unfold endZeroing
  split
  · exact cellsStay_applyZeroing s
  · exact .of_same (by simp)

theorem cellsStay_badFrame (s : State) : CellsStay s (badFrame (endReception s)) := by
  have counted : CellsStay (endReception s) (countBad (endReception s)) := by
    unfold countBad
    dsimp only
    (repeat' split)
    · exact .trans (.of_same (by simp)) (cellsStay_reportA _ _)
    · exact .of_same rfl
    · exact .refl _
  have reserved (u : State) : CellsStay u (retest (phantomForBadFrame u)) := .of_same (by simp)
  exact .trans (.of_same (by simp)) (counted.trans (reserved _))

theorem cellsStay_receive {k sender target zone good} {act : State → State} (s : State)
    (h : ∀ u, CellsStay u (act u)) : CellsStay s (receive k sender target zone good act s) := by
  refine receive_cases (cellsStay_badFrame s) (fun u hu => ?_)
  have heard : CellsStay s u := hu ▸ .of_same (by simp)
  have tested (u : State) : CellsStay u (retest u) := .of_same (by simp)
  exact ⟨heard.trans (tested u), heard.trans ((cellsStay_reportF _ u).trans (tested _)),
    fun _ _ _ _ => heard.trans ((h u).trans (tested _))⟩

theorem cellsStay_leaveLoading (s : State) : CellsStay s (leaveLoading s) := by
  unfold leaveLoading
  dsimp only
  (repeat' split)
  · exact (cellsStay_enterFaulted s).trans (.of_same (by simp))
  · exact cellsStay_enterFaulted s
  · exact .of_same (by simp)

theorem cellsStay_takeLoadEnd (length : Half) (s : State) : CellsStay s (takeLoadEnd length s) := by
  unfold takeLoadEnd
  dsimp only
  (repeat' split)
  · exact .of_same (by simp)
  · exact .trans (.of_same (by simp)) (cellsStay_leaveLoading _)
  · exact .of_same (by simp)
  · exact .refl s

theorem cellsStay_reportHeaderLost (s : State) : CellsStay s (reportHeaderLost s) := by
  unfold reportHeaderLost
  split
  · exact .trans (.of_same (by simp)) (cellsStay_reportF .headerLost _)
  · exact .refl s

theorem cellsStay_endBellTransaction (r : SensorReply) (s : State) : CellsStay s (endBellTransaction r s) := by
  have handed : CellsStay s (reportHeaderLost (handSample (collectReading r
      (statusIfChanged s.sensor.bell.validity (channelAfter r s.sensor.bell).validity
        { s with sensor := { s.sensor with bell := channelAfter r s.sensor.bell } })))) :=
    .trans (.of_same (by simp)) (cellsStay_reportHeaderLost _)
  unfold endBellTransaction
  dsimp only
  split
  · exact handed.trans (cellsStay_reportF _ _)
  · exact handed

theorem cellsStay_parkTest (s : State) : CellsStay s (parkTest s) := .of_same (by simp)

theorem cellsStay_endTransaction (c : Channel) (r : SensorReply) (s : State) :
    CellsStay s (endTransaction c r s) := by
  unfold endTransaction
  dsimp only
  (repeat' split)
  · exact .refl s
  · exact .of_same (by simp)
  · exact .trans (.of_same (by simp)) ((cellsStay_endBellTransaction _ _).trans (cellsStay_parkTest _))
  · exact .refl s

theorem cellsStay_fourthFailure (k : SlotKind) (s : State) : CellsStay s (fourthFailure k s) :=
  .trans (.of_same (by simp)) (cellsStay_reportF .lineDead _)

/-- No command but a CLEAR, and RESET, clears a cell. -/
theorem cellsStay_effect {c : Instr} (s : State) (hr : ∀ straps, c ≠ .reset straps)
    (hc : ∀ sender target cells, c ≠ .clear sender target cells) : CellsStay s (effect c s) := by
  cases c with
  | reset straps => exact absurd rfl (hr straps)
  | clear sender target cells => exact absurd rfl (hc sender target cells)
  | mkInfeed b => exact cellsStay_mkInfeed b s
  | mkGasopen => rw [effect_mkGasopen]; split <;> exact .of_same (by simp)
  | mkGasclose => rw [effect_mkGasclose]; split <;> exact .of_same (by simp)
  | mkDischarge =>
    rw [effect_mkDischarge]
    split
    · exact (cellsStay_takeDischarge s).trans (cellsStay_parkTest _)
    · exact .refl s
  | crimpSample f d => exact .of_same (by simp)
  | tSeatExpiry => rw [effect_tSeatExpiry]; split <;> exact .of_same (by simp)
  | tFormExpiry => rw [effect_tFormExpiry]; split <;> exact .of_same (by simp)
  | tDwellExpiry => rw [effect_tDwellExpiry]; split <;> exact .of_same (by simp)
  | tRelExpiry =>
    rw [effect_tRelExpiry]
    split
    · exact .trans (.of_same (by simp)) (cellsStay_reportF .crimpJam _)
    · exact .refl s
  | sensorTransactionEnd ch r => exact cellsStay_endTransaction ch r s
  | zeroingTimerExpiry =>
    rw [effect_zeroingTimerExpiry]
    split
    · exact (cellsStay_endZeroing s).trans (cellsStay_parkTest _)
    · exact .refl s
  | zeroingTest => rw [effect_zeroingTest]; (repeat' split) <;> exact .of_same (by simp)
  | grantVentWaitExpiry => rw [effect_grantVentWaitExpiry]; split <;> exact .of_same (by simp)
  | silenceLimit => rw [effect_silenceLimit]; split <;> exact .of_same (by simp)
  | loadingStatusTimer => rw [effect_loadingStatusTimer]; split <;> exact .of_same (by simp)
  | feedbackWindowLapse => rw [effect_feedbackWindowLapse]; split <;> exact .of_same (by simp)
  | gasFbOpens =>
    rw [effect_gasFbOpens]
    dsimp only
    (repeat' split)
    · exact .of_same (by simp)
    · exact .of_same (by simp)
    · exact .trans (.of_same (by simp)) (cellsStay_findStuckValve _)
  | gasFbCloses => rw [effect_gasFbCloses]; exact .of_same (by simp)
  | closeWindowExpiry =>
    rw [effect_closeWindowExpiry]
    unfold endCloseWindow
    dsimp only
    (repeat' split)
    · exact .trans (.of_same (by simp)) (cellsStay_findStuckValve _)
    · exact .of_same (by simp)
    · exact .refl s
  | settleTimerExpiry => rw [effect_settleTimerExpiry]; split <;> exact .of_same (by simp)
  | checkTimerExpiry => rw [effect_checkTimerExpiry]; split <;> exact .of_same (by simp)
  | lineIdle => rw [effect_lineIdle]; dsimp only; (repeat' split) <;> exact .of_same (by simp)
  | arbitrationLoss claim => rw [effect_arbitrationLoss]; (repeat' split) <;> exact .of_same (by simp)
  | bitError => rw [effect_bitError]; dsimp only; (repeat' split) <;> exact .of_same (by simp)
  | frameCompletion => rw [effect_frameCompletion]; (repeat' split) <;> exact .of_same (by simp)
  | badFrame => rw [effect_badFrame]; exact cellsStay_badFrame s
  | lineStuck => rw [effect_lineStuck]; split <;> exact .of_same (by simp)
  | stuckTimeout =>
    rw [effect_stuckTimeout]
    split
    · exact .trans (.of_same (by simp)) (cellsStay_reportF .lineDead _)
    · exact .refl s
  | stuckEnd => rw [effect_stuckEnd]; split <;> exact .of_same (by simp)
  | startBit => rw [effect_startBit]; split <;> exact .of_same (by simp)
  | abortMarkEnd =>
    rw [effect_abortMarkEnd]
    have released : CellsStay s (releaseLine s) := .of_same rfl
    (repeat' split)
    · exact .refl s
    · exact .refl s
    · exact released.trans (.trans (.of_same (by simp)) (cellsStay_parkTest _))
    · exact released.trans ((cellsStay_fourthFailure _ _).trans (cellsStay_parkTest _))
    · exact .refl s
  | receivedOpen => rw [effect_receivedOpen]; exact cellsStay_receive s (fun _ => .of_same (by simp))
  | receivedShut => rw [effect_receivedShut]; exact cellsStay_receive s (fun _ => .of_same (by simp))
  | receivedFault => rw [effect_receivedFault]; exact cellsStay_receive s (fun _ => .of_same (by simp))
  | receivedStatus => rw [effect_receivedStatus]; exact cellsStay_receive s (fun _ => .of_same (by simp))
  | receivedHold =>
    rw [effect_receivedHold]
    refine cellsStay_receive s (fun _ => ?_)
    split <;> exact .of_same (by simp)
  | receivedResult => rw [effect_receivedResult]; exact cellsStay_receive s .refl
  | unknownKindFrame => rw [effect_unknownKindFrame]; exact cellsStay_receive s .refl
  | load => rw [effect_load]; exact cellsStay_receive s (fun _ => .of_same (by simp))
  | loadEnd => rw [effect_loadEnd]; exact cellsStay_receive s (cellsStay_takeLoadEnd _)
  | start => rw [effect_start]; exact cellsStay_receive s (fun _ => .of_same (by simp))
  | stop => rw [effect_stop]; exact cellsStay_receive s (fun _ => .of_same (by simp))
  | drawCountdown => rw [effect_drawCountdown]; split <;> exact .of_same (by simp)
  | holdCountdown => rw [effect_holdCountdown]; split <;> exact .of_same (by simp)
  | holdResend => rw [effect_holdResend]; split <;> exact .of_same (by simp)

end Sys2Proof.Machine
end

section
/-!
PROOFS. The pocket's law (O58), second half: a state that meets it either rests without a context or works one in
RUN, and every command takes such a state to such a state.
-/

namespace Sys2Proof.Machine

/-- What a stuck episode rests on (R96, R97, R191). -/
def StuckFits (s : State) : Prop :=
  s.gas.stuckEpisode = true → s.gasFb = true ∧ s.latched .valveStuck = true ∧ s.gas.closeWindow = none

/-- The pocket's law of a state with a context open: the station is in RUN without a class F cell, and the
sequencer's work fits the phase. -/
structure Working (s : State) : Prop where
  run : s.cycle.station = .run
  sound : anyClassF s.fault.latched = false
  opened : s.context ≠ none
  phase : s.cycle.phase ≠ .returning ∧ s.cycle.phase ≠ .pass
  fits : GasFits s
  calm : s.gas.stuckEpisode = false

/-- The pocket's law of a state without a context, its stuck episode apart. -/
structure Resting (s : State) : Prop where
  faults : FaultsHold s
  phase : s.cycle.phase = .returning ∨ s.cycle.phase = .pass ∧ s.cycle.station = .run
  empty : s.context = none
  stage : s.gas.stage = .idle
  crimp : s.crimp.state = .idle
  undriven : s.draw.self ≠ some .driven

theorem classF_cell_any {c : Cell} {l : BitVec 10} (hc : classF c = true) (hl : isLatched c l = true) :
    anyClassF l = true := by
  have low : cellNumber c < 6 := by
    revert hc
    cases c <;> decide
  simp only [anyClassF, bne_iff_ne]
  intro none
  have bit := congrArg (fun v => v.getLsbD (cellNumber c)) none
  simp only [BitVec.getLsbD_extractLsb', low, decide_true, Bool.true_and, Nat.zero_add] at bit
  rw [isLatched, bit] at hl
  simp at hl

theorem Working.pocketLaw {s : State} (h : Working s) : PocketLaw s := by
  refine ⟨fun any => ?_, fun hr => absurd h.run hr, ⟨fun e => absurd e h.opened, fun e => ?_⟩,
    fun e => absurd e h.opened, h.fits.beforeGas, h.fits.gassing, h.fits.checking, h.fits.driven, h.fits.window, ?_⟩
  · rw [State.anyF, h.sound] at any
    cases any
  · rcases e with e | e
    · exact absurd e h.phase.1
    · exact absurd e h.phase.2
  · simp [h.calm]

theorem Resting.pocketLaw {s : State} (h : Resting s) (hs : StuckFits s) : PocketLaw s := by
  have idle : GasFits s := gasFits_idle h.stage h.undriven
  refine ⟨h.faults, fun hr => h.phase.resolve_right (fun e => hr e.2), ⟨fun _ => ?_, fun _ => h.empty⟩,
    fun _ => ⟨h.stage, h.crimp⟩, idle.beforeGas, idle.gassing, idle.checking, idle.driven, idle.window, hs⟩
  exact h.phase.imp_right And.left

theorem PocketLaw.resting {s : State} (h : PocketLaw s) (hc : s.context = none) : Resting s := by
  obtain ⟨stage, crimp⟩ := h.quiet hc
  refine ⟨h.faults, ?_, hc, stage, crimp, fun d => ?_⟩
  · rcases h.contextOpen.1 hc with hp | hp
    · exact .inl hp
    · refine .inr ⟨hp, Decidable.byContradiction fun hr => ?_⟩
      simp [h.working hr] at hp
  · have := h.driven.2 d
    simp [stage] at this

theorem PocketLaw.working_of_open {s : State} (h : PocketLaw s) (hc : s.context ≠ none) : Working s := by
  have phase := fun e => hc (h.contextOpen.2 e)
  have run : s.cycle.station = .run := Decidable.byContradiction fun hr => phase (.inl (h.working hr))
  have sound : anyClassF s.fault.latched = false := by
    rw [← Bool.not_eq_true]
    intro any
    rcases h.faults any with e | e <;> simp [run] at e
  refine ⟨run, sound, hc, ⟨fun e => phase (.inl e), fun e => phase (.inr e)⟩,
    ⟨h.beforeGas, h.gassing, h.checking, h.driven, h.window⟩, ?_⟩
  rw [← Bool.not_eq_true]
  intro episode
  obtain ⟨_, latched, _⟩ := h.stuck episode
  rw [classF_cell_any rfl latched] at sound
  cases sound

theorem PocketLaw.cases {s : State} (h : PocketLaw s) : Working s ∨ Resting s := by
  by_cases hc : s.context = none
  · exact .inr (h.resting hc)
  · exact .inl (h.working_of_open hc)

/-! ## States that differ in nothing the law reads -/

theorem Working.of_same {s t : State} (h : Working s)
    (hk : t.cycle.station = s.cycle.station ∧ anyClassF t.fault.latched = anyClassF s.fault.latched
      ∧ (t.context = none ↔ s.context = none) ∧ t.cycle.phase = s.cycle.phase ∧ t.gas.stage = s.gas.stage
      ∧ t.gas.closeWindow = s.gas.closeWindow ∧ (t.draw.self = some .driven ↔ s.draw.self = some .driven)
      ∧ t.gas.stuckEpisode = s.gas.stuckEpisode) : Working t := by
  obtain ⟨hr, hf, hc, hp, hs, hw, hd, he⟩ := hk
  exact ⟨hr.trans h.run, hf.trans h.sound, fun e => h.opened (hc.1 e), hp ▸ h.phase, h.fits.of_same ⟨hp, hs, hw, hd⟩,
    he.trans h.calm⟩

/-- The sequencer's work taken further in an open pocket. -/
theorem Working.gassed {s t : State} (h : Working s) (g : Gassed t)
    (hk : t.cycle.station = s.cycle.station ∧ anyClassF t.fault.latched = anyClassF s.fault.latched
      ∧ (t.context = none ↔ s.context = none) ∧ t.gas.stuckEpisode = s.gas.stuckEpisode) : Working t := by
  obtain ⟨hr, hf, hc, he⟩ := hk
  refine ⟨hr.trans h.run, hf.trans h.sound, fun e => h.opened (hc.1 e), ?_, g.fits, he.trans h.calm⟩
  rcases g.phase with hp | hp | hp <;> simp [hp]

theorem StuckFits.of_same {s t : State} (h : StuckFits s)
    (hk : t.gas.stuckEpisode = s.gas.stuckEpisode ∧ t.gasFb = s.gasFb ∧ t.gas.closeWindow = s.gas.closeWindow)
    (hl : CellsStay s t) : StuckFits t := by
  obtain ⟨he, hf, hw⟩ := hk
  intro episode
  obtain ⟨fb, latched, window⟩ := h (he ▸ episode)
  exact ⟨hf.trans fb, hl.stay _ latched, hw.trans window⟩

theorem Resting.of_same {s t : State} (h : Resting s)
    (hk : t.cycle.station = s.cycle.station ∧ anyClassF t.fault.latched = anyClassF s.fault.latched
      ∧ t.context = none ∧ t.cycle.phase = s.cycle.phase ∧ t.gas.stage = s.gas.stage
      ∧ t.crimp.state = s.crimp.state ∧ (t.draw.self = some .driven → s.draw.self = some .driven)) : Resting t := by
  obtain ⟨hr, hf, hc, hp, hs, hk, hd⟩ := hk
  exact ⟨h.faults.of_eq hr hf, by rw [hp, hr]; exact h.phase, hc, hs.trans h.stage, hk.trans h.crimp,
    fun d => h.undriven (hd d)⟩

/-- An operation that leaves everything the law reads, but for cells of class A that it may latch. -/
theorem PocketLaw.of_reports {s t : State} (h : PocketLaw s) (hl : CellsStay s t)
    (hk : t.cycle.station = s.cycle.station ∧ anyClassF t.fault.latched = anyClassF s.fault.latched
      ∧ (t.context = none ↔ s.context = none) ∧ t.cycle.phase = s.cycle.phase ∧ t.gas.stage = s.gas.stage
      ∧ t.crimp.state = s.crimp.state ∧ t.gas.closeWindow = s.gas.closeWindow
      ∧ (t.draw.self = some .driven ↔ s.draw.self = some .driven)
      ∧ t.gas.stuckEpisode = s.gas.stuckEpisode ∧ t.gasFb = s.gasFb) : PocketLaw t := by
  obtain ⟨hr, hf, hc, hp, hs, hk, hw, hd, he, hfb⟩ := hk
  rcases h.cases with g | g
  · exact (g.of_same ⟨hr, hf, hc, hp, hs, hw, hd, he⟩).pocketLaw
  · exact (g.of_same ⟨hr, hf, hc.2 g.empty, hp, hs, hk, hd.1⟩).pocketLaw
      (StuckFits.of_same h.stuck ⟨he, hfb, hw⟩ hl)

/-- An operation that leaves everything the law reads. -/
theorem PocketLaw.of_same {s t : State} (h : PocketLaw s)
    (hk : t.cycle.station = s.cycle.station ∧ t.fault.latched = s.fault.latched
      ∧ (t.context = none ↔ s.context = none) ∧ t.cycle.phase = s.cycle.phase ∧ t.gas.stage = s.gas.stage
      ∧ t.crimp.state = s.crimp.state ∧ t.gas.closeWindow = s.gas.closeWindow
      ∧ (t.draw.self = some .driven ↔ s.draw.self = some .driven)
      ∧ t.gas.stuckEpisode = s.gas.stuckEpisode ∧ t.gasFb = s.gasFb) : PocketLaw t := by
  obtain ⟨hr, hf, rest⟩ := hk
  exact h.of_reports (.of_same hf) ⟨hr, by rw [hf], rest⟩

theorem FaultsHold.sound {s : State} (h : FaultsHold s) (hl : s.cycle.station ≠ .loading)
    (hf : s.cycle.station ≠ .faulted) : anyClassF s.fault.latched = false := by
  rw [← Bool.not_eq_true]
  intro any
  rcases h any with e | e
  · exact hl e
  · exact hf e

/-- Without a class F cell there is no stuck episode. -/
theorem PocketLaw.calm {s : State} (h : PocketLaw s) (hs : anyClassF s.fault.latched = false) :
    s.gas.stuckEpisode = false := by
  rw [← Bool.not_eq_true]
  intro episode
  obtain ⟨_, latched, _⟩ := h.stuck episode
  rw [classF_cell_any rfl latched] at hs
  cases hs

theorem Resting.calmLaw {s : State} (h : Resting s) (hc : s.gas.stuckEpisode = false) : PocketLaw s :=
  h.pocketLaw (fun e => by rw [hc] at e; cases e)

/-! ## A change of station state -/

theorem moveTo_driven (a : Station) (s : State) (hd : s.draw.self ≠ some .driven) :
    (moveTo a s).draw.self ≠ some .driven := by
  cases a <;> simp [moveTo, drawAtMove, State.reset, hd]

theorem resting_moveTo {a : Station} {s : State} (h : Resting s) (hp : s.cycle.phase = .returning)
    (hf : a = .faulted ∨ a = .loading ∨ anyClassF s.fault.latched = false) : Resting (moveTo a s) := by
  refine ⟨fun any => ?_, .inl (by simpa using hp), by simpa using h.empty, by simpa using h.stage,
    by simpa using h.crimp, moveTo_driven a s h.undriven⟩
  rcases hf with rfl | rfl | hf
  · simp
  · simp
  · simp [State.anyF, hf] at any

theorem pocketLaw_moveTo {a : Station} {s : State} (h : PocketLaw s) (hp : s.cycle.phase = .returning)
    (hf : a = .faulted ∨ a = .loading ∨ anyClassF s.fault.latched = false) : PocketLaw (moveTo a s) :=
  (resting_moveTo (h.resting (h.contextOpen.2 (.inl hp))) hp hf).pocketLaw
    (StuckFits.of_same h.stuck (by simp) (.of_same (by simp)))

theorem pocketLaw_parkTest {s : State} (h : PocketLaw s) : PocketLaw (parkTest s) := by
  unfold parkTest
  split
  · next hpark =>
    obtain ⟨hs, _, hp⟩ := hpark
    simp only [State.mayPark, Bool.and_eq_true, beq_iff_eq] at hp
    obtain ⟨⟨⟨⟨⟨⟨phase, _⟩, _⟩, _⟩, _⟩, _⟩, _⟩ := hp
    exact pocketLaw_moveTo h phase (.inr (.inr (h.faults.sound (by simp [hs]) (by simp [hs]))))
  · exact h

/-! ## The report of a class F cause -/

/-- What the entry to FAULTED needs of a state: a driven SELF goes with a pulse, and without a context both
sequencers are in IDLE. -/
structure Abandonable (s : State) : Prop where
  driven : s.draw.self = some .driven → s.gas.stage = .pulse
  quiet : s.context = none → s.gas.stage = .idle ∧ s.crimp.state = .idle

theorem PocketLaw.abandonable {s : State} (h : PocketLaw s) : Abandonable s := ⟨h.driven.2, h.quiet⟩

/-- The context's work abandoned and the context closed: both sequencers are in IDLE, and no SELF is driven. -/
theorem abandoned_idle (r : Reason) {s : State} (h : Abandonable s) :
    (closeContext (addReason r (abandonGas (abandonCrimp s)))).gas.stage = .idle
      ∧ (closeContext (addReason r (abandonGas (abandonCrimp s)))).crimp.state = .idle
      ∧ (closeContext (addReason r (abandonGas (abandonCrimp s)))).draw.self ≠ some .driven := by
  refine ⟨by simp [abandonGas_stage], by simp, ?_⟩
  simpa using abandonGas_undriven (s := abandonCrimp s) (by simpa using h.driven)

theorem abandonContext_idle {s : State} (h : Abandonable s) :
    (abandonContext s).gas.stage = .idle ∧ (abandonContext s).crimp.state = .idle
      ∧ (abandonContext s).draw.self ≠ some .driven := by
  unfold abandonContext
  split
  · exact abandoned_idle _ h
  · next hc =>
    obtain ⟨stage, crimp⟩ := h.quiet (by simpa using hc)
    exact ⟨stage, crimp, fun d => by simp [h.driven d] at stage⟩

theorem abandonContext_window {s : State} (hs : s.gas.stage ≠ .pulse) :
    (abandonContext s).gas.closeWindow = s.gas.closeWindow := by
  unfold abandonContext
  split
  · simpa using abandonGas_window (s := abandonCrimp s) (by simpa using hs)
  · rfl

theorem resting_enterFaulted {s : State} (h : Abandonable s) : Resting (enterFaulted s) := by
  have moved : Abandonable (moveTo .faulted s) :=
    ⟨fun d => by simpa using h.driven (Decidable.byContradiction fun e => moveTo_driven .faulted s e d),
      by simpa using h.quiet⟩
  obtain ⟨stage, crimp, undriven⟩ := abandonContext_idle moved
  exact ⟨fun _ => .inr (by simp), .inl (by simp), by simp, by simpa [enterFaulted] using stage,
    by simpa [enterFaulted] using crimp, by simpa [enterFaulted] using undriven⟩

theorem enterFaulted_window {s : State} (hs : s.gas.stage ≠ .pulse) :
    (enterFaulted s).gas.closeWindow = s.gas.closeWindow := by
  have abandoned := abandonContext_window (s := moveTo .faulted s) (by simpa using hs)
  simpa [enterFaulted] using abandoned

/-- A newly latched class F cell leaves the head at rest, in LOADING or FAULTED. -/
theorem resting_reportF {c : Cell} {s : State} (h : Abandonable s) (hc : s.latched c = false)
    (hrest : movesToFaulted s.cycle.station = false → s.context = none ∧ s.cycle.phase = .returning) :
    Resting (reportF c s) := by
  have placed : Abandonable (placeFault c (retestIfDead c (latch c s))) :=
    ⟨by simpa using h.driven, by simpa using h.quiet⟩
  unfold reportF
  rw [if_neg (by simp [hc])]
  dsimp only
  split
  · exact (resting_enterFaulted placed).of_same (by simp)
  · next hm =>
    obtain ⟨empty, phase⟩ := hrest (by simpa using hm)
    obtain ⟨stage, crimp⟩ := h.quiet empty
    refine ⟨fun _ => ?_, .inl (by simpa using phase), by simpa using empty, by simpa using stage,
      by simpa using crimp, ?_⟩
    · cases hs : s.cycle.station <;> simp [hs, movesToFaulted] at hm ⊢
    · simpa using fun d => by simp [h.driven d] at stage

theorem reportF_window {c : Cell} {s : State} (hs : s.gas.stage ≠ .pulse) :
    (reportF c s).gas.closeWindow = s.gas.closeWindow := by
  unfold reportF
  dsimp only
  (repeat' split)
  · simp
  · rfl
  · simpa using enterFaulted_window (s := placeFault c (retestIfDead c (latch c s))) (by simpa using hs)
  · simp

theorem stuckFits_reportF {c : Cell} {s : State} (h : StuckFits s)
    (hs : s.gas.stuckEpisode = true → s.gas.stage ≠ .pulse) : StuckFits (reportF c s) := by
  intro episode
  have before : s.gas.stuckEpisode = true := by simpa using episode
  obtain ⟨fb, latched, window⟩ := h before
  exact ⟨by simpa using fb, (cellsStay_reportF c s).stay _ latched, (reportF_window (hs before)).trans window⟩

theorem pocketLaw_reportF {c : Cell} {s : State} (h : PocketLaw s) : PocketLaw (reportF c s) := by
  cases hl : s.latched c with
  | true =>
    unfold reportF
    rw [if_pos hl]
    split
    · exact h.of_same (by simp)
    · exact h
  | false =>
    refine (resting_reportF h.abandonable hl fun hm => ?_).pocketLaw (stuckFits_reportF h.stuck fun episode hs => ?_)
    · have phase : s.cycle.phase = .returning := h.working (fun hr => by simp [hr, movesToFaulted] at hm)
      exact ⟨h.contextOpen.2 (.inl phase), phase⟩
    · obtain ⟨_, _, _⟩ := h.stuck episode
      rcases h.cases with g | g
      · simp [g.calm] at episode
      · simp [g.stage] at hs

/-! ## The stuck valve -/

theorem drawTakesStuck_undriven (s : State) : (drawTakesStuck s).draw.self ≠ some .driven := by
  unfold drawTakesStuck
  (repeat' split) <;> simp_all

/-- A valve found open with GAS off and no close window: the law holds with the episode begun. -/
theorem pocketLaw_findStuckValve {s : State} (h : PocketLaw s) (hfb : s.gasFb = true)
    (hw : s.gas.closeWindow = none) (hs : s.gas.stage ≠ .pulse) : PocketLaw (findStuckValve s) := by
  unfold findStuckValve
  split
  · exact h
  · have undriven : (drawTakesStuck { s with gas := { s.gas with stuckEpisode := true } }).draw.self ≠ some .driven :=
      drawTakesStuck_undriven _
    have stuck : StuckFits (reportF .valveStuck (drawTakesStuck { s with gas := { s.gas with stuckEpisode := true } })) :=
      fun _ => ⟨by simpa using hfb, latched_reportF _ _, by rw [reportF_window] <;> simp [hw, hs]⟩
    refine Resting.pocketLaw ?_ stuck
    cases hl : s.latched .valveStuck with
    | true =>
      have any : anyClassF s.fault.latched = true := classF_cell_any rfl hl
      have rest : Resting s := h.cases.resolve_left (fun g => by simp [g.sound] at any)
      have again (u : State) (hu : u.latched .valveStuck = true) :
          reportF .valveStuck u = placeFault .valveStuck u := by simp [reportF, hu]
      rw [again _ (by simpa [State.latched] using hl)]
      exact rest.of_same ⟨by simp, by simp, by simpa using rest.empty, by simp, by simp, by simp,
        fun d => absurd (by simpa using d) undriven⟩
    | false =>
      refine resting_reportF ⟨fun d => absurd d undriven, by simpa using h.quiet⟩
        (by simpa [State.latched] using hl) (fun hm => ?_)
      have phase : s.cycle.phase = .returning := h.working (fun hr => by simp [hr, movesToFaulted] at hm)
      exact ⟨by simpa using h.contextOpen.2 (.inl phase), by simpa using phase⟩

/-! ## MK_INFEED -/

/-- The same rest in another phase of RUN. -/
theorem Resting.in_run {s t : State} (h : Resting s) (hs : s.cycle.station = .run)
    (hk : t.cycle.station = s.cycle.station ∧ anyClassF t.fault.latched = anyClassF s.fault.latched
      ∧ t.context = none ∧ (t.cycle.phase = .returning ∨ t.cycle.phase = .pass) ∧ t.gas.stage = s.gas.stage
      ∧ t.crimp.state = s.crimp.state ∧ (t.draw.self = some .driven → s.draw.self = some .driven)) : Resting t := by
  obtain ⟨hr, hf, hc, hp, hst, hk, hd⟩ := hk
  exact ⟨h.faults.of_eq hr hf, hp.imp_right (fun e => ⟨e, hr.trans hs⟩), hc, hst.trans h.stage, hk.trans h.crimp,
    fun d => h.undriven (hd d)⟩

theorem resting_passPocket (b : Bool) (r : Reason) {s : State} (h : Resting s) (hr : s.cycle.station = .run) :
    Resting (passPocket b r s) :=
  h.in_run hr (by simp [passPocket, openContext])

theorem resting_grantPassPocket {s : State} (h : Resting s) : Resting (grantPassPocket s) :=
  h.of_same (by simp [h.empty])

/-- The pocket decided at the mark: it passes at rest, or a crimp starts in an open context. -/
theorem pocketLaw_decidePocket (b : Bool) {s : State} (h : Resting s) (hr : s.cycle.station = .run)
    (hc : s.gas.stuckEpisode = false) : PocketLaw (decidePocket b s) := by
  unfold decidePocket
  dsimp only
  (repeat' split)
  · exact (resting_grantPassPocket (resting_passPocket b _ h hr)).calmLaw (by simpa using hc)
  · refine Working.pocketLaw ⟨by simpa using hr, ?_, ?_, by simp, gasFits_idle ?_ ?_, by simpa using hc⟩
    · simpa using h.faults.sound (by simp [hr]) (by simp [hr])
    · simp [openContext]
    · simpa using h.stage
    · simpa using h.undriven
  · exact (resting_grantPassPocket (resting_passPocket b _ h hr)).calmLaw (by simpa using hc)
  · exact (resting_passPocket b _ h hr).calmLaw (by simpa using hc)

theorem pocketLaw_startCycle (b : Bool) {s : State} (h : Resting s) (hr : s.cycle.station = .run)
    (hc : s.gas.stuckEpisode = false) : PocketLaw (startCycle b s) := by
  have ended : Resting (endGrant { s with
      cycle := { s.cycle with silence := some s.clock, silenceOver := false, zeroTest := none } }) :=
    h.of_same (by simp [h.empty])
  exact pocketLaw_decidePocket b ended (by simpa using hr) (by simpa using hc)

theorem pocketLaw_recordStopped (b : Bool) (r : Reason) {s : State} (h : Resting s) (hs : StuckFits s) :
    PocketLaw (recordStopped b r s) :=
  (h.of_same (by simp)).pocketLaw (hs.of_same (by simp) (cellsStay_recordStopped b r s))

theorem resting_completeStop {s : State} (h : Resting s) (hp : s.cycle.phase = .returning)
    (hr : s.cycle.station = .run) : Resting (completeStop s) := by
  unfold completeStop
  split
  · exact resting_moveTo (h.of_same (by simp [h.empty])) hp
      (.inr (.inr (h.faults.sound (by simp [hr]) (by simp [hr]))))
  · exact h

theorem closeOutOfOrder_idle {s : State} (h : Abandonable s) :
    (closeOutOfOrder s).context = none ∧ (closeOutOfOrder s).gas.stage = .idle
      ∧ (closeOutOfOrder s).crimp.state = .idle ∧ (closeOutOfOrder s).draw.self ≠ some .driven := by
  unfold closeOutOfOrder
  split
  · exact ⟨by simp, abandoned_idle _ h⟩
  · next hc =>
    have empty : s.context = none := by simpa using hc
    obtain ⟨stage, crimp⟩ := h.quiet empty
    exact ⟨empty, stage, crimp, fun d => by simp [h.driven d] at stage⟩

/-- The context of an out-of-order mark closed: the pocket is at rest once its phase is RETURN. -/
theorem resting_closeOutOfOrder {s : State} (h : PocketLaw s) :
    Resting (endGrant { closeOutOfOrder s with cycle := { (closeOutOfOrder s).cycle with phase := .returning } }) := by
  obtain ⟨empty, stage, crimp, undriven⟩ := closeOutOfOrder_idle h.abandonable
  exact ⟨h.faults.of_eq (by simp) (by simp), .inl (by simp), by simp, by simpa using stage,
    by simpa using crimp, by simpa using undriven⟩

theorem pocketLaw_handleAgain (b : Bool) {s : State} (h : Resting s) (hc : s.gas.stuckEpisode = false)
    (hr : s.cycle.station = .run ∨ s.cycle.station = .standby) : PocketLaw (handleAgain b s) := by
  unfold handleAgain
  split
  · exact pocketLaw_recordStopped b _ h (fun e => by simp [hc] at e)
  · next hs => exact pocketLaw_startCycle b h (hr.resolve_right hs) hc

theorem completeStop_station {s : State} (hr : s.cycle.station = .run) :
    (completeStop s).cycle.station = .run ∨ (completeStop s).cycle.station = .standby := by
  unfold completeStop
  split
  · exact .inr (by simp)
  · exact .inl hr

theorem pocketLaw_infeedOutOfOrder (b : Bool) {s : State} (h : PocketLaw s) (hr : s.cycle.station = .run) :
    PocketLaw (infeedOutOfOrder b s) := by
  have sound := h.faults.sound (by simp [hr]) (by simp [hr])
  have measured : PocketLaw (measurePeriod (reportA .markOrder s)) :=
    h.of_reports ((cellsStay_reportA _ _).trans (.of_same rfl)) (by simp)
  have closed := resting_closeOutOfOrder measured
  exact pocketLaw_handleAgain b (resting_completeStop closed (by simp) (by simp [hr])) (by simpa using h.calm sound)
    (completeStop_station (by simp [hr]))

theorem pocketLaw_wake (b : Bool) {s : State} (h : PocketLaw s) (hr : s.cycle.station = .parked) :
    PocketLaw (wake b s) := by
  have sound := h.faults.sound (by simp [hr]) (by simp [hr])
  have phase := h.working (by simp [hr])
  have moved : Resting (moveTo .run s) :=
    resting_moveTo (h.resting (h.contextOpen.2 (.inl phase))) phase (.inr (.inr sound))
  refine pocketLaw_startCycle b (moved.of_same ?_) (by simp) (by simpa using h.calm sound)
  simp [h.contextOpen.2 (.inl phase)]

theorem PocketLaw.resting_of_returning {s : State} (h : PocketLaw s) (hp : s.cycle.phase = .returning) :
    Resting s := h.resting (h.contextOpen.2 (.inl hp))

theorem pocketLaw_mkInfeed (b : Bool) {s : State} (h : PocketLaw s) : PocketLaw (effect (.mkInfeed b) s) := by
  rw [effect_mkInfeed]
  split
  · exact h
  · exact h
  · next hs => exact pocketLaw_recordStopped b _ (h.resting_of_returning (h.working (by simp [hs]))) h.stuck
  · next hs => exact pocketLaw_recordStopped b _ (h.resting_of_returning (h.working (by simp [hs]))) h.stuck
  · next hs => exact pocketLaw_wake b h hs
  · next hs =>
    split
    · next hp =>
      have rest := h.resting_of_returning hp
      exact pocketLaw_startCycle b (rest.of_same (by simp [rest.empty])) hs
        (h.calm (h.faults.sound (by simp [hs]) (by simp [hs])))
    · exact pocketLaw_infeedOutOfOrder b h hs

/-! ## The other marks -/

theorem working_takeGasOpen {s : State} (h : Working s) : Working (takeGasOpen s) := by
  unfold takeGasOpen
  split
  · exact h.of_same (by simp)
  · next hp =>
    have idle := h.fits.beforeGas (.inr hp)
    exact h.gassed (gassed_enterGas idle (fun d => by simp [h.fits.driven.2 d] at idle)) (by simp)
  · exact h

theorem pocketLaw_takeGasOpen {s : State} (h : PocketLaw s) : PocketLaw (takeGasOpen s) := by
  rcases h.cases with g | g
  · exact (working_takeGasOpen g).pocketLaw
  · rcases g.phase with hp | ⟨hp, _⟩ <;> simpa [takeGasOpen, hp] using h

/-- The pocket SEALED with the sequencer out of its work. -/
theorem Working.seal {s t : State} (h : Working s) (hst : t.gas.stage = .idle ∨ t.gas.stage = .ended)
    (hd : t.draw.self ≠ some .driven)
    (hk : t.cycle.station = s.cycle.station ∧ anyClassF t.fault.latched = anyClassF s.fault.latched
      ∧ (t.context = none ↔ s.context = none) ∧ t.gas.stuckEpisode = s.gas.stuckEpisode
      ∧ t.cycle.phase = .sealed) : Working t ∧ t.gas.stage ≠ .pulse := by
  obtain ⟨hr, hf, hc, he, hp⟩ := hk
  have fits : GasFits t := hst.elim (gasFits_idle · hd) (gasFits_ended · hd (.inr (.inr hp)))
  exact ⟨⟨hr.trans h.run, hf.trans h.sound, fun e => h.opened (hc.1 e), by simp [hp], fits, he.trans h.calm⟩,
    by rcases hst with e | e <;> simp [e]⟩

/-- MK_GASCLOSE leaves a working pocket with GAS off. -/
theorem working_takeGasClose {s : State} (h : Working s) :
    Working (takeGasClose s) ∧ (takeGasClose s).gas.stage ≠ .pulse := by
  unfold takeGasClose
  split
  · next hp => exact ⟨h.of_same (by simp), by simp [h.fits.beforeGas (.inl hp)]⟩
  · next hp =>
    have idle := h.fits.beforeGas (.inr hp)
    exact h.seal (.inl (by simpa [setPhase] using idle))
      (by simpa [setPhase] using fun d => by simp [h.fits.driven.2 d] at idle) (by simp [setPhase])
  · next hp =>
    obtain ⟨stage, undriven⟩ := cutWindow_stage h.fits hp
    exact h.seal (by simpa [setPhase] using stage) (by simpa [setPhase] using undriven) (by simp [setPhase])
  · next hp =>
    obtain ⟨stage, undriven⟩ := cutCheck_stage h.fits hp
    exact h.seal (by simpa [setPhase] using stage) (by simpa [setPhase] using undriven) (by simp [setPhase])
  · next hgas _ =>
    exact ⟨h, fun e => hgas (h.fits.gassing (by simp [e, gassingStage]))⟩

theorem pocketLaw_takeGasClose {s : State} (h : PocketLaw s) : PocketLaw (takeGasClose s) := by
  rcases h.cases with g | g
  · exact (working_takeGasClose g).1.pocketLaw
  · rcases g.phase with hp | ⟨hp, _⟩ <;> simpa [takeGasClose, hp] using h

/-- The end of the working arc leaves the pocket at rest. -/
theorem pocketLaw_discharge {s : State} (h : Working s) (hs : s.gas.stage ≠ .pulse) : PocketLaw (discharge s) := by
  have closed : Resting (setPhase .returning (closeContext (returnGas (returnCrimp s)))) := by
    refine ⟨fun any => ?_, .inl (by simp [setPhase]), by simp [setPhase], by simp [setPhase],
      by simp [setPhase, returnCrimp], ?_⟩
    · simp [State.anyF, setPhase, h.sound] at any
    · simpa [setPhase] using fun d => hs (h.fits.driven.2 d)
  unfold discharge
  dsimp only
  split
  · exact (resting_completeStop closed (by simp [setPhase]) (by simpa using h.run)).calmLaw (by simpa using h.calm)
  · exact (closed.of_same (by simp)).calmLaw (by simpa using h.calm)

theorem pocketLaw_dischargeEarly {s : State} (h : Working s) : PocketLaw (dischargeEarly s) := by
  have ends {u : State} (hu : Working u) (hs : u.gas.stage ≠ .pulse) :
      PocketLaw (reportA .markOrder (discharge (addReason .markError u))) :=
    (pocketLaw_discharge (s := addReason .markError u) (hu.of_same (by simp)) (by simpa using hs)).of_reports
      (cellsStay_reportA _ _) (by simp)
  obtain ⟨cut, stage⟩ := working_takeGasClose h
  unfold dischargeEarly
  dsimp only
  split
  · exact ends (cut.of_same (by simp)) (by simpa using stage)
  · exact ends cut stage

theorem pocketLaw_takeDischarge {s : State} (h : PocketLaw s) (hr : s.cycle.station = .run) :
    PocketLaw (takeDischarge s) := by
  have opened (hp : s.cycle.phase ≠ .returning ∧ s.cycle.phase ≠ .pass) : Working s :=
    h.working_of_open (fun e => (h.contextOpen.1 e).elim hp.1 hp.2)
  unfold takeDischarge
  split
  · exact h
  · next hp =>
    have rest := h.resting (h.contextOpen.2 (.inr hp))
    exact (rest.in_run hr (by simp [setPhase, rest.empty])).pocketLaw
      (StuckFits.of_same h.stuck (by simp [setPhase]) (.of_same rfl))
  · next hp =>
    have work := opened (by simp [hp])
    exact pocketLaw_discharge work (fun e => by simp [work.fits.gassing (by simp [e, gassingStage])] at hp)
  · next hr hp _ => exact pocketLaw_dischargeEarly (opened ⟨hr, hp⟩)

/-! ## The crimp -/

/-- The verdict moves a pocket on from CRIMP, where the gas sequencer is in IDLE. -/
theorem working_crimpVerdict (good : Bool) {s : State} (h : Working s) : Working (crimpVerdict good s) := by
  unfold crimpVerdict
  split
  · next hp =>
    have idle := h.fits.beforeGas (.inl hp)
    have undriven : s.draw.self ≠ some .driven := fun d => by simp [h.fits.driven.2 d] at idle
    have moved (p : Phase) (hne : p ≠ .returning ∧ p ≠ .pass) :
        Working { s with cycle := { s.cycle with phase := p } } :=
      ⟨h.run, h.sound, h.opened, hne, gasFits_idle idle undriven, h.calm⟩
    (repeat' split)
    · exact h.gassed (gassed_enterGas idle undriven) (by simp)
    · exact moved .waitWindow (by simp)
    · exact moved .sealed (by simp)
    · exact moved .sealed (by simp)
  · exact h

theorem working_enterDone {s : State} (h : Working s) : Working (enterDone s) := by
  unfold enterDone
  dsimp only
  (repeat' split)
  · exact working_crimpVerdict _ (h.of_same (by simp))
  · exact working_crimpVerdict _ (h.of_same (by simp))
  · exact working_crimpVerdict _ (h.of_same (by simp))

theorem PocketLaw.working_of_crimping {s : State} (h : PocketLaw s) (hc : s.crimp.state ≠ .idle) : Working s :=
  h.working_of_open (fun e => hc (h.quiet e).2)

theorem PocketLaw.working_of_gassing {s : State} (h : PocketLaw s) (hc : s.gas.stage ≠ .idle) : Working s :=
  h.working_of_open (fun e => hc (h.quiet e).1)

theorem working_takeCrimpSample (f d : Nat) {s : State} (h : Working s) : Working (takeCrimpSample f d s) := by
  unfold takeCrimpSample
  split
  · exact h
  · split
    · exact h.of_same (by simp)
    · exact h
  · exact h.of_same (by simp)
  · exact h.of_same (by simp)
  · split
    · exact working_enterDone h
    · exact h
  · exact h

theorem pocketLaw_takeCrimpSample (f d : Nat) {s : State} (h : PocketLaw s) : PocketLaw (takeCrimpSample f d s) := by
  by_cases hc : s.crimp.state = .idle
  · simpa [takeCrimpSample, hc] using h
  · exact (working_takeCrimpSample f d (h.working_of_crimping hc)).pocketLaw

theorem PocketLaw.working_of_crimpExpires {s : State} (h : PocketLaw s) {c : CrimpState}
    (hx : s.crimpExpires c = true) (hc : c ≠ .idle) : Working s := by
  simp only [State.crimpExpires, Bool.and_eq_true, beq_iff_eq] at hx
  exact h.working_of_crimping (by rw [hx.1]; exact hc)

/-! ## The sequencer's sample -/

theorem pocketLaw_gasTakesSample {s : State} (h : PocketLaw s) : PocketLaw (gasTakesSample s) := by
  have work (hs : s.gas.stage ≠ .idle) : Working s := h.working_of_gassing hs
  have gas (hs : gassingStage s.gas.stage) : s.cycle.phase = .gas := h.gassing hs
  have lost {u : State} (hu : Working u) (hg : Gassed u) : PocketLaw (loseSensor u) :=
    (hu.gassed (gassed_loseSensor hg) (by simp)).pocketLaw
  unfold gasTakesSample
  dsimp only
  split
  · next hs =>
    have hw := work (by simp [hs])
    have hp := gas (by simp [hs, gassingStage])
    have undriven : s.draw.self ≠ some .driven := fun d => by simp [hw.fits.driven.2 d] at hs
    split
    · exact (hw.gassed (gassed_decideInPlan hp hs undriven) (by simp)).pocketLaw
    · exact lost hw ⟨hw.fits, .inl hp⟩
  · next hs =>
    have hw := work (by simp [hs])
    have hp := gas (by simp [hs, gassingStage])
    have noted : Working (noteHold s) := hw.of_same (by simp)
    split
    · exact noted.pocketLaw
    · exact lost noted ⟨noted.fits, .inl (by simpa using hp)⟩
  · next hs =>
    have hw := work (by simp [hs])
    have hp := gas (by simp [hs, gassingStage])
    (repeat' split)
    · exact (hw.gassed (gassed_judgePulse hp) (by simp)).pocketLaw
    · exact h
    · exact lost hw ⟨hw.fits, .inl hp⟩
  · next hs =>
    have hw := work (by simp [hs])
    have hp := gas (by simp [hs, gassingStage])
    split
    · exact h
    · exact lost hw ⟨hw.fits, .inl hp⟩
  · next hs =>
    have hw := work (by simp [hs])
    split
    · exact h
    · exact lost hw ⟨hw.fits, .inr (.inl (h.checking hs))⟩
  · exact h

theorem pocketLaw_watermarkTest {s : State} (h : PocketLaw s) : PocketLaw (watermarkTest s) := h.of_same (by simp)

theorem pocketLaw_handSample {s : State} (h : PocketLaw s) : PocketLaw (handSample s) := by
  let u := formDrive (noteClamped { s with sensor := { s.sensor with sample := formSample s.sensor } })
  have counted : PocketLaw (countSample u) := h.of_same (by simp [u])
  show PocketLaw (watermarkTest (gasTakesSample (countSample u)))
  exact pocketLaw_watermarkTest (pocketLaw_gasTakesSample counted)

theorem pocketLaw_endBellTransaction (r : SensorReply) {s : State} (h : PocketLaw s) :
    PocketLaw (endBellTransaction r s) := by
  have handed : PocketLaw (reportHeaderLost (handSample (collectReading r
      (statusIfChanged s.sensor.bell.validity (channelAfter r s.sensor.bell).validity
        { s with sensor := { s.sensor with bell := channelAfter r s.sensor.bell } })))) := by
    have taken := pocketLaw_handSample (h.of_same (t := collectReading r
      (statusIfChanged s.sensor.bell.validity (channelAfter r s.sensor.bell).validity
        { s with sensor := { s.sensor with bell := channelAfter r s.sensor.bell } })) (by simp))
    unfold reportHeaderLost
    split
    · exact pocketLaw_reportF (taken.of_same (by simp))
    · exact taken
  unfold endBellTransaction
  dsimp only
  split
  · exact pocketLaw_reportF handed
  · exact handed

theorem pocketLaw_endTransaction (c : Channel) (r : SensorReply) {s : State} (h : PocketLaw s) :
    PocketLaw (endTransaction c r s) := by
  unfold endTransaction
  dsimp only
  (repeat' split)
  · exact h
  · exact h.of_same (by simp)
  · exact pocketLaw_parkTest (pocketLaw_endBellTransaction _ (h.of_same (by simp)))
  · exact h

/-! ## The valve -/

/-- Outside a stuck episode the level of GAS_FB is nothing to the law. -/
theorem PocketLaw.feedback {s : State} (h : PocketLaw s) (b : Bool) (hb : b = true ∨ s.gas.stuckEpisode = false) :
    PocketLaw { s with gasFb := b } := by
  rcases h.cases with g | g
  · exact (g.of_same (t := { s with gasFb := b }) (by simp)).pocketLaw
  · refine (g.of_same (t := { s with gasFb := b }) (by simp [g.empty])).pocketLaw (fun episode => ?_)
    obtain ⟨_, latched, window⟩ := h.stuck episode
    rcases hb with rfl | hb
    · exact ⟨rfl, latched, window⟩
    · exact absurd episode (by simp [hb])

theorem gasOn_iff (s : State) : s.gasOn = true ↔ s.gas.stage = .pulse := by simp [State.gasOn]

theorem pocketLaw_gasFbOpens {s : State} (h : PocketLaw s) : PocketLaw (effect .gasFbOpens s) := by
  have shown := h.feedback true (.inl rfl)
  rw [effect_gasFbOpens]
  dsimp only
  (repeat' split)
  · exact shown.of_same (by simp)
  · exact shown
  · next hoff hw =>
    exact pocketLaw_findStuckValve shown rfl (by simpa using hw) (fun e => hoff ((gasOn_iff s).2 e))

/-- A running close window belongs to no pulse and to no stuck episode. -/
theorem PocketLaw.closing {s : State} (h : PocketLaw s) (hw : s.gas.closeWindow.isSome = true) :
    s.gas.stage ≠ .pulse ∧ s.gas.stuckEpisode = false := by
  refine ⟨fun e => by simp [h.window e] at hw, ?_⟩
  rw [← Bool.not_eq_true]
  intro episode
  obtain ⟨_, _, none⟩ := h.stuck episode
  simp [none] at hw

theorem pocketLaw_valveClosed {s : State} (h : PocketLaw s) (hs : s.gas.stage ≠ .pulse)
    (he : s.gas.stuckEpisode = false) : PocketLaw (valveClosed s) := by
  by_cases hset : s.gas.stage = .settle
  · have work := h.working_of_gassing (by simp [hset])
    have phase := h.gassing (by simp [hset, gassingStage])
    exact (work.gassed (gassed_valveClosed ⟨work.fits, .inl phase⟩ hs) (by simp)).pocketLaw
  · have same : valveClosed s = reportClosed { s with gas := { s.gas with closeWindow := none } } := by
      rw [valveClosed, startSettle_of_ne]
      simpa using hset
    rw [same]
    rcases h.cases with g | g
    · exact Working.pocketLaw ⟨by simpa using g.run, by simpa using g.sound, by simpa using g.opened,
        by simpa using g.phase, g.fits.of_undriven hs (by simp), by simpa using g.calm⟩
    · exact (g.of_same (by simp [g.empty])).calmLaw (by simpa using he)

theorem pocketLaw_takeValveClosed {s : State} (h : PocketLaw s) :
    PocketLaw (takeValveClosed { s with gasFb := false }) := by
  unfold takeValveClosed
  dsimp only
  split
  · next hw =>
    obtain ⟨stage, calm⟩ := h.closing hw
    exact pocketLaw_valveClosed (h.feedback false (.inr calm)) stage calm
  · split
    · next episode =>
      have rest : Resting s := h.cases.resolve_left (fun g => by simp [g.calm] at episode)
      have none : (endStuckEpisode { s with gasFb := false }).gas.stuckEpisode = false := by
        unfold endStuckEpisode
        dsimp only
        split <;> simp
      exact (rest.of_same (by simp [rest.empty])).calmLaw none
    · next calm => exact h.feedback false (.inr (by simpa using calm))

theorem pocketLaw_endCloseWindow {s : State} (h : PocketLaw s) : PocketLaw (endCloseWindow s) := by
  have ended : PocketLaw { s with gas := { s.gas with closeWindow := none } } := by
    rcases h.cases with g | g
    · exact Working.pocketLaw ⟨g.run, g.sound, g.opened, g.phase,
        ⟨g.fits.beforeGas, g.fits.gassing, g.fits.checking, g.fits.driven, fun _ => rfl⟩, g.calm⟩
    · refine (g.of_same (by simp [g.empty])).pocketLaw (fun episode => ?_)
      obtain ⟨fb, latched, _⟩ := h.stuck episode
      exact ⟨fb, latched, rfl⟩
  unfold endCloseWindow
  dsimp only
  split
  · next hopen =>
    simp only [Bool.and_eq_true, Bool.not_eq_true'] at hopen
    obtain ⟨hfb, hoff⟩ := hopen
    exact pocketLaw_findStuckValve ended hfb rfl (fun e => by simp [(gasOn_iff s).2 e] at hoff)
  · exact ended

theorem pocketLaw_judgeSeal {s : State} (h : PocketLaw s) (hs : s.gas.stage = .check) : PocketLaw (judgeSeal s) := by
  have work := h.working_of_gassing (by simp [hs])
  have undriven : s.draw.self ≠ some .driven := fun d => by simp [h.driven.2 d] at hs
  have phase : (judgeSeal s).cycle.phase = .sealed := by
    unfold judgeSeal
    dsimp only
    split <;> simp [h.checking hs]
  exact (work.gassed (gassed_ended (by simp) (by simpa using undriven) (.inr (.inr phase))) (by simp)).pocketLaw

theorem pocketLaw_enterPlan {s : State} (h : PocketLaw s) (hs : s.gas.stage = .settle) : PocketLaw (enterPlan s) := by
  have work := h.working_of_gassing (by simp [hs])
  have undriven : s.draw.self ≠ some .driven := fun d => by simp [h.driven.2 d] at hs
  exact (work.gassed (gassed_enterPlan (h.gassing (by simp [hs, gassingStage])) undriven) (by simp)).pocketLaw

/-! ## The line -/

theorem pocketLaw_openCompleted {s : State} (h : PocketLaw s) : PocketLaw (openCompleted s) := by
  unfold openCompleted
  split
  · next hc =>
    have work := h.working_of_gassing (by simp [hc.2])
    exact (work.gassed (gassed_startPulse (h.gassing (by simp [hc.2, gassingStage]))) (by simp)).pocketLaw
  · exact h.of_same (by simp)

theorem pocketLaw_ownerCompleted (k : SlotKind) (before : State) {s : State} (h : PocketLaw s) :
    PocketLaw (ownerCompleted k before s) := by
  cases k with
  | openSlot => exact pocketLaw_openCompleted h
  | _ => exact h.of_same (by simp [ownerCompleted])

theorem pocketLaw_fourthFailure (k : SlotKind) {s : State} (h : PocketLaw s) : PocketLaw (fourthFailure k s) :=
  pocketLaw_reportF (h.of_same (by simp))

/-- A plan at the OPEN's turn takes the sequencer back to PLAN, in the phase it works in. -/
theorem pocketLaw_offerOpen {s : State} (h : PocketLaw s) : PocketLaw (offerOpen s).2 := by
  unfold offerOpen
  split
  · next hadmits =>
    have stage : s.gas.stage = .claim := by
      simp only [State.admits, Bool.and_eq_true, beq_iff_eq] at hadmits
      exact hadmits.1.2
    have work := h.working_of_gassing (by simp [stage])
    have phase := h.gassing (by simp [stage, gassingStage])
    have undriven : s.draw.self ≠ some .driven := fun d => by simp [h.driven.2 d] at stage
    have replanned (a : PlanAnswer) : PocketLaw (returnToPlan (noteNoDrive a s)) := by
      refine (work.gassed (gassed_gassing (.inl ?_) ?_ ?_) ?_).pocketLaw <;>
        simp [returnToPlan, setStage, phase, undriven]
    split
    · exact h.of_same (by simp)
    · exact replanned _
  · exact h.of_same (by simp)

theorem pocketLaw_offerSlots (l : List SlotKind) {s : State} (h : PocketLaw s) : PocketLaw (offerSlots l s) := by
  induction l generalizing s with
  | nil => exact h
  | cons k rest ih =>
    have opened := pocketLaw_offerOpen h
    have begun {u : State} (g : PocketLaw u) : PocketLaw (beginAttempt k u) := g.of_same (by simp)
    unfold offerSlots
    (repeat' split)
    · next u hu => exact begun (by simpa [hu] using opened)
    · next u hu => exact ih (by simpa [hu] using opened)
    · exact begun h
    · exact ih h

theorem pocketLaw_countDrawTable {s : State} (h : PocketLaw s) : PocketLaw (countDrawTable s) := by
  have counted : PocketLaw { s with draw := countDraw s.draw } := by
    refine h.of_same (by
      cases hd : s.draw.self with
      | none => simp [countDraw, hd]
      | some e => cases e <;> simp [countDraw, countSelf, hd])
  unfold countDrawTable
  dsimp only
  split
  · exact counted.of_same (by simp)
  · exact counted

/-! ## Received frames -/

theorem pocketLaw_badFrame {s : State} (h : PocketLaw s) : PocketLaw (badFrame (endReception s)) :=
  h.of_reports (cellsStay_badFrame s) (by simp [badFrame])

theorem pocketLaw_receive {k sender target zone good} {act : State → State} {s : State} (hs : PocketLaw s)
    (h : ∀ u, PocketLaw u → u.dispatches k target zone = true → PocketLaw (act u)) :
    PocketLaw (receive k sender target zone good act s) := by
  refine receive_cases (pocketLaw_badFrame hs) (fun u hu => ?_)
  have heard : PocketLaw u := hu ▸ hs.of_same (by simp)
  have tested {u : State} (g : PocketLaw u) : PocketLaw (retest u) := g.of_same (by simp)
  exact ⟨tested heard, tested (pocketLaw_reportF heard), fun _ hd _ _ => tested (h u heard hd)⟩

theorem pocketLaw_takeLoad (offset : Byte) (data : List Byte) {s : State} (h : PocketLaw s) :
    PocketLaw (takeLoad offset data s) := by
  have written {u : State} (g : PocketLaw u) :
      PocketLaw { u with recipe := writeBytes offset.toNat data u.recipe } := g.of_same (by simp)
  unfold takeLoad
  dsimp only
  split
  · exact written h
  · next hs =>
    have moved : PocketLaw (moveTo .loading s) := pocketLaw_moveTo h (h.working (by simp [hs])) (by simp)
    exact written (moved.of_same (by simp [newImage]))
  · exact h

theorem pocketLaw_leaveLoading {s : State} (h : PocketLaw s) (hs : s.cycle.station = .loading) :
    PocketLaw (leaveLoading s) := by
  have phase := h.working (by simp [hs])
  unfold leaveLoading
  dsimp only
  split
  · have faulted : PocketLaw (enterFaulted s) := by
      refine (resting_enterFaulted h.abandonable).pocketLaw
        (StuckFits.of_same h.stuck ⟨by simp, by simp, enterFaulted_window ?_⟩ (cellsStay_enterFaulted s))
      simp [(h.resting_of_returning phase).stage]
    split
    · exact faulted.of_same (by simp)
    · exact faulted
  · next sound => exact pocketLaw_moveTo h phase (.inr (.inr (by simpa [State.anyF] using sound)))

theorem pocketLaw_takeLoadEnd (length : Half) {s : State} (h : PocketLaw s) : PocketLaw (takeLoadEnd length s) := by
  unfold takeLoadEnd
  dsimp only
  split
  · next hs =>
    split
    · exact h.of_same (by simp)
    · exact pocketLaw_leaveLoading (h.of_same (by simp)) (by simpa using hs)
  · exact h.of_same (by simp)
  · exact h

theorem pocketLaw_takeStart {s : State} (h : PocketLaw s) : PocketLaw (takeStart s) := by
  have run (hs : s.cycle.station = .ready ∨ s.cycle.station = .standby) : PocketLaw (enterRun s) := by
    have sound := h.faults.sound (by rcases hs with hs | hs <;> simp [hs]) (by rcases hs with hs | hs <;> simp [hs])
    have phase := h.working (by rcases hs with hs | hs <;> simp [hs])
    exact pocketLaw_moveTo (h.of_same (by simp [phase])) rfl (.inr (.inr sound))
  unfold takeStart
  (repeat' split)
  · next hs => exact run (.inl hs)
  · next hs _ => exact run (.inr hs)
  · exact h.of_same (by simp)
  · exact h.of_same (by simp)
  · exact h
  · exact h

theorem pocketLaw_takeStop {s : State} (h : PocketLaw s) : PocketLaw (takeStop s) := by
  unfold takeStop
  split
  · next hs =>
    have sound := h.faults.sound (by simp [hs]) (by simp [hs])
    split
    · next hp =>
      have rest := h.resting (h.contextOpen.2 hp)
      have ended : Resting { endGrant s with cycle := { (endGrant s).cycle with phase := .returning } } :=
        rest.in_run hs (by simp [rest.empty])
      exact (resting_moveTo ended rfl (.inr (.inr sound))).calmLaw (by simpa using h.calm sound)
    · exact h.of_same (by simp)
  · next hs =>
    exact pocketLaw_moveTo h (h.working (by simp [hs])) (.inr (.inr (h.faults.sound (by simp [hs]) (by simp [hs]))))
  · exact h

/-! ## CLEAR -/

theorem isLatched_clearCell (c k : Cell) (l : BitVec 10) :
    isLatched k (clearCell c l) = (isLatched k l && !decide (k = c)) := by
  have bit : decide (cellNumber c = cellNumber k) = decide (k = c) := by
    by_cases h : k = c
    · simp [h]
    · have hne : ¬ cellNumber c = cellNumber k := fun e => h (cellNumber_inj e).symm
      simp [h, hne]
  simp only [isLatched, clearCell, BitVec.getLsbD_and, BitVec.getLsbD_not, BitVec.getLsbD_twoPow, cellNumber_lt,
    decide_true, Bool.true_and, bit]

/-- Whether a CLEAR that names `cells` clears the cell in this state (R191). -/
def State.clears (s : State) (cells : Half) (k : Cell) : Bool := cells.getLsbD (cellNumber k) && !s.causeHolds k

theorem causeHolds_clearOne (cells : Half) (s : State) (c k : Cell) :
    (clearOne cells s c).causeHolds k = s.causeHolds k := by
  cases k <;> simp [State.causeHolds]

theorem latched_clearOne (cells : Half) (s : State) (c k : Cell) :
    (clearOne cells s c).latched k = (s.latched k && !(decide (k = c) && s.clears cells k)) := by
  unfold clearOne State.clears
  split
  · next h =>
    simp only [State.latched, isLatched_clearCell]
    by_cases hk : k = c
    · subst hk
      simp [h]
    · simp [hk]
  · next h =>
    by_cases hk : k = c
    · subst hk
      simp [h]
    · simp [hk]

/-- After the cells of a CLEAR have been taken a cell is latched just when it was and the CLEAR does not clear it. -/
theorem latched_clearCells (cells : Half) (l : List Cell) (s : State) (k : Cell) :
    (l.foldl (clearOne cells) s).latched k = (s.latched k && !(decide (k ∈ l) && s.clears cells k)) := by
  induction l generalizing s with
  | nil => simp
  | cons c rest ih =>
    have clears : (clearOne cells s c).clears cells k = s.clears cells k := by
      simp only [State.clears, causeHolds_clearOne]
    rw [List.foldl_cons, ih, latched_clearOne, clears]
    by_cases hk : k = c <;> by_cases hm : k ∈ rest <;> cases s.latched k <;> cases s.clears cells k <;> simp [hk, hm]

theorem mem_allCells (k : Cell) : k ∈ allCells := by cases k <;> decide

theorem pocketLaw_takeClear (cells : Half) {s : State} (h : PocketLaw s) : PocketLaw (takeClear cells s) := by
  have any (he : anyClassF (placeStatus (formAlert (allCells.foldl (clearOne cells) s))).fault.latched = true) :
      anyClassF s.fault.latched = true := clearCells_anyF allCells (by simpa using he)
  have cleared : PocketLaw (placeStatus (formAlert (allCells.foldl (clearOne cells) s))) := by
    rcases h.cases with g | g
    · refine Working.pocketLaw ⟨by simpa using g.run, ?_, by simpa using g.opened, by simpa using g.phase,
        g.fits.of_same (by simp), by simpa using g.calm⟩
      rw [← Bool.not_eq_true]
      intro he
      have before := any he
      rw [g.sound] at before
      cases before
    · refine Resting.pocketLaw ⟨fun he => by simpa using g.faults (any he), by simpa using g.phase,
        by simpa using g.empty, by simpa using g.stage, by simpa using g.crimp, by simpa using g.undriven⟩ ?_
      intro episode
      obtain ⟨fb, latched, window⟩ := h.stuck (by simpa using episode)
      refine ⟨by simpa using fb, ?_, by simpa using window⟩
      have kept : s.clears cells .valveStuck = false := by simp [State.clears, State.causeHolds, fb]
      have stays : (allCells.foldl (clearOne cells) s).latched .valveStuck = true := by
        rw [latched_clearCells, kept, latched]
        simp
      simpa [State.latched] using stays
  unfold takeClear
  dsimp only
  split
  · next hf =>
    obtain ⟨hs, sound⟩ := hf
    exact pocketLaw_moveTo cleared (cleared.working (by rw [hs]; simp)) (.inr (.inr sound))
  · exact cleared

/-! ## Every command and every step -/

theorem pocketLaw_effect_reset (straps : StationNo) (s : State) : PocketLaw (effect (.reset straps) s) := by
  let fresh : State :=
    { State.reset with
      pending := s.pending, freeCount := s.freeCount, gasFb := s.gasFb
      line := { State.reset.line with station := straps } }
  have started : PocketLaw fresh :=
    ((pocketLaw_reset.resting rfl).of_same (t := fresh) ⟨rfl, rfl, rfl, rfl, rfl, rfl, id⟩).calmLaw rfl
  rw [effect_reset]
  show PocketLaw (if s.gasFb then findStuckValve fresh else fresh)
  split
  · next hfb => exact pocketLaw_findStuckValve started hfb rfl (by simp [fresh, State.reset])
  · exact started

theorem pocketLaw_effect (c : Instr) {s : State} (h : PocketLaw s) : PocketLaw (effect c s) := by
  cases c with
  | reset straps => exact pocketLaw_effect_reset straps s
  | mkInfeed b => exact pocketLaw_mkInfeed b h
  | mkGasopen => rw [effect_mkGasopen]; split; exacts [pocketLaw_takeGasOpen h, h]
  | mkGasclose => rw [effect_mkGasclose]; split; exacts [pocketLaw_takeGasClose h, h]
  | mkDischarge =>
    rw [effect_mkDischarge]
    split
    · next hs => exact pocketLaw_parkTest (pocketLaw_takeDischarge h hs)
    · exact h
  | crimpSample f d => exact pocketLaw_takeCrimpSample _ _ h
  | tSeatExpiry =>
    rw [effect_tSeatExpiry]
    split
    · next hx => exact ((h.working_of_crimpExpires hx (by simp)).of_same (by simp)).pocketLaw
    · exact h
  | tFormExpiry =>
    rw [effect_tFormExpiry]
    split
    · next hx => exact ((h.working_of_crimpExpires hx (by simp)).of_same (by simp)).pocketLaw
    · exact h
  | tDwellExpiry =>
    rw [effect_tDwellExpiry]
    split
    · next hx => exact ((h.working_of_crimpExpires hx (by simp)).of_same (by simp)).pocketLaw
    · exact h
  | tRelExpiry =>
    rw [effect_tRelExpiry]
    split
    · next hx =>
      exact pocketLaw_reportF ((h.working_of_crimpExpires hx (by simp)).of_same (by simp)).pocketLaw
    · exact h
  | sensorTransactionEnd ch r => exact pocketLaw_endTransaction ch r h
  | zeroingTimerExpiry =>
    rw [effect_zeroingTimerExpiry]
    split
    · refine pocketLaw_parkTest (h.of_reports (cellsStay_endZeroing s) ?_)
      unfold endZeroing
      split <;> simp
    · exact h
  | zeroingTest => rw [effect_zeroingTest]; (repeat' split) <;> exact h.of_same (by simp)
  | grantVentWaitExpiry => rw [effect_grantVentWaitExpiry]; split <;> exact h.of_same (by simp)
  | silenceLimit =>
    rw [effect_silenceLimit]
    split
    · exact pocketLaw_parkTest (h.of_same (by simp))
    · exact h
  | loadingStatusTimer => rw [effect_loadingStatusTimer]; split <;> exact h.of_same (by simp)
  | feedbackWindowLapse => rw [effect_feedbackWindowLapse]; split <;> exact h.of_same (by simp)
  | gasFbOpens => exact pocketLaw_gasFbOpens h
  | gasFbCloses => rw [effect_gasFbCloses]; exact pocketLaw_parkTest (pocketLaw_takeValveClosed h)
  | closeWindowExpiry =>
    rw [effect_closeWindowExpiry]
    split
    · exact pocketLaw_endCloseWindow h
    · exact h
  | settleTimerExpiry =>
    rw [effect_settleTimerExpiry]
    split
    · next hx => exact pocketLaw_enterPlan h hx.1
    · exact h
  | checkTimerExpiry =>
    rw [effect_checkTimerExpiry]
    split
    · next hx => exact pocketLaw_judgeSeal h hx.1
    · exact h
  | lineIdle =>
    have idle : PocketLaw { s with line := { s.line with condition := .idle } } := h.of_same (by simp)
    rw [effect_lineIdle]
    dsimp only
    (repeat' split)
    · exact pocketLaw_offerSlots _ idle
    · exact idle
    · exact h
  | arbitrationLoss claim =>
    rw [effect_arbitrationLoss]
    (repeat' split)
    · exact pocketLaw_parkTest (h.of_same (by simp))
    · exact h
    · exact h
  | bitError =>
    rw [effect_bitError]
    dsimp only
    (repeat' split)
    · exact pocketLaw_parkTest (h.of_same (by simp))
    · exact pocketLaw_parkTest (h.of_same (by simp))
    · exact h
    · exact h
  | frameCompletion =>
    rw [effect_frameCompletion]
    (repeat' split)
    · exact pocketLaw_parkTest (pocketLaw_ownerCompleted _ _ (h.of_same (by simp)))
    · exact h
    · exact h
  | badFrame => exact pocketLaw_badFrame h
  | lineStuck => rw [effect_lineStuck]; split <;> exact h.of_same (by simp)
  | stuckTimeout =>
    rw [effect_stuckTimeout]
    split
    · exact pocketLaw_reportF (h.of_same (by simp))
    · exact h
  | stuckEnd => rw [effect_stuckEnd]; split <;> exact h.of_same (by simp)
  | startBit => rw [effect_startBit]; split <;> exact h.of_same (by simp)
  | abortMarkEnd =>
    rw [effect_abortMarkEnd]
    have released : PocketLaw (releaseLine s) := h.of_same (by simp [releaseLine])
    (repeat' split)
    · exact h
    · exact h
    · exact pocketLaw_parkTest (released.of_same (by simp))
    · exact pocketLaw_parkTest (pocketLaw_fourthFailure _ released)
    · exact h
  | receivedOpen => rw [effect_receivedOpen]; exact pocketLaw_receive h (fun _ g _ => g.of_same (by simp))
  | receivedShut => rw [effect_receivedShut]; exact pocketLaw_receive h (fun _ g _ => g.of_same (by simp))
  | receivedFault => rw [effect_receivedFault]; exact pocketLaw_receive h (fun _ g _ => g.of_same (by simp))
  | receivedStatus => rw [effect_receivedStatus]; exact pocketLaw_receive h (fun _ g _ => g.of_same (by simp))
  | receivedHold =>
    rw [effect_receivedHold]
    refine pocketLaw_receive h (fun _ g _ => ?_)
    split <;> exact g.of_same (by simp)
  | receivedResult => rw [effect_receivedResult]; exact pocketLaw_receive h (fun _ g _ => g)
  | unknownKindFrame => rw [effect_unknownKindFrame]; exact pocketLaw_receive h (fun _ g _ => g)
  | load => rw [effect_load]; exact pocketLaw_receive h (fun _ g _ => pocketLaw_takeLoad _ _ g)
  | loadEnd => rw [effect_loadEnd]; exact pocketLaw_receive h (fun _ g _ => pocketLaw_takeLoadEnd _ g)
  | start => rw [effect_start]; exact pocketLaw_receive h (fun _ g _ => pocketLaw_takeStart g)
  | stop => rw [effect_stop]; exact pocketLaw_receive h (fun _ g _ => pocketLaw_takeStop g)
  | clear => rw [effect_clear]; exact pocketLaw_receive h (fun _ g _ => pocketLaw_takeClear _ g)
  | drawCountdown =>
    rw [effect_drawCountdown]
    split
    · exact h
    · exact pocketLaw_countDrawTable h
  | holdCountdown =>
    rw [effect_holdCountdown]
    split
    · exact h
    · exact pocketLaw_parkTest (h.of_same (by simp))
  | holdResend => rw [effect_holdResend]; split <;> exact h.of_same (by simp)

theorem pocketLaw_tick {s : State} (h : PocketLaw s) : PocketLaw (tick s) := h.of_same (by simp)

/-- Settles O58: the head rests or works a pocket, and every command takes it from one to the other. -/
theorem pocketAndValveStayTogether : Obligations.PocketAndValveStayTogether := by
  unfold Obligations.PocketAndValveStayTogether
  intro s t h hs
  exact step_keeps (P := PocketLaw) (fun u q g => g.of_same (t := { u with pending := q }) (by simp))
    (fun _ g => pocketLaw_tick g) (fun c _ g => pocketLaw_effect c g) h hs

end Sys2Proof.Machine
end

section
/-!
PROOFS. Which commands change a unit (O54): the straps, the clock, the counter, the Recipe Store, the channels, the
pin, the cells, the phantoms, GAS and the SELF entry.
-/

namespace Sys2Proof.Machine

@[simp] theorem releaseLine_keeps (s : State) :
    (releaseLine s).clock = s.clock ∧ (releaseLine s).gasFb = s.gasFb ∧ (releaseLine s).cycle = s.cycle
      ∧ (releaseLine s).sensor = s.sensor ∧ (releaseLine s).gas = s.gas ∧ (releaseLine s).draw = s.draw
      ∧ (releaseLine s).recipe = s.recipe ∧ (releaseLine s).fault = s.fault
      ∧ (releaseLine s).line.station = s.line.station :=
  ⟨rfl, rfl, rfl, rfl, rfl, rfl, rfl, rfl, rfl⟩

/-! ## A received frame and what it reads apart -/

/-- What the reception of a frame leaves alone, and the action of its kind too, stays over the frame. -/
theorem receive_of_kept {α : Type} (f : State → α) {k sender target zone good} {act : State → State} (s : State)
    (hbad : f (badFrame (endReception s)) = f s)
    (hgood : f { endGoodReception s with line := { (endGoodReception s).line with badCount := 0 } } = f s)
    (hretest : ∀ u, f (retest u) = f u) (hdup : ∀ u, f (reportF .duplicate u) = f u)
    (hact : ∀ u, u.cycle.station = s.cycle.station → u.dispatches k target zone = true → f (act u) = f u) :
    f (receive k sender target zone good act s) = f s := by
  refine receive_cases (P := fun t => f t = f s) hbad (fun u hu => ?_)
  have station : u.cycle.station = s.cycle.station := by rw [hu]; simp
  have heard : f u = f s := by rw [hu]; exact hgood
  exact ⟨(hretest _).trans heard, (hretest _).trans ((hdup _).trans heard),
    fun _ hd _ _ => (hretest _).trans ((hact _ station hd).trans heard)⟩

/-- The units no received frame changes. -/
def State.unframed (s : State) : StationNo × Nat × Option Nat × Half × Nat × ChannelState × ChannelState ×
    Option Transaction × Bool :=
  (s.line.station, s.clock, s.sensor.lastPair, s.cycle.counter, s.sensor.zeroOffset, s.sensor.header,
    s.sensor.bell, s.sensor.transaction, s.gasFb)

theorem receive_unframed {k sender target zone good} {act : State → State} (s : State)
    (hact : ∀ u, (act u).unframed = u.unframed) :
    (receive k sender target zone good act s).unframed = s.unframed :=
  receive_of_kept State.unframed s (by simp [State.unframed]) (by simp [State.unframed])
    (by simp [State.unframed]) (by simp [State.unframed]) (fun u _ _ => hact u)

theorem unframed_eq {s t : State} (h : t.unframed = s.unframed) :
    t.line.station = s.line.station ∧ t.clock = s.clock ∧ t.sensor.lastPair = s.sensor.lastPair
      ∧ t.cycle.counter = s.cycle.counter ∧ t.sensor.zeroOffset = s.sensor.zeroOffset
      ∧ t.sensor.header = s.sensor.header ∧ t.sensor.bell = s.sensor.bell
      ∧ t.sensor.transaction = s.sensor.transaction ∧ t.gasFb = s.gasFb := by
  simpa [State.unframed] using h

/-- The straps, the clock and the scan's last pair stay; counter, zero offset, channels and pin change at their own
commands alone. -/
theorem effect_units {c : Instr} (s : State) (hr : ∀ straps, c ≠ .reset straps) :
    (effect c s).line.station = s.line.station ∧ (effect c s).clock = s.clock
      ∧ (effect c s).sensor.lastPair = s.sensor.lastPair
      ∧ ((∀ b, c ≠ .mkInfeed b) → (effect c s).cycle.counter = s.cycle.counter)
      ∧ (c ≠ .zeroingTimerExpiry → (effect c s).sensor.zeroOffset = s.sensor.zeroOffset)
      ∧ ((∀ h r, c ≠ .sensorTransactionEnd h r) → (effect c s).sensor.header = s.sensor.header
        ∧ (effect c s).sensor.bell = s.sensor.bell ∧ (effect c s).sensor.transaction = s.sensor.transaction)
      ∧ (c ≠ .gasFbOpens → c ≠ .gasFbCloses → (effect c s).gasFb = s.gasFb) := by
  have framed {t : State} (h : t.unframed = s.unframed) :
      t.line.station = s.line.station ∧ t.clock = s.clock ∧ t.sensor.lastPair = s.sensor.lastPair
        ∧ ((∀ b, c ≠ .mkInfeed b) → t.cycle.counter = s.cycle.counter)
        ∧ (c ≠ .zeroingTimerExpiry → t.sensor.zeroOffset = s.sensor.zeroOffset)
        ∧ ((∀ h r, c ≠ .sensorTransactionEnd h r) → t.sensor.header = s.sensor.header
          ∧ t.sensor.bell = s.sensor.bell ∧ t.sensor.transaction = s.sensor.transaction)
        ∧ (c ≠ .gasFbOpens → c ≠ .gasFbCloses → t.gasFb = s.gasFb) := by
    obtain ⟨h1, h2, h3, h4, h5, h6, h7, h8, h9⟩ := unframed_eq h
    exact ⟨h1, h2, h3, fun _ => h4, fun _ => h5, fun _ => ⟨h6, h7, h8⟩, fun _ _ => h9⟩
  cases c with
  | reset straps => exact absurd rfl (hr straps)
  | receivedOpen => exact framed (receive_unframed s fun _ => by simp [State.unframed])
  | receivedShut => exact framed (receive_unframed s fun _ => by simp [State.unframed])
  | receivedFault => exact framed (receive_unframed s fun _ => by simp [State.unframed])
  | receivedStatus => exact framed (receive_unframed s fun _ => by simp [State.unframed])
  | receivedHold => exact framed (receive_unframed s fun _ => by split <;> simp [State.unframed])
  | receivedResult => exact framed (receive_unframed s fun _ => rfl)
  | unknownKindFrame => exact framed (receive_unframed s fun _ => rfl)
  | load => exact framed (receive_unframed s fun _ => by simp [State.unframed])
  | loadEnd => exact framed (receive_unframed s fun _ => by simp [State.unframed])
  | start => exact framed (receive_unframed s fun _ => by simp [State.unframed])
  | stop => exact framed (receive_unframed s fun _ => by simp [State.unframed])
  | clear => exact framed (receive_unframed s fun _ => by simp [State.unframed])
  | _ => simp <;> (repeat' split) <;> simp

/-- The Recipe Store and the enables. -/
def State.store (s : State) : RecipeUnit × BitVec 4 := (s.recipe, s.fault.enables)

theorem store_eq {s t : State} (h : t.store = s.store) :
    t.recipe = s.recipe ∧ t.fault.enables = s.fault.enables := by
  simpa [State.store] using h

theorem receive_store {k sender target zone good} {act : State → State} (s : State)
    (hact : ∀ u, u.cycle.station = s.cycle.station → u.dispatches k target zone = true → (act u).store = u.store) :
    (receive k sender target zone good act s).store = s.store :=
  receive_of_kept State.store s (by simp [State.store]) (by simp [State.store])
    (by simp [State.store]) (by simp [State.store]) hact

/-- The Recipe Store and the enables change at LOAD and LOAD_END alone, and then in LOADING and READY alone. -/
theorem effect_store {c : Instr} (s : State) (hr : ∀ straps, c ≠ .reset straps)
    (hc : (∀ a b o d, c ≠ .load a b o d) ∧ (∀ a b n, c ≠ .loadEnd a b n)
      ∨ s.cycle.station ≠ .loading ∧ s.cycle.station ≠ .ready) : (effect c s).store = s.store := by
  have elsewhere {k : FrameKind} {target : StationNo} {zone : Option Byte} {u : State}
      (hk : k = .load ∨ k = .loadEnd) (hs : s.cycle.station ≠ .loading ∧ s.cycle.station ≠ .ready)
      (hu : u.cycle.station = s.cycle.station) (hd : u.dispatches k target zone = true) : False := by
    have heard := admitted_of_dispatches hd
    rw [hu] at heard
    rcases hk with rfl | rfl <;> cases h : s.cycle.station <;> simp_all [admitted]
  cases c with
  | reset straps => exact absurd rfl (hr straps)
  | load a b o d =>
    have hs := hc.resolve_left (fun h => h.1 a b o d rfl)
    exact receive_store s fun _ hu hd => (elsewhere (.inl rfl) hs hu hd).elim
  | loadEnd a b n =>
    have hs := hc.resolve_left (fun h => h.2 a b n rfl)
    exact receive_store s fun _ hu hd => (elsewhere (.inr rfl) hs hu hd).elim
  | receivedOpen => exact receive_store s fun _ _ _ => by simp [State.store]
  | receivedShut => exact receive_store s fun _ _ _ => by simp [State.store]
  | receivedFault => exact receive_store s fun _ _ _ => by simp [State.store]
  | receivedStatus => exact receive_store s fun _ _ _ => by simp [State.store]
  | receivedHold => exact receive_store s fun _ _ _ => by split <;> simp [State.store]
  | receivedResult => exact receive_store s fun _ _ _ => rfl
  | unknownKindFrame => exact receive_store s fun _ _ _ => rfl
  | start => exact receive_store s fun _ _ _ => by simp [State.store]
  | stop => exact receive_store s fun _ _ _ => by simp [State.store]
  | clear => exact receive_store s fun _ _ _ => by simp [State.store]
  | _ => simp [State.store] <;> (repeat' split) <;> simp

end Sys2Proof.Machine
end

section
/-!
PROOFS. GAS, the driven SELF entry and the phantoms (O54): one relation that every operation meets but the start of a
pulse, a new image and the countdown of the draw table.
-/

namespace Sys2Proof.Machine

/-- GAS stays off, no SELF entry becomes driven, and no phantom goes. -/
structure DrawKept (s t : State) : Prop where
  off : s.gas.stage ≠ .pulse → t.gas.stage ≠ .pulse
  undriven : s.draw.self ≠ some .driven → t.draw.self ≠ some .driven
  phantoms : phantomCount s.draw.phantoms ≤ phantomCount t.draw.phantoms

theorem DrawKept.refl (s : State) : DrawKept s s := ⟨id, id, le_rfl⟩

theorem DrawKept.trans {s t u : State} (h : DrawKept s t) (g : DrawKept t u) : DrawKept s u :=
  ⟨g.off ∘ h.off, g.undriven ∘ h.undriven, h.phantoms.trans g.phantoms⟩

/-- An operation that leaves the three, but for a SELF entry it may take away or leave undriven. -/
theorem DrawKept.of_same {s t : State}
    (h : t.gas.stage = s.gas.stage ∧ (t.draw.self = some .driven → s.draw.self = some .driven)
      ∧ t.draw.phantoms = s.draw.phantoms) : DrawKept s t := by
  obtain ⟨hs, hd, hp⟩ := h
  exact ⟨by simp [hs], fun g d => g (hd d), by rw [hp]⟩

/-- As `of_same`, for an operation that sets the sequencer's stage. -/
theorem DrawKept.of_stage {s t : State} (hs : t.gas.stage ≠ .pulse)
    (h : (t.draw.self = some .driven → s.draw.self = some .driven) ∧ t.draw.phantoms = s.draw.phantoms) :
    DrawKept s t := by
  obtain ⟨hd, hp⟩ := h
  exact ⟨fun _ => hs, fun g d => g (hd d), by rw [hp]⟩

/-! ## The Gas Sequencer -/

theorem drawKept_doseComplete (s : State) : DrawKept s (doseComplete s) := by
  unfold doseComplete
  split
  · exact .of_stage (by simp) (by simp)
  · exact .of_stage (by simp) (by simp)

theorem drawKept_actOnAnswer (a : PlanAnswer) (s : State) : DrawKept s (actOnAnswer a s) := by
  unfold actOnAnswer
  (repeat' split)
  · exact .of_same (by simp)
  · exact .of_stage (by simp) (by simp)
  · exact .of_same (by simp)
  · exact .of_same (by simp)
  · exact .of_same (by simp)

theorem drawKept_decideInPlan (s : State) : DrawKept s (decideInPlan s) := by
  unfold decideInPlan
  dsimp only
  (repeat' split)
  · exact drawKept_doseComplete s
  · exact .of_stage (by simp) (by simp)
  · exact .trans (t := noteNoDrive s.planAnswer s) (.of_same (by simp)) (drawKept_actOnAnswer _ _)

theorem drawKept_enterPlan (s : State) : DrawKept s (enterPlan s) :=
  .trans (.of_stage (t := { s with gas := { s.gas with stage := .plan, settleTimer := none } }) (by simp) (by simp))
    (drawKept_decideInPlan _)

theorem drawKept_startSettle (s : State) : DrawKept s (startSettle s) := by
  unfold startSettle
  (repeat' split)
  · exact drawKept_enterPlan s
  · exact .of_same (by simp)
  · exact .refl s

theorem drawKept_valveClosed (s : State) : DrawKept s (valveClosed s) :=
  .trans (.of_same (t := reportClosed { s with gas := { s.gas with closeWindow := none } }) (by simp))
    (drawKept_startSettle _)

theorem drawKept_closeIfShut (s : State) : DrawKept s (closeIfShut s) := by
  unfold closeIfShut
  split
  · exact .refl s
  · exact drawKept_valveClosed s

theorem drawKept_deadPulse (s : State) : DrawKept s (deadPulse s) := by
  unfold deadPulse
  dsimp only
  split <;> exact .trans (.of_stage (by simp) (by simp)) (drawKept_closeIfShut _)

theorem drawKept_judgePulse (s : State) : DrawKept s (judgePulse s) := by
  unfold judgePulse
  split
  · exact drawKept_deadPulse s
  · exact .trans (.of_stage (by simp) (by simp)) (drawKept_closeIfShut _)

theorem drawKept_stopStage (s : State) : DrawKept s (stopStage s) := by
  unfold stopStage
  split <;> exact .of_same (by simp)

theorem drawKept_closeAfter (b : GasStage) (s : State) : DrawKept s (closeAfter b s) := by
  unfold closeAfter
  split
  · exact drawKept_closeIfShut s
  · exact .refl s

theorem drawKept_abandonGas (s : State) : DrawKept s (abandonGas s) := by
  unfold abandonGas
  dsimp only
  split
  · exact .refl s
  · exact (drawKept_stopStage s).trans (.trans (.of_stage (by simp) (by simp)) (drawKept_closeAfter _ _))

theorem drawKept_enterGas (s : State) : DrawKept s (enterGas s) := by
  have entered (u : State) : DrawKept u (startGas u) :=
    (drawKept_abandonGas u).trans (.trans (.of_same (by simp)) (drawKept_enterPlan _))
  exact .trans (.of_same (by simp)) (entered _)

theorem drawKept_cutWindow (s : State) : DrawKept s (cutWindow s) := by
  unfold cutWindow
  split
  · exact .of_stage (by simp) (by simp)
  · exact .of_stage (by simp) (by simp)
  · exact .trans (.of_stage (by simp) (by simp)) (drawKept_closeIfShut _)
  · exact .of_stage (by simp) (by simp)
  · exact .refl s

theorem drawKept_cutCheck (s : State) : DrawKept s (cutCheck s) := by
  unfold cutCheck
  split
  · exact .of_stage (by simp) (by simp)
  · exact .refl s

theorem drawKept_loseSensor (s : State) : DrawKept s (loseSensor s) :=
  (drawKept_stopStage s).trans
    (.trans (.of_stage (t := enterEnded (addReason .sensorLost (stopStage s))) (by simp) (by simp))
      (drawKept_closeAfter _ _))

theorem drawKept_gasTakesSample (s : State) : DrawKept s (gasTakesSample s) := by
  unfold gasTakesSample
  dsimp only
  split
  · split
    · exact drawKept_decideInPlan s
    · exact drawKept_loseSensor s
  · have noted : DrawKept s (noteHold s) := .of_same (by simp)
    split
    · exact noted
    · exact noted.trans (drawKept_loseSensor _)
  · (repeat' split)
    · exact drawKept_judgePulse s
    · exact .refl s
    · exact drawKept_loseSensor s
  · split
    · exact .refl s
    · exact drawKept_loseSensor s
  · split
    · exact .refl s
    · exact drawKept_loseSensor s
  · exact .refl s

/-! ## The station -/

theorem drawKept_moveTo {a : Station} (ha : a ≠ .loading) (s : State) : DrawKept s (moveTo a s) := by
  obtain ⟨_, hp⟩ := moveTo_draw ha s
  exact ⟨by simp, moveTo_driven a s, by rw [hp]⟩

theorem drawKept_parkTest (s : State) : DrawKept s (parkTest s) := by
  unfold parkTest
  split
  · exact drawKept_moveTo (by simp) s
  · exact .refl s

theorem drawKept_abandoned (r : Reason) (s : State) :
    DrawKept s (closeContext (addReason r (abandonGas (abandonCrimp s)))) :=
  .trans (.of_same (t := abandonCrimp s) (by simp)) ((drawKept_abandonGas _).trans (.of_same (by simp)))

theorem drawKept_enterFaulted (s : State) : DrawKept s (enterFaulted s) := by
  have abandoned (u : State) : DrawKept u (abandonContext u) := by
    unfold abandonContext
    split
    · exact drawKept_abandoned _ u
    · exact .refl u
  exact (drawKept_moveTo (a := .faulted) (by simp) s).trans ((abandoned _).trans (.of_same (by simp [enterFaulted])))

theorem drawKept_reportF (c : Cell) (s : State) : DrawKept s (reportF c s) := by
  unfold reportF
  dsimp only
  (repeat' split)
  · exact .of_same (by simp)
  · exact .refl s
  · exact .trans (.of_same (t := placeFault c (retestIfDead c (latch c s))) (by simp))
      ((drawKept_enterFaulted _).trans (.of_same (by simp)))
  · exact .of_same (by simp)

theorem drawKept_findStuckValve (s : State) : DrawKept s (findStuckValve s) := by
  have taken : DrawKept s (drawTakesStuck { s with gas := { s.gas with stuckEpisode := true } }) :=
    .of_same ⟨by simp, fun d => absurd d (drawTakesStuck_undriven _), by simp⟩
  unfold findStuckValve
  split
  · exact .refl s
  · exact taken.trans (drawKept_reportF _ _)

/-! ## The Cycle Controller and the crimp -/

theorem drawKept_completeStop (s : State) : DrawKept s (completeStop s) := by
  unfold completeStop
  split
  · exact .trans (.of_same (by simp)) (drawKept_moveTo (by simp) _)
  · exact .refl s

theorem drawKept_infeedOutOfOrder (b : Bool) (s : State) : DrawKept s (infeedOutOfOrder b s) := by
  have closed (u : State) : DrawKept u (closeOutOfOrder u) := by
    unfold closeOutOfOrder
    split
    · exact drawKept_abandoned _ u
    · exact .refl u
  have ended (u : State) : DrawKept u (endGrant { u with cycle := { u.cycle with phase := .returning } }) :=
    .of_same (by simp)
  have again (u : State) : DrawKept u (handleAgain b u) := .of_same (by simp)
  exact .trans (.of_same (t := measurePeriod (reportA .markOrder s)) (by simp))
    ((closed _).trans ((ended _).trans ((drawKept_completeStop _).trans (again _))))

theorem drawKept_wake (b : Bool) (s : State) : DrawKept s (wake b s) := by
  have started (u : State) :
      DrawKept u (startCycle b { u with cycle := { u.cycle with infeedRef := some u.clock } }) := .of_same (by simp)
  exact (drawKept_moveTo (a := .run) (by simp) s).trans (started _)

theorem drawKept_mkInfeed (b : Bool) (s : State) : DrawKept s (effect (.mkInfeed b) s) := by
  rw [effect_mkInfeed]
  (repeat' split)
  · exact .refl s
  · exact .refl s
  · exact .of_same (by simp)
  · exact .of_same (by simp)
  · exact drawKept_wake b s
  · exact .of_same (by simp)
  · exact drawKept_infeedOutOfOrder b s

theorem drawKept_takeGasOpen (s : State) : DrawKept s (takeGasOpen s) := by
  unfold takeGasOpen
  split
  · exact .of_same (by simp)
  · exact drawKept_enterGas s
  · exact .refl s

theorem drawKept_takeGasClose (s : State) : DrawKept s (takeGasClose s) := by
  unfold takeGasClose
  split
  · exact .of_same (by simp)
  · exact .of_same (by simp)
  · exact (drawKept_cutWindow s).trans (.of_same (by simp))
  · exact (drawKept_cutCheck s).trans (.of_same (by simp))
  · exact .refl s

theorem drawKept_discharge (s : State) : DrawKept s (discharge s) := by
  have closed : DrawKept s (setPhase .returning (closeContext (returnGas (returnCrimp s)))) :=
    .of_stage (by simp [setPhase]) (by simp [setPhase])
  unfold discharge
  dsimp only
  split
  · exact closed.trans (drawKept_completeStop _)
  · exact closed.trans (.of_same (by simp))

theorem drawKept_takeDischarge (s : State) : DrawKept s (takeDischarge s) := by
  have ends (u : State) : DrawKept u (reportA .markOrder (discharge (addReason .markError u))) :=
    .trans (.of_same (t := addReason .markError u) (by simp)) ((drawKept_discharge _).trans (.of_same (by simp)))
  unfold takeDischarge dischargeEarly
  dsimp only
  (repeat' split)
  · exact .refl s
  · exact .of_same (by simp)
  · exact drawKept_discharge s
  · exact (drawKept_takeGasClose s).trans (.trans (.of_same (by simp)) (ends _))
  · exact (drawKept_takeGasClose s).trans (ends _)

theorem drawKept_crimpVerdict (good : Bool) (s : State) : DrawKept s (crimpVerdict good s) := by
  unfold crimpVerdict
  (repeat' split)
  · exact drawKept_enterGas s
  · exact .of_same (by simp)
  · exact .of_same (by simp)
  · exact .of_same (by simp)
  · exact .refl s

theorem drawKept_takeCrimpSample (f d : Nat) (s : State) : DrawKept s (takeCrimpSample f d s) := by
  have done : DrawKept s (enterDone s) := by
    unfold enterDone
    dsimp only
    (repeat' split) <;> exact .trans (.of_same (by simp)) (drawKept_crimpVerdict _ _)
  unfold takeCrimpSample
  split
  · exact .refl s
  · exact .of_same (by split <;> simp)
  · exact .of_same (by simp)
  · exact .of_same (by simp)
  · split
    · exact done
    · exact .refl s
  · exact .refl s

/-! ## The Sensor Port and the valve -/

theorem drawKept_handSample (s : State) : DrawKept s (handSample s) := by
  let u := formDrive (noteClamped { s with sensor := { s.sensor with sample := formSample s.sensor } })
  have counted : DrawKept s (countSample u) := .of_same (by simp [u])
  show DrawKept s (watermarkTest (gasTakesSample (countSample u)))
  exact counted.trans ((drawKept_gasTakesSample _).trans (.of_same (by simp)))

theorem drawKept_reportHeaderLost (s : State) : DrawKept s (reportHeaderLost s) := by
  unfold reportHeaderLost
  split
  · exact .trans (t := { s with sensor := { s.sensor with headerLostDue := false } }) (.of_same (by simp))
      (drawKept_reportF _ _)
  · exact .refl s

theorem drawKept_endBellTransaction (r : SensorReply) (s : State) : DrawKept s (endBellTransaction r s) := by
  have handed : DrawKept s (reportHeaderLost (handSample (collectReading r
      (statusIfChanged s.sensor.bell.validity (channelAfter r s.sensor.bell).validity
        { s with sensor := { s.sensor with bell := channelAfter r s.sensor.bell } })))) :=
    .trans (.of_same (by simp)) ((drawKept_handSample _).trans (drawKept_reportHeaderLost _))
  unfold endBellTransaction
  dsimp only
  split
  · exact handed.trans (drawKept_reportF _ _)
  · exact handed

theorem drawKept_endTransaction (c : Channel) (r : SensorReply) (s : State) :
    DrawKept s (endTransaction c r s) := by
  unfold endTransaction
  dsimp only
  (repeat' split)
  · exact .refl s
  · exact .of_same (by simp)
  · exact .trans (.of_same (by simp)) ((drawKept_endBellTransaction _ _).trans (drawKept_parkTest _))
  · exact .refl s

theorem drawKept_gasFbOpens (s : State) : DrawKept s (effect .gasFbOpens s) := by
  rw [effect_gasFbOpens]
  dsimp only
  (repeat' split)
  · exact .of_same (by simp)
  · exact .of_same (by simp)
  · exact .trans (.of_same (by simp)) (drawKept_findStuckValve _)

theorem drawKept_gasFbCloses (s : State) : DrawKept s (effect .gasFbCloses s) := by
  rw [effect_gasFbCloses]
  refine .trans ?_ (drawKept_parkTest _)
  unfold takeValveClosed
  (repeat' split)
  · exact .trans (.of_same (by simp)) (drawKept_valveClosed _)
  · exact .of_same (by simp)
  · exact .of_same (by simp)

theorem drawKept_endCloseWindow (s : State) : DrawKept s (endCloseWindow s) := by
  unfold endCloseWindow
  dsimp only
  split
  · exact .trans (.of_same (by simp)) (drawKept_findStuckValve _)
  · exact .of_same (by simp)

/-! ## The line -/

theorem drawKept_offerOpen (s : State) : DrawKept s (offerOpen s).2 := by
  unfold offerOpen
  (repeat' split)
  · exact .of_same (by simp)
  · exact .of_stage (by simp [returnToPlan, setStage]) (by simp [returnToPlan, setStage])
  · exact .of_same (by simp)

theorem drawKept_offerSlots (l : List SlotKind) (s : State) : DrawKept s (offerSlots l s) := by
  induction l generalizing s with
  | nil => exact .refl s
  | cons k rest ih =>
    have opened := drawKept_offerOpen s
    have begun (u : State) : DrawKept u (beginAttempt k u) := .of_same (by simp)
    unfold offerSlots
    (repeat' split)
    · next u hu => exact .trans (by simpa [hu] using opened) (begun u)
    · next u hu => exact .trans (by simpa [hu] using opened) (ih u)
    · exact begun s
    · exact ih s

theorem drawKept_fourthFailure (k : SlotKind) (s : State) : DrawKept s (fourthFailure k s) :=
  .trans (.of_same (by simp)) (drawKept_reportF .lineDead _)

/-! ## Received frames -/

theorem phantomCount_reserve_le (n : Nat) (p : Phantoms) : phantomCount p ≤ phantomCount (reservePhantom n p) := by
  obtain ⟨a, b, c, d⟩ := p
  unfold reservePhantom
  (repeat' split) <;>
    cases a <;> cases b <;> cases c <;> cases d <;> simp_all [phantomCount, phantomList]

theorem drawKept_badFrame (s : State) : DrawKept s (badFrame (endReception s)) := by
  have reserved (u : State) : DrawKept u (phantomForBadFrame u) := by
    unfold phantomForBadFrame
    split
    · exact .refl u
    · exact ⟨id, id, phantomCount_reserve_le _ _⟩
  exact .trans (.of_same (t := countBad (endReception s)) (by simp)) ((reserved _).trans (.of_same (by simp [badFrame])))

theorem drawKept_receive {k sender target zone good} {act : State → State} (s : State)
    (h : ∀ u, DrawKept u (act u)) : DrawKept s (receive k sender target zone good act s) := by
  refine receive_cases (drawKept_badFrame s) (fun u hu => ?_)
  have heard : DrawKept s u := hu ▸ .of_same (by simp)
  have tested (u : State) : DrawKept u (retest u) := .of_same (by simp)
  exact ⟨heard.trans (tested u), heard.trans ((drawKept_reportF _ u).trans (tested _)),
    fun _ _ _ _ => heard.trans ((h u).trans (tested _))⟩

theorem drawKept_takeLoadEnd (length : Half) (s : State) : DrawKept s (takeLoadEnd length s) := by
  have left (u : State) : DrawKept u (leaveLoading u) := by
    unfold leaveLoading
    dsimp only
    (repeat' split)
    · exact (drawKept_enterFaulted u).trans (.of_same (by simp))
    · exact drawKept_enterFaulted u
    · exact drawKept_moveTo (by simp) u
  unfold takeLoadEnd
  dsimp only
  (repeat' split)
  · exact .of_same (by simp)
  · exact .trans (.of_same (by simp)) (left _)
  · exact .of_same (by simp)
  · exact .refl s

theorem drawKept_takeStart (s : State) : DrawKept s (takeStart s) := by
  have run : DrawKept s (enterRun s) := .trans (.of_same (by simp)) (drawKept_moveTo (by simp) _)
  unfold takeStart
  (repeat' split)
  · exact run
  · exact run
  · exact .of_same (by simp)
  · exact .of_same (by simp)
  · exact .refl s
  · exact .refl s

theorem drawKept_takeStop (s : State) : DrawKept s (takeStop s) := by
  unfold takeStop
  (repeat' split)
  · exact .trans (.of_same (by simp)) (drawKept_moveTo (by simp) _)
  · exact .of_same (by simp)
  · exact drawKept_moveTo (by simp) s
  · exact .refl s

theorem drawKept_takeClear (cells : Half) (s : State) : DrawKept s (takeClear cells s) := by
  have cleared : DrawKept s (placeStatus (formAlert (allCells.foldl (clearOne cells) s))) := .of_same (by simp)
  unfold takeClear
  dsimp only
  split
  · exact cleared.trans (drawKept_moveTo (by simp) _)
  · exact cleared

/-! ## Every command -/

theorem drawKept_effect {c : Instr} (s : State) (hr : ∀ straps, c ≠ .reset straps) (hf : c ≠ .frameCompletion)
    (hd : c ≠ .drawCountdown) (hl : ∀ a b o d, c ≠ .load a b o d) : DrawKept s (effect c s) := by
  cases c with
  | reset straps => exact absurd rfl (hr straps)
  | frameCompletion => exact absurd rfl hf
  | drawCountdown => exact absurd rfl hd
  | load a b o d => exact absurd rfl (hl a b o d)
  | mkInfeed b => exact drawKept_mkInfeed b s
  | mkGasopen => rw [effect_mkGasopen]; split; exacts [drawKept_takeGasOpen s, .refl s]
  | mkGasclose => rw [effect_mkGasclose]; split; exacts [drawKept_takeGasClose s, .refl s]
  | mkDischarge =>
    rw [effect_mkDischarge]
    split
    · exact (drawKept_takeDischarge s).trans (drawKept_parkTest _)
    · exact .refl s
  | crimpSample f d => exact drawKept_takeCrimpSample _ _ s
  | tSeatExpiry => rw [effect_tSeatExpiry]; split <;> exact .of_same (by simp)
  | tFormExpiry => rw [effect_tFormExpiry]; split <;> exact .of_same (by simp)
  | tDwellExpiry => rw [effect_tDwellExpiry]; split <;> exact .of_same (by simp)
  | tRelExpiry =>
    rw [effect_tRelExpiry]
    split
    · exact .trans (.of_same (by simp)) (drawKept_reportF .crimpJam _)
    · exact .refl s
  | sensorTransactionEnd ch r => exact drawKept_endTransaction ch r s
  | zeroingTimerExpiry =>
    rw [effect_zeroingTimerExpiry]
    unfold endZeroing
    (repeat' split)
    · exact .trans (.of_same (by simp)) (drawKept_parkTest _)
    · exact .trans (.of_same (by simp)) (drawKept_parkTest _)
    · exact .refl s
  | zeroingTest => rw [effect_zeroingTest]; (repeat' split) <;> exact .of_same (by simp)
  | grantVentWaitExpiry => rw [effect_grantVentWaitExpiry]; split <;> exact .of_same (by simp)
  | silenceLimit =>
    rw [effect_silenceLimit]
    split
    · exact .trans (.of_same (by simp)) (drawKept_parkTest _)
    · exact .refl s
  | loadingStatusTimer => rw [effect_loadingStatusTimer]; split <;> exact .of_same (by simp)
  | feedbackWindowLapse => rw [effect_feedbackWindowLapse]; split <;> exact .of_same (by simp)
  | gasFbOpens => exact drawKept_gasFbOpens s
  | gasFbCloses => exact drawKept_gasFbCloses s
  | closeWindowExpiry => rw [effect_closeWindowExpiry]; split; exacts [drawKept_endCloseWindow s, .refl s]
  | settleTimerExpiry => rw [effect_settleTimerExpiry]; split; exacts [drawKept_enterPlan s, .refl s]
  | checkTimerExpiry =>
    rw [effect_checkTimerExpiry]
    split
    · exact .of_stage (by simp) (by simp)
    · exact .refl s
  | lineIdle =>
    have idle : DrawKept s { s with line := { s.line with condition := .idle } } := .of_same (by simp)
    rw [effect_lineIdle]
    dsimp only
    (repeat' split)
    · exact idle.trans (drawKept_offerSlots _ _)
    · exact idle
    · exact .refl s
  | arbitrationLoss claim =>
    rw [effect_arbitrationLoss]
    (repeat' split)
    · exact .trans (.of_same (by simp)) (drawKept_parkTest _)
    · exact .refl s
    · exact .refl s
  | bitError =>
    rw [effect_bitError]
    dsimp only
    (repeat' split)
    · exact .trans (.of_same (by simp)) (drawKept_parkTest _)
    · exact .trans (.of_same (by simp)) (drawKept_parkTest _)
    · exact .refl s
    · exact .refl s
  | badFrame => rw [effect_badFrame]; exact drawKept_badFrame s
  | lineStuck => rw [effect_lineStuck]; split <;> exact .of_same (by simp)
  | stuckTimeout =>
    rw [effect_stuckTimeout]
    split
    · exact .trans (.of_same (by simp)) (drawKept_reportF _ _)
    · exact .refl s
  | stuckEnd => rw [effect_stuckEnd]; split <;> exact .of_same (by simp)
  | startBit => rw [effect_startBit]; split <;> exact .of_same (by simp)
  | abortMarkEnd =>
    rw [effect_abortMarkEnd]
    have released : DrawKept s (releaseLine s) := .of_same (by simp)
    (repeat' split)
    · exact .refl s
    · exact .refl s
    · exact released.trans (.trans (.of_same (by simp)) (drawKept_parkTest _))
    · exact released.trans ((drawKept_fourthFailure _ _).trans (drawKept_parkTest _))
    · exact .refl s
  | receivedOpen => rw [effect_receivedOpen]; exact drawKept_receive s (fun _ => .of_same (by simp))
  | receivedShut => rw [effect_receivedShut]; exact drawKept_receive s (fun _ => .of_same (by simp))
  | receivedFault => rw [effect_receivedFault]; exact drawKept_receive s (fun _ => .of_same (by simp))
  | receivedStatus => rw [effect_receivedStatus]; exact drawKept_receive s (fun _ => .of_same (by simp))
  | receivedHold =>
    rw [effect_receivedHold]
    refine drawKept_receive s (fun _ => ?_)
    split <;> exact .of_same (by simp)
  | receivedResult => rw [effect_receivedResult]; exact drawKept_receive s .refl
  | unknownKindFrame => rw [effect_unknownKindFrame]; exact drawKept_receive s .refl
  | loadEnd => rw [effect_loadEnd]; exact drawKept_receive s (drawKept_takeLoadEnd _)
  | start => rw [effect_start]; exact drawKept_receive s drawKept_takeStart
  | stop => rw [effect_stop]; exact drawKept_receive s drawKept_takeStop
  | clear => rw [effect_clear]; exact drawKept_receive s (drawKept_takeClear _)
  | holdCountdown =>
    rw [effect_holdCountdown]
    split
    · exact .refl s
    · exact .trans (.of_same (by simp)) (drawKept_parkTest _)
  | holdResend => rw [effect_holdResend]; split <;> exact .of_same (by simp)

/-- The completion of a frame lets no phantom go. -/
theorem phantoms_frameCompletion (s : State) :
    phantomCount s.draw.phantoms ≤ phantomCount (effect .frameCompletion s).draw.phantoms := by
  rw [effect_frameCompletion]
  (repeat' split)
  · exact le_trans (by simp) (drawKept_parkTest _).phantoms
  · exact le_rfl
  · exact le_rfl

/-- GAS stays off and no SELF entry becomes driven. -/
structure GasKept (s t : State) : Prop where
  off : s.gas.stage ≠ .pulse → t.gas.stage ≠ .pulse
  undriven : s.draw.self ≠ some .driven → t.draw.self ≠ some .driven

theorem DrawKept.gasKept {s t : State} (h : DrawKept s t) : GasKept s t := ⟨h.off, h.undriven⟩

theorem gasKept_drawCountdown (s : State) : GasKept s (effect .drawCountdown s) := by
  have self : (countDraw s.draw).self = some .driven → s.draw.self = some .driven := by
    cases hd : s.draw.self with
    | none => simp [countDraw, hd]
    | some e => cases e <;> simp [countDraw, countSelf, hd]
  rw [effect_drawCountdown]
  unfold countDrawTable
  dsimp only
  (repeat' split)
  · exact ⟨id, id⟩
  · exact ⟨by simp, fun h d => h (self (by simpa using d))⟩
  · exact ⟨by simp, fun h d => h (self d)⟩

theorem gasKept_load (sender target : StationNo) (offset : Byte) (data : List Byte) (s : State) :
    GasKept s (effect (.load sender target offset data) s) := by
  have taken (u : State) : GasKept u (takeLoad offset data u) := by
    unfold takeLoad
    dsimp only
    split
    · exact ⟨id, id⟩
    · exact ⟨by simp [newImage], fun h => by simpa [newImage] using moveTo_driven .loading u h⟩
    · exact ⟨id, id⟩
  rw [effect_load]
  refine receive_cases (P := GasKept s) (drawKept_badFrame s).gasKept (fun u hu => ?_)
  have heard : DrawKept s u := hu ▸ .of_same (by simp)
  have tested (u : State) : DrawKept u (retest u) := .of_same (by simp)
  refine ⟨(heard.trans (tested u)).gasKept, (heard.trans ((drawKept_reportF _ u).trans (tested _))).gasKept,
    fun _ _ _ _ => ?_⟩
  exact ⟨fun h => (tested _).off ((taken u).off (heard.off h)),
    fun h => (tested _).undriven ((taken u).undriven (heard.undriven h))⟩

theorem gasKept_effect {c : Instr} (s : State) (hr : ∀ straps, c ≠ .reset straps) (hf : c ≠ .frameCompletion) :
    GasKept s (effect c s) := by
  by_cases hd : c = .drawCountdown
  · exact hd ▸ gasKept_drawCountdown s
  · by_cases hl : ∃ a b o d, c = .load a b o d
    · obtain ⟨a, b, o, d, rfl⟩ := hl
      exact gasKept_load a b o d s
    · exact (drawKept_effect s hr hf hd (fun a b o d e => hl ⟨a, b, o, d, e⟩)).gasKept

/-- Settles O54, unit by unit. -/
theorem onlyNamedCommandsChangeAUnit : Obligations.OnlyNamedCommandsChangeAUnit := by
  unfold Obligations.OnlyNamedCommandsChangeAUnit
  intro c s t h hr
  obtain rfl := eq_effect_of_exec h
  obtain ⟨straps, clock, pair, counter, offset, channels, pin⟩ := effect_units s hr
  have store := effect_store s hr
  refine ⟨straps, clock, counter, fun hl he => store_eq (store (.inl ⟨hl, he⟩)),
    fun hl hd => store_eq (store (.inr ⟨hl, hd⟩)), offset, channels, pair, pin,
    fun hc => (cellsStay_effect s hr hc).stay, fun hd hl => ?_, fun hf => ⟨fun off => ?_, ?_⟩⟩
  · by_cases hf : c = .frameCompletion
    · exact hf ▸ phantoms_frameCompletion s
    · exact (drawKept_effect s hr hf hd hl).phantoms
  · rw [← Bool.not_eq_true, gasOn_iff] at off ⊢
    exact (gasKept_effect s hr hf).off off
  · exact (gasKept_effect s hr hf).undriven

end Sys2Proof.Machine
end

section
/-!
PROOFS. The closing of a context (R17, R53, R163, R168, R171) and what MK_INFEED makes of a pocket in RETURN (O7, O8),
and the reject run (O13).
-/

namespace Sys2Proof.Machine

/-! ## What a closing changes -/

theorem syncResult_shape (s : State) :
    syncResult s = { s with line := { s.line with resultSlot := (syncResult s).line.resultSlot } } := by
  unfold syncResult
  dsimp only
  (repeat' split) <;> rfl

theorem queueRecord_shape (r : Record) (s : State) :
    queueRecord r s = { s with
      line := { s.line with resultSlot := (queueRecord r s).line.resultSlot }
      result := { s.result with
        queue := (queueRecord r s).result.queue, dropCount := (queueRecord r s).result.dropCount } } := by
  unfold queueRecord
  split <;> rw [syncResult_shape]

theorem accrueDebt_shape (s : State) :
    accrueDebt s = { s with
      sensor := { s.sensor with
        zeroDebt := (accrueDebt s).sensor.zeroDebt, closings := (accrueDebt s).sensor.closings }
      line := { s.line with statusSlot := (accrueDebt s).line.statusSlot } } := by
  unfold accrueDebt
  dsimp only
  (repeat' split) <;> rfl

theorem countReject_shape (r : Reason) (s : State) :
    countReject r s = { s with
      line := { s.line with statusSlot := (countReject r s).line.statusSlot }
      result := { s.result with rejectRun := (countReject r s).result.rejectRun }
      fault := (countReject r s).fault } := by
  unfold countReject reportA
  (repeat' split) <;> rfl

/-- The context taken away and the sequence number advanced, before the record is counted and queued. -/
def numbered (s : State) : State :=
  { s with context := none, result := { s.result with sequence := s.result.sequence + 1 } }

/-- The closing of an open context, operation by operation. -/
theorem closeContext_of_some {s : State} {c : CanContext} (hc : s.context = some c) :
    closeContext s =
      accrueDebt (queueRecord (buildRecord s c) (countReject (buildRecord s c).reason (numbered s))) := by
  simp [closeContext, hc, numbered]

theorem closeContext_of_none {s : State} (hc : s.context = none) : closeContext s = s := by
  simp [closeContext, hc]

theorem closeContext_shape (s : State) :
    closeContext s = { s with
      context := none
      sensor := { s.sensor with
        zeroDebt := (closeContext s).sensor.zeroDebt, closings := (closeContext s).sensor.closings }
      line := { s.line with
        statusSlot := (closeContext s).line.statusSlot, resultSlot := (closeContext s).line.resultSlot }
      result := { s.result with
        queue := (closeContext s).result.queue, sequence := (closeContext s).result.sequence
        dropCount := (closeContext s).result.dropCount, rejectRun := (closeContext s).result.rejectRun }
      fault := (closeContext s).fault } := by
  cases hc : s.context with
  | none => rw [closeContext_of_none hc]; cases s; cases hc; rfl
  | some c => rw [closeContext_of_some hc, accrueDebt_shape, queueRecord_shape, countReject_shape]; rfl

theorem recordJoins_queueRecord (r : Record) (s : State) : RecordJoins r s (queueRecord r s) := by
  unfold RecordJoins queueRecord Config.queueLimit
  split
  · simp
  · simp only [syncResult_keeps, oneMoreDropped]
    refine ⟨?_, by split <;> omega⟩
    cases s.result.queue with
    | nil => simp [discardOldest]
    | cons h rest => cases slotOnLine s.line.resultSlot <;> simp [discardOldest]

/-- What a record's joining reads is the queue, the drop count and the RESULT slot. -/
theorem RecordJoins.of_eq {r : Record} {s s' t t' : State} (h : RecordJoins r s t)
    (hs : s'.result.queue = s.result.queue ∧ s'.result.dropCount = s.result.dropCount
      ∧ s'.line.resultSlot = s.line.resultSlot)
    (ht : t'.result.queue = t.result.queue ∧ t'.result.dropCount = t.result.dropCount) : RecordJoins r s' t' := by
  obtain ⟨hq, hd, hl⟩ := hs
  obtain ⟨gq, gd⟩ := ht
  unfold RecordJoins at h ⊢
  rw [hq, hd, hl, gq, gd]
  exact h

theorem closingCounted_accrueDebt (s : State) : ClosingCounted s (accrueDebt s) := by
  unfold ClosingCounted accrueDebt
  dsimp only
  (repeat' split) <;> simp

theorem ClosingCounted.of_eq {s s' t t' : State} (h : ClosingCounted s t)
    (hs : s'.recipe = s.recipe ∧ s'.sensor.closings = s.sensor.closings ∧ s'.sensor.zeroDebt = s.sensor.zeroDebt)
    (ht : t'.sensor.closings = t.sensor.closings ∧ t'.sensor.zeroDebt = t.sensor.zeroDebt) :
    ClosingCounted s' t' := by
  obtain ⟨hr, hc, hd⟩ := hs
  obtain ⟨gc, gd⟩ := ht
  unfold ClosingCounted State.params at h ⊢
  rw [hr, hc, hd, gc, gd]
  exact h

/-- The record of a closed context joins the queue. -/
theorem recordJoins_closeContext {s : State} {c : CanContext} (hc : s.context = some c) :
    RecordJoins (buildRecord s c) s (closeContext s) := by
  rw [closeContext_of_some hc]
  exact (recordJoins_queueRecord _ (countReject (buildRecord s c).reason (numbered s))).of_eq (by simp [numbered])
    (by simp)

theorem closingCounted_closeContext {s : State} {c : CanContext} (hc : s.context = some c) :
    ClosingCounted s (closeContext s) := by
  rw [closeContext_of_some hc]
  exact (closingCounted_accrueDebt (queueRecord _ (countReject _ (numbered s)))).of_eq (by simp [numbered]) ⟨rfl, rfl⟩

theorem sequence_closeContext {s : State} {c : CanContext} (hc : s.context = some c) :
    (closeContext s).result.sequence = s.result.sequence + 1 := by
  rw [closeContext_of_some hc]
  simp [numbered]

/-! ## The reject run -/

/-- The cells and ALERT_N after a closing with reason `r`: REJECT_RUN is latched where the run reaches its limit. -/
def faultAfterReject (r : Reason) (s : State) : FaultUnit :=
  if r ≠ .good ∧ reasonUncounted r = false ∧ s.params.rejectLimit ≠ 0
      ∧ s.params.rejectLimit ≤ s.result.rejectRun + 1 ∧ s.latched .rejectRun = false then
    { s.fault with
      latched := latchCell .rejectRun s.fault.latched
      alert := alertOf (latchCell .rejectRun s.fault.latched) s.fault.enables }
  else s.fault

theorem reasonUncounted_iff (r : Reason) :
    reasonUncounted r = true ↔ r = .noCan ∨ r = .skippedZero ∨ r = .headStopped ∨ r = .headFaulted := by
  cases r <;> simp [reasonUncounted]

theorem countReject_rejectRun (r : Reason) (s : State) :
    (countReject r s).result.rejectRun = rejectRunAfter r s := by
  unfold countReject rejectRunAfter
  simp only [← reasonUncounted_iff]
  split
  · rfl
  · split
    · rfl
    · split
      · next h => simp [h]
      · split <;> simp

theorem reportA_fault (c : Cell) (s : State) :
    (reportA c s).fault =
      if s.latched c = true then s.fault
      else { s.fault with
        latched := latchCell c s.fault.latched, alert := alertOf (latchCell c s.fault.latched) s.fault.enables } := by
  unfold reportA
  split
  · rfl
  · simp [formAlert, latch]

theorem countReject_fault (r : Reason) (s : State) : (countReject r s).fault = faultAfterReject r s := by
  have same (n : Nat) : State.latched { s with result := { s.result with rejectRun := n } } .rejectRun =
      s.latched .rejectRun := rfl
  unfold countReject faultAfterReject
  split
  · next h => simp [h]
  · next hg =>
    split
    · next h => simp [h]
    · next hu =>
      split
      · next h => simp [h]
      · next h0 =>
        split
        · next hn => cases hl : s.latched .rejectRun <;> simp [reportA_fault, same, hl, hg, hu, h0, hn]
        · next hn => simp [hn]

theorem closeContext_rejectRun {s : State} {c : CanContext} (hc : s.context = some c) :
    (closeContext s).result.rejectRun = rejectRunAfter (chooseReason c.reasons) s := by
  rw [closeContext_of_some hc]
  simp only [accrueDebt_keeps, queueRecord_keeps, countReject_rejectRun]
  rfl

theorem closeContext_fault {s : State} {c : CanContext} (hc : s.context = some c) :
    (closeContext s).fault = faultAfterReject (chooseReason c.reasons) s := by
  rw [closeContext_of_some hc]
  simp only [accrueDebt_keeps, queueRecord_keeps, countReject_fault]
  rfl

/-- What the reject run and the cells after a closing are made from. -/
theorem closeContext_reject_congr {s u : State} {c d : CanContext} (hs : s.context = some c) (hu : u.context = some d)
    (h : d.reasons = c.reasons ∧ u.result.rejectRun = s.result.rejectRun ∧ u.recipe = s.recipe
      ∧ u.fault = s.fault) :
    (closeContext u).result.rejectRun = (closeContext s).result.rejectRun
      ∧ (closeContext u).fault = (closeContext s).fault := by
  obtain ⟨hr, hn, hp, hf⟩ := h
  rw [closeContext_rejectRun hs, closeContext_rejectRun hu, closeContext_fault hs, closeContext_fault hu]
  simp only [rejectRunAfter, faultAfterReject, State.params, State.latched, hr, hn, hp, hf]
  exact ⟨rfl, rfl⟩

theorem statusSlot_placed (t : Slot Unit) : slotEmpty (slotPlace () t) = false := by
  cases h : t.body <;> simp [slotPlace, slotEmpty, h]

theorem reportA_status {c : Cell} {s : State} (hc : s.latched c = false) :
    slotEmpty (reportA c s).line.statusSlot = false := by
  unfold reportA
  rw [if_neg (by simp [hc])]
  exact statusSlot_placed _

theorem accrueDebt_status {s : State} (h : slotEmpty s.line.statusSlot = false) :
    slotEmpty (accrueDebt s).line.statusSlot = false := by
  unfold accrueDebt
  dsimp only
  (repeat' split)
  · exact statusSlot_placed _
  · exact h
  · exact h

/-- Where the run reaches its limit with REJECT_RUN clear, the STATUS of the report is left placed. -/
theorem closeContext_status {s : State} {c : CanContext} (hc : s.context = some c)
    (hg : chooseReason c.reasons ≠ .good) (hu : reasonUncounted (chooseReason c.reasons) = false)
    (h0 : s.params.rejectLimit ≠ 0) (hn : s.params.rejectLimit ≤ s.result.rejectRun + 1)
    (hl : s.latched .rejectRun = false) : slotEmpty (closeContext s).line.statusSlot = false := by
  rw [closeContext_of_some hc]
  refine accrueDebt_status ?_
  have reported : countReject (chooseReason c.reasons) (numbered s) =
      reportA .rejectRun { numbered s with result := { (numbered s).result with rejectRun := 0 } } := by
    unfold countReject
    rw [if_neg hg, if_neg (by simp [hu]), if_neg (show (numbered s).params.rejectLimit ≠ 0 from h0)]
    exact if_pos hn
  simp only [queueRecord_keeps]
  change slotEmpty (countReject (chooseReason c.reasons) (numbered s)).line.statusSlot = false
  rw [reported]
  exact reportA_status hl

/-- Settles O13: the count and the cells after a closing are read off operation by operation. -/
theorem rejectRunCountsTheRejects : Obligations.RejectRunCountsTheRejects := by
  unfold Obligations.RejectRunCountsTheRejects
  intro s c hc
  dsimp only
  refine ⟨fun hg => ?_, fun hu => ?_, fun hr h0 => ?_, fun hr hn => ?_, fun hr h1 hn hl => ?_, fun hr h1 hn hl => ?_,
    recordJoins_closeContext hc, fun hs hp => ?_⟩
  case refine_7 =>
    refine ⟨_, exec_eq_effect _ _, ?_⟩
    have hcount := closeContext_reject_congr (u := returnGas (returnCrimp s)) hc (by simpa using hc) (by simp)
    simp only [effect_mkDischarge, if_pos hs, takeDischarge, hp, discharge, parkTest_keeps]
    split <;> simpa using hcount
  all_goals rw [closeContext_rejectRun hc, closeContext_fault hc]
  · simp [rejectRunAfter, faultAfterReject, hg]
  · have hg : chooseReason c.reasons ≠ .good := by obtain h | h | h | h := hu <;> simp [h]
    simp [rejectRunAfter, faultAfterReject, reasonUncounted_iff, hg, hu]
  all_goals
    obtain ⟨hg, hu⟩ := hr
    have hf : reasonUncounted (chooseReason c.reasons) = false := by
      rw [← Bool.not_eq_true, reasonUncounted_iff]; exact hu
  · simp [rejectRunAfter, faultAfterReject, hg, hu, h0]
  · simp [rejectRunAfter, faultAfterReject, hg, hu, Nat.not_le.2 hn]
  · simp [rejectRunAfter, faultAfterReject, hg, hu, hn, hl]
  · exact ⟨by simp [rejectRunAfter, hg, hu, hn], closeContext_status hc hg hf (by omega) hn hl,
      if_pos ⟨hg, hf, by omega, hn, hl⟩⟩

/-! ## MK_INFEED in RETURN -/

theorem rejectRunAfter_uncounted {r : Reason} {s : State} (hr : reasonUncounted r = true) :
    rejectRunAfter r s = s.result.rejectRun := by
  cases r <;> simp_all [rejectRunAfter, reasonUncounted]

theorem faultAfterReject_uncounted {r : Reason} {s : State} (hr : reasonUncounted r = true) :
    faultAfterReject r s = s.fault := by
  simp [faultAfterReject, hr]

/-- The closing of a context without a counted reason leaves reject run and cells. -/
theorem closeContext_uncounted {s : State} {c : CanContext} (hc : s.context = some c)
    (hr : reasonUncounted (chooseReason c.reasons) = true) :
    closeContext s = { s with
      context := none
      sensor := { s.sensor with
        zeroDebt := (closeContext s).sensor.zeroDebt, closings := (closeContext s).sensor.closings }
      line := { s.line with
        statusSlot := (closeContext s).line.statusSlot, resultSlot := (closeContext s).line.resultSlot }
      result := { s.result with
        queue := (closeContext s).result.queue, sequence := s.result.sequence + 1
        dropCount := (closeContext s).result.dropCount } } := by
  conv_lhs => rw [closeContext_shape]
  rw [closeContext_rejectRun hc, closeContext_fault hc, sequence_closeContext hc, rejectRunAfter_uncounted hr,
    faultAfterReject_uncounted hr]

/-- A context opened with the reason it is closed with has a record without parts. -/
theorem buildRecord_openContext (b : Bool) (r : Reason) (s : State) :
    buildRecord s (freshContext { s with cycle := { s.cycle with counter := s.cycle.counter + 1 } } b [r]) =
      bareRecord s (s.cycle.counter + 1) r := by
  cases r <;> rfl

/-- The pocket opened, just before its closing in PASS. -/
def passing (b : Bool) (r : Reason) (s : State) : State :=
  { openContext b [r] s with cycle := { (openContext b [r] s).cycle with phase := .pass } }

theorem passPocket_eq (b : Bool) (r : Reason) (s : State) : passPocket b r s = closeContext (passing b r s) := rfl

theorem recordJoins_passPocket (b : Bool) (r : Reason) (s : State) :
    RecordJoins (bareRecord s (s.cycle.counter + 1) r) s (passPocket b r s) := by
  have joins := recordJoins_closeContext (s := passing b r s) rfl
  rw [← buildRecord_openContext b r s]
  exact joins

theorem closingCounted_passPocket (b : Bool) (r : Reason) (s : State) : ClosingCounted s (passPocket b r s) :=
  closingCounted_closeContext (s := passing b r s) rfl

theorem passPocket_shape (b : Bool) {r : Reason} (s : State) (hr : r = .skippedZero ∨ r = .noCan) :
    passPocket b r s = { s with
      context := none
      cycle := { s.cycle with phase := .pass, counter := s.cycle.counter + 1 }
      sensor := { s.sensor with
        zeroDebt := (passPocket b r s).sensor.zeroDebt, closings := (passPocket b r s).sensor.closings }
      line := { s.line with
        statusSlot := (passPocket b r s).line.statusSlot, resultSlot := (passPocket b r s).line.resultSlot }
      result := { s.result with
        queue := (passPocket b r s).result.queue, sequence := s.result.sequence + 1
        dropCount := (passPocket b r s).result.dropCount } } := by
  refine closeContext_uncounted (s := passing b r s) rfl ?_
  obtain rfl | rfl := hr <;> rfl

/-- A pocket passed at an INFEED, with the grant its zero debt asks for. -/
theorem decidePocket_pass {b : Bool} {s : State} (h : 4 ≤ s.sensor.zeroDebt ∨ b = false) :
    decidePocket b s =
      let p := passPocket b (if 4 ≤ s.sensor.zeroDebt then .skippedZero else .noCan) s
      if 1 ≤ s.sensor.zeroDebt then grantPassPocket p else p := by
  unfold decidePocket
  dsimp only
  split
  · next h4 => rw [if_pos (by omega : 1 ≤ s.sensor.zeroDebt)]
  · next h4 => simp [h.resolve_left h4]

/-- The head at an INFEED in RETURN, as its pocket is decided. -/
def arrived (s : State) : State :=
  endGrant
    { measurePeriod s with
      cycle := { (measurePeriod s).cycle with silence := some s.clock, silenceOver := false, zeroTest := none } }

theorem effect_mkInfeed_returning {b : Bool} {s : State} (hr : s.cycle.station = .run)
    (hp : s.cycle.phase = .returning) : effect (.mkInfeed b) s = decidePocket b (arrived s) := by
  simp [hr, hp, startCycle, arrived, measurePeriod]

theorem arrived_shape (s : State) :
    arrived s = { s with
      cycle := { s.cycle with
        period := periodAfter s.cycle s.clock, infeedRef := some s.clock, silence := some s.clock
        silenceOver := false, grant := .none, zeroTest := none }
      sensor := { s.sensor with
        zeroing := .idle
        zeroSamples := if s.sensor.zeroing = .idle then s.sensor.zeroSamples else [] } } := by
  cases hz : s.sensor.zeroing <;> simp [arrived, measurePeriod, endGrant, hz]
  rw [← hz]

/-- VENT has been on for 20 ms. -/
theorem vented_iff (s : State) :
    (s.ventOn && decide (s.gas.ventSince + Config.ventTime * Config.ticksPerMs ≤ s.clock)) = true ↔
      s.gas.stage = .idle ∧ s.gas.ventSince + 20 * 500 ≤ s.clock := by
  exact (Bool.and_eq_true_iff.trans (and_congr beq_iff_eq decide_eq_true_iff))

/-- A head with its grant and zeroing as given. -/
def withGrant (g : Grant) (z : Zeroing) (readings : List (BitVec 12)) (s : State) : State :=
  { s with
    cycle := { s.cycle with grant := g }, sensor := { s.sensor with zeroing := z, zeroSamples := readings } }

theorem grantPassPocket_vented {s : State} (h : s.gas.stage = .idle ∧ s.gas.ventSince + 20 * 500 ≤ s.clock) :
    grantPassPocket s = withGrant .granted (.collecting s.clock) [] s :=
  if_pos ((vented_iff s).2 h)

theorem grantPassPocket_waiting {s : State} (h : ¬(s.gas.stage = .idle ∧ s.gas.ventSince + 20 * 500 ≤ s.clock)) :
    grantPassPocket s = withGrant .waitingForVent s.sensor.zeroing s.sensor.zeroSamples s :=
  if_neg ((vented_iff s).not.2 h)

/-- Settles O7: the pocket with its can, decided in the head as it arrived. -/
theorem infeedSendsACanToTheCrimp : Obligations.InfeedSendsACanToTheCrimp := by
  unfold Obligations.InfeedSendsACanToTheCrimp
  intro s hrun hret hdebt
  have below : ¬4 ≤ s.sensor.zeroDebt := by omega
  rw [exec_eq_effect, effect_mkInfeed_returning hrun hret, arrived_shape]
  simp only [decidePocket, if_neg below, if_true, openContext, freshContext, startCrimp, onContext, hrun]
  cases hi : s.cycle.infeedRef <;> simp only [periodAfter, hi] <;> rfl

/-- Settles O8: the passed pocket's closing, and then the grant by the zero debt read at the mark. -/
theorem infeedPassesAPocketWithItsRecord : Obligations.InfeedPassesAPocketWithItsRecord := by
  unfold Obligations.InfeedPassesAPocketWithItsRecord
  intro b s hrun hret hpass
  let r : Reason := if 4 ≤ s.sensor.zeroDebt then .skippedZero else .noCan
  have hr : r = .skippedZero ∨ r = .noCan := by simp only [r]; split <;> simp
  have hdebt : (arrived s).sensor.zeroDebt = s.sensor.zeroDebt := by rw [arrived_shape]
  have joins := recordJoins_passPocket b r (arrived s)
  have counted := closingCounted_passPocket b r (arrived s)
  have shape := passPocket_shape b (arrived s) hr
  have t_eq := effect_mkInfeed_returning (b := b) hrun hret
  rw [decidePocket_pass (by rw [hdebt]; exact hpass)] at t_eq
  dsimp only at t_eq
  rw [hdebt] at t_eq
  change effect _ s = if _ then grantPassPocket (passPocket b r (arrived s)) else passPocket b r (arrived s) at t_eq
  generalize passPocket b r (arrived s) = p at joins counted shape t_eq
  rw [arrived_shape] at joins counted shape
  have hgas : p.gas = s.gas := by rw [shape]
  have hclock : p.clock = s.clock := by rw [shape]
  have hgrant : p.cycle.grant = .none := by rw [shape]
  have hidle : p.sensor.zeroing = .idle := by rw [shape]
  have hlist : p.sensor.zeroSamples = if s.sensor.zeroing = .idle then s.sensor.zeroSamples else [] := by rw [shape]
  obtain ⟨g, z, zs, t_eq, g0, gidle, gvent, gwait⟩ : ∃ g z zs, effect (.mkInfeed b) s = withGrant g z zs p
      ∧ (s.sensor.zeroDebt = 0 → g = .none ∧ z = .idle)
      ∧ (z = .idle → zs = if s.sensor.zeroing = .idle then s.sensor.zeroSamples else [])
      ∧ (1 ≤ s.sensor.zeroDebt → s.gas.stage = .idle ∧ s.gas.ventSince + 20 * 500 ≤ s.clock →
          g = .granted ∧ z = .collecting s.clock ∧ zs = [])
      ∧ (1 ≤ s.sensor.zeroDebt → ¬(s.gas.stage = .idle ∧ s.gas.ventSince + 20 * 500 ≤ s.clock) →
          g = .waitingForVent ∧ z = .idle) := by
    by_cases h1 : 1 ≤ s.sensor.zeroDebt
    · rw [if_pos h1] at t_eq
      by_cases hv : s.gas.stage = .idle ∧ s.gas.ventSince + 20 * 500 ≤ s.clock
      · rw [grantPassPocket_vented (by rw [hgas, hclock]; exact hv)] at t_eq
        exact ⟨_, _, _, t_eq, by omega, nofun, fun _ _ => ⟨rfl, by rw [hclock], rfl⟩, fun _ h => absurd hv h⟩
      · rw [grantPassPocket_waiting (by rw [hgas, hclock]; exact hv)] at t_eq
        exact ⟨_, _, _, t_eq, by omega, fun _ => hlist, fun _ h => absurd h hv, fun _ _ => ⟨rfl, hidle⟩⟩
    · rw [if_neg h1] at t_eq
      exact ⟨_, _, _, t_eq, fun _ => ⟨hgrant, hidle⟩, fun _ => hlist, fun h => absurd h h1, fun h => absurd h h1⟩
  refine ⟨_, exec_eq_effect _ _, ?_⟩
  rw [t_eq]
  refine ⟨?_, ?_, ?_, ?_, ?_, joins.of_eq ⟨rfl, rfl, rfl⟩ ⟨rfl, rfl⟩, ?_, ?_, counted.of_eq ⟨rfl, rfl, rfl⟩ ⟨rfl, rfl⟩, g0,
    gidle, gvent, gwait, ?_, ?_, ?_⟩
  all_goals rw [shape]
  case refine_1 => exact hrun
  case refine_5 => cases hi : s.cycle.infeedRef <;> simp only [withGrant, periodAfter, hi] <;> rfl
  all_goals rfl

end Sys2Proof.Machine
end

section
/-!
PROOFS. The start of gassing: at MK_GASOPEN in WAIT_WINDOW (O10) and at the verdict of a good crimp (O15).
-/

namespace Sys2Proof.Machine

/-! ## What a plan's decision changes -/

/-- `t` is `s` but for the context, the pocket's phase, the stage with its timers, the OPEN slot and the claim, the gas
part but for what a plan adds apart. -/
structure Planned (s t : State) : Prop where
  frame : t = { s with
    context := t.context, cycle := { s.cycle with phase := t.cycle.phase }
    gas := { s.gas with stage := t.gas.stage, settleTimer := t.gas.settleTimer, checkTimer := t.gas.checkTimer }
    line := { s.line with openSlot := t.line.openSlot }
    draw := { s.draw with claim := t.draw.claim, requestHeld := t.draw.requestHeld } }
  gasPart : t.gasPart = s.gasPart
  crimpPart : t.crimpPart = s.crimpPart
  timer : s.gas.settleTimer = none → t.gas.settleTimer = none
  working : s.gas.stage ≠ .idle ∧ s.gas.stage ≠ .pulse → t.gas.stage ≠ .idle ∧ t.gas.stage ≠ .pulse

theorem Planned.refl (s : State) : Planned s s := ⟨rfl, rfl, rfl, id, id⟩

theorem Planned.trans {s t u : State} (h : Planned s t) (k : Planned t u) : Planned s u where
  frame := by rw [k.frame, h.frame]
  gasPart := k.gasPart.trans h.gasPart
  crimpPart := k.crimpPart.trans h.crimpPart
  timer := fun hs => k.timer (h.timer hs)
  working := fun hs => k.working (h.working hs)

theorem planned_onContext {f : CanContext → CanContext} (hg : ∀ c, (f c).gas = c.gas) (hk : ∀ c, (f c).crimp = c.crimp)
    (s : State) : Planned s (onContext f s) := by
  refine ⟨rfl, ?_, ?_, id, id⟩ <;> cases hc : s.context <;> simp [onContext, State.gasPart, State.crimpPart, hc, hg, hk]

theorem planned_addReason (r : Reason) (s : State) : Planned s (addReason r s) :=
  planned_onContext (f := fun c => { c with reasons := insertReason r c.reasons }) (fun _ => rfl) (fun _ => rfl) s

theorem planned_addCondition (k : Condition) (s : State) : Planned s (addCondition k s) :=
  planned_onContext (f := fun c => { c with conditions := setCondition k c.conditions }) (fun _ => rfl)
    (fun _ => rfl) s

theorem planned_compareDose (s : State) : Planned s (compareDose s) := by
  unfold compareDose
  (repeat' split)
  · exact .refl s
  · exact planned_addReason ..
  · exact .refl s

theorem planned_claim (s : State) : Planned s { s with gas := { s.gas with stage := .claim } } :=
  ⟨rfl, rfl, rfl, id, fun _ => ⟨nofun, nofun⟩⟩

theorem planned_advancePhase (p q : Phase) (s : State) : Planned s (advancePhase p q s) := by
  unfold advancePhase
  split
  · exact ⟨rfl, rfl, rfl, id, id⟩
  · exact .refl s

theorem planned_endGassing (s : State) : Planned s (endGassing s) := by
  have ended : Planned s { s with gas := { s.gas with stage := .ended, settleTimer := none, checkTimer := none } } :=
    ⟨rfl, rfl, rfl, fun _ => rfl, fun _ => ⟨nofun, nofun⟩⟩
  exact (ended.trans (planned_compareDose _)).trans (planned_advancePhase ..)

theorem planned_doseComplete (s : State) : Planned s (doseComplete s) := by
  unfold doseComplete
  split
  · exact planned_endGassing s
  · refine .trans ?_ (planned_advancePhase ..)
    refine .trans (planned_compareDose s) (.trans (planned_onContext ?_ ?_ _) ⟨rfl, rfl, rfl, fun _ => rfl, fun _ => ⟨nofun, nofun⟩⟩) <;>
      exact fun _ => rfl

theorem planned_requestClaim (s : State) : Planned s (requestClaim s) := by
  unfold requestClaim
  (repeat' split)
  · exact ⟨rfl, rfl, rfl, id, id⟩
  · exact .trans (t := setClaim .waiting s) ⟨rfl, rfl, rfl, id, id⟩ (planned_addCondition ..)
  · exact ⟨rfl, rfl, rfl, id, id⟩
  · exact .refl s

theorem planned_actOnAnswer (a : PlanAnswer) (s : State) : Planned s (actOnAnswer a s) := by
  unfold actOnAnswer
  (repeat' split)
  · exact .refl s
  · exact (planned_claim s).trans (planned_requestClaim _)
  · exact planned_addCondition ..
  · exact .refl s
  · exact planned_addCondition ..

theorem planned_decideInPlan (s : State) : Planned s (decideInPlan s) := by
  have noted : Planned s (noteNoDrive s.planAnswer s) := by
    unfold noteNoDrive
    split
    · exact planned_addCondition ..
    · exact .refl s
  unfold decideInPlan
  dsimp only
  split
  · exact planned_doseComplete s
  · split
    · exact ((noted.trans (planned_addReason ..)).trans (planned_addCondition ..)).trans (planned_endGassing _)
    · exact noted.trans (planned_actOnAnswer ..)

/-! ## The start of gassing -/

/-- The gas part as gassing starts (R16, R78). -/
def freshGas (s : State) : GasPart :=
  { mass := 0, remainder := 0, strikes := s.params.strikes
    pcAtEntry := if s.sensor.sample.bell = .valid then some s.sensor.sample.pc else none, pulses := [] }

/-- The pocket in GAS with its gas part created and the sequencer in PLAN, before the first plan. -/
def gassingStart (c : CanContext) (s : State) : State :=
  { s with
    context := some { c with gas := some (freshGas s) }, cycle := { s.cycle with phase := .gas }
    gas := { s.gas with stage := .plan, settleTimer := none } }

theorem enterGas_of_idle {s : State} {c : CanContext} (hc : s.context = some c) (hi : s.gas.stage = .idle) :
    enterGas s = decideInPlan (gassingStart c s) := by
  simp [enterGas, startGas, abandonGas, onContext, onGasPart, enterPlan, hc, hi, gassingStart, freshGas, State.params]

theorem compareDose_of_light {s : State} (h : s.mass ≤ s.params.targetMass + s.params.tolerance) :
    compareDose s = s := by
  unfold compareDose
  split
  · rfl
  · next g hg =>
    rw [State.mass, hg] at h
    exact if_neg (Nat.not_lt.2 h)

theorem doseComplete_unchecked {s : State} (h : s.mass ≤ s.params.targetMass + s.params.tolerance)
    (hp : s.cycle.phase = .gas) (h0 : s.params.checkInterval = 0) :
    doseComplete s =
      { s with
        cycle := { s.cycle with phase := .sealed }
        gas := { s.gas with stage := .ended, settleTimer := none, checkTimer := none } } := by
  rw [doseComplete, if_pos h0, endGassing, enterEnded, compareDose_of_light (by exact h)]
  exact if_pos hp

theorem doseComplete_checked {s : State} {c : CanContext} (h : s.mass ≤ s.params.targetMass + s.params.tolerance)
    (hp : s.cycle.phase = .gas) (hc : s.context = some c) (h0 : s.params.checkInterval ≠ 0) :
    doseComplete s =
      { s with
        context :=
          some { c with check := some { pcAtStart := s.sensor.sample.pc, pcAtEnd := none, verdict := .pending } }
        cycle := { s.cycle with phase := .check }
        gas := { s.gas with stage := .check, settleTimer := none, checkTimer := some s.clock } } := by
  rw [doseComplete, if_neg h0, compareDose_of_light h]
  simp [advancePhase, onContext, hc, hp]

/-- The decision on a first plan that is not complete, while a pulse is allowed. -/
theorem decideInPlan_start {s : State} (ha : s.planAnswer ≠ .complete) (hp : s.pulses = [])
    (h1 : 1 ≤ s.params.maxPulses) :
    decideInPlan s = actOnAnswer s.planAnswer (noteNoDrive s.planAnswer s) := by
  have none_yet : (noteNoDrive s.planAnswer s).pulses = [] := by
    have kept : (noteNoDrive s.planAnswer s).gasPart = s.gasPart := by
      unfold noteNoDrive
      split
      · exact (planned_addCondition ..).gasPart
      · rfl
    rw [State.pulses, kept]
    exact hp
  have hm : (noteNoDrive s.planAnswer s).params = s.params := by
    unfold noteNoDrive; split <;> rfl
  rw [decideInPlan, if_neg ha]
  simp only [none_yet, hm, List.length_nil]
  exact if_neg (by omega)

theorem takeGasOpen_crimp {s : State} (hp : s.cycle.phase = .crimp) :
    takeGasOpen s =
      { s with
        context := s.context.map
          (fun c => { c with gasOpenTaken := true, conditions := setCondition .markLate c.conditions }) } := by
  simp [takeGasOpen, hp, addCondition, onContext, Function.comp_def]

theorem takeGasOpen_other {s : State} (hc : s.cycle.phase ≠ .crimp) (hw : s.cycle.phase ≠ .waitWindow) :
    takeGasOpen s = s := by
  unfold takeGasOpen
  split <;> simp_all

/-- MK_GASOPEN in WAIT_WINDOW is the decision on the first plan. -/
theorem effect_mkGasopen_waiting {s : State} {c : CanContext} (hr : s.cycle.station = .run)
    (hp : s.cycle.phase = .waitWindow) (hc : s.context = some c) (hi : s.gas.stage = .idle) :
    effect .mkGasopen s = decideInPlan (gassingStart c s) := by
  rw [← enterGas_of_idle hc hi]
  simp [hr, takeGasOpen, hp]

/-- The first plan: complete when Mtol is not below Mt, and else the answer of drive and rate. -/
theorem planAnswer_gassingStart (c : CanContext) (s : State) :
    (gassingStart c s).planAnswer = planFrom s.params 0 s.dose.drive s.dose.rate := rfl

theorem planFrom_zero_of_le {p : Recipe} {d r : Option Nat} (h : p.targetMass ≤ p.tolerance) :
    planFrom p 0 d r = .complete := by
  unfold planFrom
  exact if_pos (by omega)

theorem planFrom_zero_of_absent {p : Recipe} {d r : Option Nat} (h : p.tolerance < p.targetMass)
    (hd : d = none ∨ r = none) : planFrom p 0 d r = .noReading := by
  rw [planFrom, if_neg (by omega)]
  cases d <;> cases r <;> simp_all

theorem planFrom_zero_of_some {p : Recipe} (f r : Nat) (h : p.tolerance < p.targetMass) :
    planFrom p 0 (some f) (some r) = if r = 0 then .noDrive else .pulse (plannedLength p 0 r) := by
  rw [planFrom, if_neg (by omega)]

/-- Settles O10: by the phase, and in WAIT_WINDOW by the answer of the first plan. -/
theorem gasOpenMarkStartsGassing : Obligations.GasOpenMarkStartsGassing := by
  unfold Obligations.GasOpenMarkStartsGassing
  refine ⟨fun s => ⟨fun hr => ?_, fun hr hp => ?_, fun hr hc hw => ?_⟩, ?_⟩
  · simp [exec_eq_effect, hr]
  · simp [exec_eq_effect, hr, takeGasOpen_crimp hp]
  · simp [exec_eq_effect, hr, takeGasOpen_other hc hw]
  intro s c hr hp hc hi h1
  have start := effect_mkGasopen_waiting hr hp hc hi
  have hmass : (gassingStart c s).mass ≤ (gassingStart c s).params.targetMass + (gassingStart c s).params.tolerance :=
    Nat.zero_le _
  have complete (hm : s.params.targetMass ≤ s.params.tolerance) :
      decideInPlan (gassingStart c s) = doseComplete (gassingStart c s) := by
    rw [decideInPlan, planAnswer_gassingStart, planFrom_zero_of_le hm]
    rfl
  have first {a : PlanAnswer} (hm : s.params.tolerance < s.params.targetMass)
      (ha : planFrom s.params 0 s.dose.drive s.dose.rate = a) (hn : a ≠ .complete) :
      decideInPlan (gassingStart c s) = actOnAnswer a (noteNoDrive a (gassingStart c s)) := by
    rw [decideInPlan_start (s := gassingStart c s) (by rw [planAnswer_gassingStart, ha]; exact hn) rfl h1, planAnswer_gassingStart, ha]
  dsimp only
  refine ⟨fun hm h0 => ?_, fun hm h0 => ?_, fun hm hd => ?_, fun hm hd hrate hor => ?_, fun hm hd hrate hh hn => ?_⟩ <;>
    rw [exec_eq_effect, start]
  · rw [complete hm, doseComplete_unchecked hmass rfl h0]
    rfl
  · rw [complete hm, doseComplete_checked hmass rfl rfl h0]
    rfl
  · rw [first hm (planFrom_zero_of_absent hm hd) (by simp)]
    rfl
  · obtain ⟨f, hf⟩ := Option.ne_none_iff_exists'.1 hd
    obtain ⟨r, hr⟩ := Option.ne_none_iff_exists'.1 hrate
    have ha := planFrom_zero_of_some f r hm
    rw [← hf, ← hr] at ha
    rw [first hm ha (by split <;> simp)]
    by_cases h0 : r = 0
    · cases ht : s.hold.table <;>
        simp [h0, hr, ht, actOnAnswer, noteNoDrive, gassingStart, freshGas, addCondition, onContext]
    · have ht : s.hold.table ≠ [] := by simpa [hr, h0] using hor
      simp [h0, hr, ht, actOnAnswer, noteNoDrive, gassingStart, freshGas, addCondition, onContext]
  · obtain ⟨f, hf⟩ := Option.ne_none_iff_exists'.1 hd
    obtain ⟨r, hr⟩ := Option.ne_none_iff_exists'.1 hrate
    have h0 : r ≠ 0 := by simpa [hr] using hn
    have ht : s.hold.table = [] := by simpa using hh
    have ha := planFrom_zero_of_some f r hm
    rw [← hf, ← hr, if_neg h0] at ha
    rw [first hm ha (by simp)]
    simp [ht, actOnAnswer, noteNoDrive, gassingStart, freshGas]

/-! ## The verdict of a crimp -/

theorem depthReading_le_iff (d : Int) (n : Nat) : depthReading d ≤ n ↔ max 0 (min 8000 d) ≤ (n : Int) := by
  unfold depthReading clampReading clampTo
  (repeat' split) <;> omega

/-- The context of a pocket whose crimp is judged with outcome `o`. -/
def judged (o : CrimpOutcome) (c : CanContext) (p : CrimpPart) : CanContext :=
  { c with
    crimp := some { p with outcome := o }
    reasons := if o = .window then insertReason .crimpBad c.reasons else c.reasons
    conditions := if o = .window then setCondition .crimpWindow c.conditions else c.conditions }

/-- The outcome of the crimp that ends (R29, R31). -/
def endOutcome (s : State) : CrimpOutcome :=
  match s.crimp.failure with
  | .noSeat => .noSeat
  | .overforce => .overforce
  | .timeout => .timeout
  | .none => if windowGood s.params s.crimp.peak s.crimp.finalDepth then .good else .window

theorem endOutcome_failed {s : State} (h : s.crimp.failure ≠ .none) :
    endOutcome s = failureOutcome s.crimp.failure := by
  unfold endOutcome
  split <;> simp_all [failureOutcome]

/-- The head with its crimp in DONE and judged, the pocket not yet advanced. -/
def doneWith (o : CrimpOutcome) (c : CanContext) (p : CrimpPart) (s : State) : State :=
  { s with context := some (judged o c p), crimp := { s.crimp with state := .done, timer := .stopped } }

/-- DONE is the judgement followed by the pocket's advance on the verdict. -/
theorem enterDone_eq {s : State} {c : CanContext} {p : CrimpPart} (hc : s.context = some c) (hp : c.crimp = some p) :
    enterDone s = crimpVerdict (endOutcome s = .good) (doneWith (endOutcome s) c p s) := by
  have hfail : (setCrimp .done .stopped s).crimp.failure = s.crimp.failure := rfl
  have hwin : windowGood (setCrimp .done .stopped s).params (setCrimp .done .stopped s).crimp.peak
      (setCrimp .done .stopped s).crimp.finalDepth = windowGood s.params s.crimp.peak s.crimp.finalDepth := rfl
  simp only [enterDone, hfail, hwin]
  by_cases hf : s.crimp.failure = .none
  · cases hw : windowGood s.params s.crimp.peak s.crimp.finalDepth <;>
      simp [endOutcome, hw, hf, setCrimp, doneWith, judged, addReason, addCondition, onCrimpPart, onContext, hc, hp]
  · rw [endOutcome_failed hf]
    cases hf' : s.crimp.failure <;>
      simp_all [setCrimp, doneWith, judged, onCrimpPart, onContext, failureOutcome]

/-- A pocket whose verdict does not start gassing. -/
theorem crimpVerdict_held {g : Bool} {s : State} {c : CanContext} (hp : s.cycle.phase = .crimp)
    (hc : s.context = some c) (h : g = false ∨ c.gasCloseTaken = true ∨ c.gasOpenTaken = false) :
    crimpVerdict g s =
      { s with
        cycle := { s.cycle with phase := if g = true ∧ c.gasCloseTaken = false then .waitWindow else .sealed } } := by
  cases g <;> cases hclose : c.gasCloseTaken <;> simp_all [crimpVerdict]

theorem crimpVerdict_gassing {s : State} {c : CanContext} (hp : s.cycle.phase = .crimp)
    (hc : s.context = some c) (hclose : c.gasCloseTaken = false) (hopen : c.gasOpenTaken = true) :
    crimpVerdict true s = enterGas s := by
  simp [crimpVerdict, hp, hc, hclose, hopen]

theorem endOutcome_good_iff (s : State) :
    endOutcome s = .good ↔ s.crimp.failure = .none ∧ windowGood s.params s.crimp.peak s.crimp.finalDepth = true := by
  by_cases hf : s.crimp.failure = .none
  · simp [endOutcome, hf]
  · rw [endOutcome_failed hf]
    cases hf' : s.crimp.failure <;> simp_all [failureOutcome]

/-- Settles O15: the judgement, and then the pocket's advance, which for a good crimp with gas-open taken is the
decision on the first plan. -/
theorem crimpSampleInReleaseJudgesTheCrimp : Obligations.CrimpSampleInReleaseJudgesTheCrimp := by
  unfold Obligations.CrimpSampleInReleaseJudgesTheCrimp
  intro force depth s c p hs hp hc hcp hi
  have hwindow : (decide (s.params.minDepth ≤ s.crimp.finalDepth ∧ s.crimp.finalDepth ≤ s.params.maxDepth
      ∧ s.params.minForce ≤ s.crimp.peak ∧ s.crimp.peak ≤ s.params.maxForce)) =
      windowGood s.params s.crimp.peak s.crimp.finalDepth := rfl
  dsimp only
  simp only [hwindow]
  have hgood : (decide (s.crimp.failure = .none) && windowGood s.params s.crimp.peak s.crimp.finalDepth) =
      decide (endOutcome s = .good) := by
    rw [decide_eq_decide.2 (endOutcome_good_iff s), Bool.decide_and, Bool.decide_eq_true]
  have hstep : effect (.crimpSample force depth) s =
      if max 0 (min 8000 depth) ≤ (s.params.openDepth : Int) then
        crimpVerdict (endOutcome s = .good) (doneWith (endOutcome s) c p s)
      else s := by
    simp only [effect_crimpSample, takeCrimpSample, hs, depthReading_le_iff, enterDone_eq hc hcp]
  rw [hgood]
  refine ⟨fun h => ?_, fun h => ⟨fun hn => ?_, fun hg => ?_⟩⟩ <;> rw [exec_eq_effect, hstep]
  · rw [if_neg (by omega)]
  · rw [if_pos h, crimpVerdict_held (s := doneWith _ c p s) hp rfl hn]
    rfl
  · obtain ⟨hg, hclose, hopen⟩ := hg
    rw [if_pos h, hg, crimpVerdict_gassing (s := doneWith _ c p s) hp rfl hclose hopen,
      enterGas_of_idle (s := doneWith _ c p s) rfl hi]
    have ho : endOutcome s = .good := of_decide_eq_true hg
    have plan := planned_decideInPlan (gassingStart (judged (endOutcome s) c p) (doneWith (endOutcome s) c p s))
    generalize decideInPlan _ = t at plan
    obtain ⟨idle, pulse⟩ := plan.working ⟨nofun, nofun⟩
    refine ⟨t, rfl, by rw [plan.frame]; rfl, ?_, by simpa [State.ventOn] using idle, by simpa [State.gasOn] using pulse,
      ?_, ?_⟩
    · rw [plan.crimpPart, ← ho]
      rfl
    · rw [plan.gasPart]
      rfl
    · rw [plan.frame, plan.timer rfl]
      rfl

end Sys2Proof.Machine
end

section
/-!
PROOFS. Zeroing time (O22): the end of a zeroing, the return-arc test and the vent wait.
-/

namespace Sys2Proof.Machine

theorem parkTest_of_calm {s : State} (h : s.cycle.silenceOver = false) : parkTest s = s := by
  simp [parkTest, h]

theorem slotPlace_idem (t : Slot Unit) : slotPlace () (slotPlace () t) = slotPlace () t := by
  cases h : t.body <;> simp [slotPlace, h]

theorem readingSum_eq (readings : List (BitVec 12)) : readingSum readings = (readings.map BitVec.toNat).sum := by
  induction readings with
  | nil => rfl
  | cons r rest ih => simp [readingSum, ih]

theorem reportA_latched {c : Cell} {s : State} (h : s.latched c = true) : reportA c s = s := if_pos h

theorem reportA_clear {c : Cell} {s : State} (h : s.latched c = false) :
    reportA c s = { s with
      line := statusPlaced s.line
      fault :=
        { latched := latchCell c s.fault.latched, enables := s.fault.enables
          alert := alertOf (latchCell c s.fault.latched) s.fault.enables } } :=
  if_neg (by simp [h])

theorem zeroingExpires_iff {s : State} {since : Nat} (h : s.sensor.zeroing = .collecting since) :
    s.zeroingExpires = true ↔ since + s.params.zeroingTime * 500 ≤ s.clock := by
  simp only [State.zeroingExpires, h, reached_iff]

/-- A zeroing with 16 readings taken into effect, with the STATUS of the changes and of ZERO_DRIFT (R45, R50). -/
theorem applyZeroing_eq (s : State) :
    let mean := (s.sensor.zeroSamples.map BitVec.toNat).sum / 16
    let u := if 200 < mean then reportA .zeroDrift s else s
    applyZeroing s = { s with
      cycle := { s.cycle with grant := .none }
      sensor :=
        { s.sensor with
          zeroing := .idle, zeroSamples := [], zeroOffset := min 200 mean, zeroDebt := s.sensor.zeroDebt - 1 }
      line := if min 200 mean = s.sensor.zeroOffset ∧ s.sensor.zeroDebt = 0 then u.line else statusPlaced u.line
      fault := u.fault } := by
  have hmean : readingMean s.sensor.zeroSamples = (s.sensor.zeroSamples.map BitVec.toNat).sum / 16 := by
    rw [readingMean, readingSum_eq]; rfl
  unfold applyZeroing
  simp only [hmean]
  generalize (s.sensor.zeroSamples.map BitVec.toNat).sum / 16 = mean
  have hreport : (if Config.maxOffset < mean then reportA .zeroDrift s else s) =
      { s with
        line := (if 200 < mean then reportA .zeroDrift s else s).line
        fault := (if 200 < mean then reportA .zeroDrift s else s).fault } := by
    unfold reportA Config.maxOffset
    (repeat' split) <;> rfl
  rw [hreport]
  have hchanged : (min Config.maxOffset mean != s.sensor.zeroOffset || decide (0 < s.sensor.zeroDebt)) = true ↔
      ¬(min 200 mean = s.sensor.zeroOffset ∧ s.sensor.zeroDebt = 0) := by
    simp [Config.maxOffset]
    omega
  by_cases h : min 200 mean = s.sensor.zeroOffset ∧ s.sensor.zeroDebt = 0
  · rw [if_neg (by rw [hchanged]; simpa using h), if_pos h]
    rfl
  · rw [if_pos (hchanged.2 h), if_neg h]
    rfl

theorem effect_zeroing_ends {s : State} {since : Nat} (h : s.sensor.zeroing = .collecting since)
    (ht : since + s.params.zeroingTime * 500 ≤ s.clock) (hq : s.cycle.silenceOver = false) :
    effect .zeroingTimerExpiry s =
      if 16 ≤ s.sensor.zeroSamples.length then applyZeroing s else finishZeroing s := by
  rw [effect_zeroingTimerExpiry, if_pos ((zeroingExpires_iff h).2 ht), parkTest_of_calm]
  · rfl
  · unfold endZeroing
    split
    · rw [applyZeroing_eq]
      exact hq
    · exact hq

theorem statusPlaced_idem (l : LineUnit) : statusPlaced (statusPlaced l) = statusPlaced l := by
  simp [statusPlaced, slotPlace_idem]

/-- The remaining return arc of R19 with whole numbers only. -/
theorem zeroTestPasses_iff (s : State) (d : Nat) :
    s.zeroTestPasses d = true ↔
      s.cycle.station = .run ∧ s.cycle.phase = .returning ∧ s.gas.stage = .idle ∧ s.gas.ventSince ≤ d
        ∧ 1 ≤ s.sensor.zeroDebt
        ∧ (match s.cycle.period, s.cycle.infeedRef with
            | some period, some infeed =>
              decide
                (((s.params.zeroingTime : Int) + 10) * 500
                  ≤ (period : Int) * 500 - ((d - infeed : Nat) : Int) - 20 * 500)
            | _, _ => false) = true := by
  cases hp : s.cycle.period <;> cases hi : s.cycle.infeedRef <;>
    simp [State.zeroTestPasses, State.ventOn, hp, hi, Config.ventTime, Config.zeroingMargin, Config.ticksPerMs,
      and_assoc]
  exact fun _ _ _ _ _ => decide_eq_true_iff.trans (by omega)

/-- Settles O22: the zeroing at its Tz with and without its 16 readings, the return-arc test, and the vent wait. -/
theorem zeroingTimeIsGrantedAndEnds : Obligations.ZeroingTimeIsGrantedAndEnds := by
  unfold Obligations.ZeroingTimeIsGrantedAndEnds
  refine ⟨fun s since => ⟨fun h => ?_, fun h ht => ?_, fun ⟨h, ht, hq⟩ hn => ?_, fun ⟨h, ht, hq⟩ hn => ?_⟩,
    fun s d => ⟨fun h => ?_, fun h ht => ?_, fun h ht => ⟨fun hp => ?_, fun hp => ?_⟩, ?_⟩⟩
  · simp [exec_eq_effect, State.zeroingExpires, h]
  · rw [exec_eq_effect, effect_zeroingTimerExpiry, if_neg]
    rw [zeroingExpires_iff h]
    omega
  · rw [exec_eq_effect, effect_zeroing_ends h ht hq, if_neg (by omega)]
    rfl
  · have hend := effect_zeroing_ends h ht hq
    rw [if_pos (by omega), applyZeroing_eq] at hend
    refine ⟨_, exec_eq_effect _ _, ?_⟩
    rw [hend]
    refine ⟨rfl, fun ⟨hm, hl⟩ => ?_, fun hd => ?_⟩
    · simp only [if_pos hm, reportA_clear hl, statusPlaced_idem, ite_self]
      refine ⟨?_, trivial, fun k hk => ?_, rfl⟩
      · exact (isLatched_latchCell ..).trans (by simp)
      · exact (isLatched_latchCell ..).trans (by simp [hk, State.latched])
    · have hr : (if 200 < (s.sensor.zeroSamples.map BitVec.toNat).sum / 16 then reportA .zeroDrift s else s) = s := by
        split
        · next hm => exact reportA_latched (by simpa [hm] using hd)
        · rfl
      simp only [hr]
      exact ⟨trivial, trivial⟩
  · simp [exec_eq_effect, h]
  · rw [exec_eq_effect, effect_zeroingTest, h]
    simp only [reached_iff, Config.ventTime]
    rw [if_neg (show ¬d + 20 * 500 ≤ s.clock by omega)]
  · rw [exec_eq_effect, effect_zeroingTest, h]
    simp only [reached_iff, Config.ventTime]
    rw [if_pos (show d + 20 * 500 ≤ s.clock from ht), makeZeroTest]
    exact congrArg _ (if_pos ((zeroTestPasses_iff s d).2 hp))
  · rw [exec_eq_effect, effect_zeroingTest, h]
    simp only [reached_iff, Config.ventTime]
    rw [if_pos (show d + 20 * 500 ≤ s.clock from ht), makeZeroTest]
    exact congrArg _ (if_neg ((zeroTestPasses_iff s d).not.2 hp))
  · rw [exec_eq_effect, effect_grantVentWaitExpiry]
    simp only [reached_iff, State.ventOn, beq_iff_eq]
    rfl

end Sys2Proof.Machine
end

section
/-!
PROOFS. A good frame of another station on its way to its owner, and LOAD at the Recipe Store (O41).
-/

namespace Sys2Proof.Machine

/-! ## A frame heard -/

/-- The head after the reception of a good frame, before its owner acts. -/
def afterGood (s : State) : State := { s with line := lineAfterGood s }

theorem endGoodReception_line (s : State) :
    { endGoodReception s with line := { (endGoodReception s).line with badCount := 0 } } = afterGood s := by
  unfold endGoodReception endReception afterGood lineAfterGood
  by_cases h : s.line.condition = .stuck <;> simp [h]

theorem filterGood_dispatched {k : FrameKind} {sender target : StationNo} {act : State → State} {s : State}
    (hs : s.strapsValid = true) (ho : sender ≠ s.line.station)
    (hd : State.dispatches { s with line := { s.line with badCount := 0 } } k target none = true) :
    filterGood k sender target none act s = act { s with line := { s.line with badCount := 0 } } := by
  unfold filterGood
  dsimp only
  rw [if_pos (by exact hs), if_neg ho, if_pos hd]

/-- A good frame without a zone, addressed here and of an admitted kind, reaches its owner. -/
theorem receive_heard {k : FrameKind} {sender target : StationNo} {act : State → State} {s : State}
    (hh : s.hears sender) (ht : target = s.line.station ∨ target = everyStation)
    (hk : admitted k s.cycle.station = true) : receive k sender target none true act s = retest (act (afterGood s)) := by
  obtain ⟨hstraps, _, hother⟩ := hh
  have hd : (afterGood s).dispatches k target none = true := by
    have haddr : (afterGood s).addressed target = true := by
      obtain rfl | rfl := ht <;> simp [State.addressed, afterGood, lineAfterGood]
    rw [State.dispatches, haddr, show admitted k (afterGood s).cycle.station = true from hk]
    rfl
  have hkept : (endGoodReception s).line.station = s.line.station := by simp
  rw [receive, if_pos rfl, filterGood_dispatched, endGoodReception_line]
  · simpa [State.strapsValid] using hstraps
  · rwa [hkept]
  · rwa [endGoodReception_line]

theorem frameGood_of_hears {k : FrameKind} {sender : StationNo} {n : Nat} {s : State} (hh : s.hears sender)
    (hn : lengthAllowed k n = true) : frameGood k sender n = true := by
  obtain ⟨_, hs, _⟩ := hh
  simp [frameGood, hs, hn]

/-! ## The bytes of a LOAD -/

/-- The positions of the image that `n` bytes from `p` on are written to. -/
def positionsFrom (p n : Nat) : List Nat :=
  ((List.range n).map (fun i => p + i)).filter (fun q => decide (q < 256))

theorem mem_positionsFrom {p n q : Nat} : q ∈ positionsFrom p n ↔ p ≤ q ∧ q < p + n ∧ q < 256 := by
  simp only [positionsFrom, List.mem_filter, List.mem_map, List.mem_range, decide_eq_true_eq]
  constructor
  · rintro ⟨⟨i, hi, rfl⟩, hq⟩
    omega
  · rintro ⟨h1, h2, h3⟩
    exact ⟨⟨q - p, by omega, by omega⟩, h3⟩

theorem positionsFrom_succ (p n : Nat) :
    positionsFrom p (n + 1) = (if p < 256 then [p] else []) ++ positionsFrom (p + 1) n := by
  simp only [positionsFrom, List.range_succ_eq_map, List.map_cons, List.map_map, List.filter_cons, Nat.add_zero]
  have shift : (fun i => p + i) ∘ Nat.succ = fun i => p + 1 + i := by funext i; simp; omega
  rw [shift]
  split <;> simp_all

theorem readByte_writeImage (p q : Nat) (v : Byte) (u : RecipeUnit) :
    readByte (writeImage p v u).image q = if q = p ∧ p < 256 then v else readByte u.image q := by
  unfold writeImage
  split
  · next h => rw [readByte_writeByte]; simp [h]
  · next h => simp [h]

theorem written_writeImage (p q : Nat) (v : Byte) (u : RecipeUnit) :
    (writeImage p v u).written.getLsbD q = (decide (q = p ∧ p < 256) || u.written.getLsbD q) := by
  unfold writeImage
  split
  · next h =>
    simp only [BitVec.getLsbD_or, BitVec.getLsbD_twoPow, h]
    cases u.written.getLsbD q <;> simp [eq_comm]
  · next h => simp [h]

theorem loadedLength_writeImage (p : Nat) (v : Byte) (u : RecipeUnit) :
    (writeImage p v u).loadedLength =
      u.loadedLength + if p < 256 ∧ u.written.getLsbD p = false then 1 else 0 := by
  unfold writeImage
  split
  · next h => cases hw : u.written.getLsbD p <;> simp [h]
  · next h => simp [h]

theorem readByte_writeBytes (q : Nat) (data : List Byte) : ∀ (p : Nat) (u : RecipeUnit),
    readByte (writeBytes p data u).image q =
      if q ∈ positionsFrom p data.length then data.getD (q - p) 0 else readByte u.image q := by
  induction data with
  | nil => intro p u; simp [writeBytes, positionsFrom]
  | cons v rest ih =>
    intro p u
    rw [writeBytes, ih, readByte_writeImage]
    simp only [mem_positionsFrom, List.length_cons]
    by_cases hq : q = p
    · subst hq
      rw [if_neg (by omega)]
      simp
    · by_cases hin : p + 1 ≤ q ∧ q < p + 1 + rest.length ∧ q < 256
      · obtain ⟨i, rfl⟩ : ∃ i, q = p + 1 + i := ⟨q - (p + 1), by omega⟩
        rw [if_pos hin, if_pos (by omega), show p + 1 + i - p = i + 1 by omega, Nat.add_sub_cancel_left]
        simp
      · rw [if_neg hin, if_neg (by omega), if_neg (by omega)]

theorem written_writeBytes (q : Nat) (data : List Byte) : ∀ (p : Nat) (u : RecipeUnit),
    (writeBytes p data u).written.getLsbD q =
      (decide (q ∈ positionsFrom p data.length) || u.written.getLsbD q) := by
  induction data with
  | nil => intro p u; simp [writeBytes, positionsFrom]
  | cons v rest ih =>
    intro p u
    rw [writeBytes, ih, written_writeImage, ← Bool.or_assoc, ← Bool.decide_or]
    congr 1
    refine decide_eq_decide.2 ?_
    simp only [mem_positionsFrom, List.length_cons]
    omega

theorem loadedLength_writeBytes (data : List Byte) : ∀ (p : Nat) (u : RecipeUnit),
    (writeBytes p data u).loadedLength =
      u.loadedLength + ((positionsFrom p data.length).filter (fun q => !u.written.getLsbD q)).length := by
  induction data with
  | nil => intro p u; simp [writeBytes, positionsFrom]
  | cons v rest ih =>
    intro p u
    have later : (positionsFrom (p + 1) rest.length).filter (fun q => !(writeImage p v u).written.getLsbD q) =
        (positionsFrom (p + 1) rest.length).filter (fun q => !u.written.getLsbD q) := by
      refine List.filter_congr fun q hq => ?_
      obtain ⟨hpq, -, -⟩ := mem_positionsFrom.1 hq
      rw [written_writeImage, decide_eq_false (by omega), Bool.false_or]
    rw [writeBytes, ih, later, loadedLength_writeImage, List.length_cons, positionsFrom_succ, List.filter_append,
      List.length_append]
    have head : (((if p < 256 then [p] else []).filter (fun q => !u.written.getLsbD q))).length =
        if p < 256 ∧ u.written.getLsbD p = false then 1 else 0 := by
      by_cases hp : p < 256 <;> cases hw : u.written.getLsbD p <;>
        simp only [hp, hw, if_true, if_false, List.filter_cons, List.filter_nil] <;> rfl
    rw [head]
    omega

theorem writeBytes_shape (p : Nat) (data : List Byte) (u : RecipeUnit) :
    writeBytes p data u = { u with
      image := (writeBytes p data u).image, written := (writeBytes p data u).written
      loadedLength := (writeBytes p data u).loadedLength } := by
  induction data generalizing p u with
  | nil => rfl
  | cons v rest ih =>
    rw [writeBytes, ih]
    unfold writeImage
    split <;> rfl

theorem retest_of_no_claim {s : State} (h : s.draw.claim = .none) : retest s = s := by
  simp [retest, h]

/-! ## LOAD -/

/-- A new image begun (R147, R176, R186). -/
theorem newImage_eq (s : State) :
    newImage s = { s with
      cycle :=
        { s.cycle with station := .loading, loadingSince := s.clock, zeroTest := none, silenceOver := false }
      line := statusPlaced s.line
      draw := State.reset.draw
      hold := { table := [], asserted := false, resend := none }
      recipe := State.reset.recipe
      fault := { latched := s.fault.latched, enables := 15, alert := alertOf s.fault.latched 15 } } := by
  cases ha : s.hold.asserted <;>
    simp [newImage, moveTo, holdAtMove, drawAtMove, cycleAtMove, setAsserted, setEnables, formAlert, placeStatus,
      statusPlaced, slotPlace_idem, ha]

/-- Settles O41: the bytes written by the recursion of the write, over the image as it stands or a new one. -/
theorem loadWritesTheImage : Obligations.LoadWritesTheImage := by
  unfold Obligations.LoadWritesTheImage
  intro s sender target offset data hh ht h1 h14
  have hgood : frameGood .load sender (data.length + 1) = true :=
    frameGood_of_hears hh (by simp only [lengthAllowed, decide_eq_true_eq]; omega)
  have heard (hk : admitted .load s.cycle.station = true) :
      effect (.load sender target offset data) s = retest (takeLoad offset data (afterGood s)) := by
    rw [effect_load, hgood, receive_heard hh ht hk]
  dsimp only
  refine ⟨fun hl => ?_, fun hl => ?_⟩
  · have hstep := heard (by rw [hl]; rfl)
    have hload : takeLoad offset data (afterGood s) =
        { s with line := lineAfterGood s, recipe := writeBytes offset.toNat data s.recipe } := by
      have : (afterGood s).cycle.station = .loading := hl
      simp only [takeLoad, this]
      rfl
    rw [hload] at hstep
    refine ⟨_, exec_eq_effect _ _, ?_⟩
    rw [hstep]
    simp only [retest_keeps]
    exact ⟨fun p => readByte_writeBytes p data _ _, loadedLength_writeBytes data _ _,
      fun p => written_writeBytes p data _ _, writeBytes_shape .., trivial⟩
  · have hstep := heard (by rw [hl]; rfl)
    have hload : takeLoad offset data (afterGood s) =
        { newImage (afterGood s) with recipe := writeBytes offset.toNat data (newImage (afterGood s)).recipe } := by
      have : (afterGood s).cycle.station = .ready := hl
      simp only [takeLoad, this]
    rw [hload, newImage_eq, retest_of_no_claim rfl] at hstep
    refine ⟨_, exec_eq_effect _ _, ?_⟩
    rw [hstep]
    have unwritten (q : Nat) : State.reset.recipe.written.getLsbD q = false := BitVec.getLsbD_zero
    refine ⟨rfl, rfl, fun p => ?_, fun p => ?_, ?_, ?_, ?_, ?_, ?_, ?_, ?_, rfl, rfl, rfl, ?_⟩
    · exact readByte_writeBytes p data _ _
    · exact (written_writeBytes p data _ _).trans (by rw [unwritten p, Bool.or_false]; rfl)
    · refine (loadedLength_writeBytes data _ _).trans ?_
      simp only [unwritten, Bool.not_false, List.filter_true]
      exact Nat.zero_add _
    all_goals rw [writeBytes_shape]
    all_goals rfl

end Sys2Proof.Machine
end

section
/-!
PROOFS. MK_GASCLOSE: the window cut in every phase and stage (O11).
-/

namespace Sys2Proof.Machine

/-! ## The end of gassing at a cut -/

theorem length_onLast {α : Type} (f : α → α) : ∀ l : List α, (onLast f l).length = l.length
  | [] => rfl
  | [_] => rfl
  | _ :: y :: rest => congrArg (· + 1) (length_onLast f (y :: rest))

theorem getLast?_onLast {α : Type} (f : α → α) : ∀ l : List α, (onLast f l).getLast? = l.getLast?.map f
  | [] => rfl
  | [_] => rfl
  | x :: y :: rest => by
    have ih := getLast?_onLast f (y :: rest)
    have hne : onLast f (y :: rest) ≠ [] := by
      intro h
      simpa [h] using length_onLast f (y :: rest)
    obtain ⟨z, l, hz⟩ := List.exists_cons_of_ne_nil hne
    rw [onLast, hz, List.getLast?_cons_cons, ← hz, ih, List.getLast?_cons_cons]

/-- The candidates after a window cut at a mass `m` (R74, R93). -/
def cutReasons (p : Recipe) (m : Nat) (reasons : List Reason) : List Reason :=
  let cut :=
    if m = 0 then insertReason .notGassed reasons
    else if m + p.tolerance < p.targetMass then insertReason .lowDose reasons
    else reasons
  if p.targetMass + p.tolerance < m then insertReason .highDose cut else cut

theorem compareDose_eq {s : State} {c : CanContext} {g : GasPart} (hc : s.context = some c) (hg : c.gas = some g) :
    compareDose s =
      { s with
        context :=
          some
            { c with
              reasons :=
                if s.params.targetMass + s.params.tolerance < g.mass then insertReason .highDose c.reasons
                else c.reasons } } := by
  have hpart : s.gasPart = some g := by simp [State.gasPart, hc, hg]
  simp only [compareDose, hpart]
  split
  · simp [addReason, onContext, hc]
  · rw [← hc]

/-- Gassing ended by a window cut (R93). -/
theorem endGassing_cut {s : State} {c : CanContext} {g : GasPart} (hc : s.context = some c) (hg : c.gas = some g)
    (hp : s.cycle.phase = .gas) :
    endGassing (cutReason (addCondition .windowCut s)) =
      { s with
        context :=
          some
            { c with
              conditions := setCondition .windowCut c.conditions
              reasons := cutReasons s.params g.mass c.reasons }
        cycle := { s.cycle with phase := .sealed }
        gas := { s.gas with stage := .ended, settleTimer := none, checkTimer := none } } := by
  have cut : cutReason (addCondition .windowCut s) =
      { s with
        context :=
          some
            { c with
              conditions := setCondition .windowCut c.conditions
              reasons :=
                if g.mass = 0 then insertReason .notGassed c.reasons
                else if g.mass + s.params.tolerance < s.params.targetMass then insertReason .lowDose c.reasons
                else c.reasons } } := by
    have hm : (addCondition .windowCut s).mass = g.mass := by
      simp [State.mass, State.gasPart, addCondition, onContext, hc, hg]
    have hparams : (addCondition .windowCut s).params = s.params := rfl
    simp only [cutReason, hm, hparams]
    (repeat' split) <;> simp [addReason, addCondition, onContext, hc]
  rw [cut, endGassing, enterEnded, compareDose_eq rfl (by exact hg)]
  exact if_pos hp

/-- GAS driven off in an open context (R65, R136). -/
theorem endPulse_eq {o : PulseOutcome} {s : State} {c : CanContext} {g : GasPart} (hc : s.context = some c)
    (hg : c.gas = some g) :
    endPulse o s =
      { s with
        context :=
          some
            { c with
              gas :=
                some
                  { g with
                    pulses :=
                      onLast
                        (fun p =>
                          { p with
                            credited := some s.dose.credited, pcAtEnd := some s.sensor.sample.pc
                            outcome := some o })
                        g.pulses } }
        dose := { s.dose with running := false }
        gas := { s.gas with feedbackWindow := none, closeWindow := some s.clock, lastOpen := s.dose.elapsed }
        draw := { s.draw with self := if s.draw.self = some .driven then some (.closing 10) else s.draw.self } } := by
  simp only [endPulse, closeSelf, onLastPulse, onGasPart, onContext, hc, Option.map_some, hg]
  cases hs : s.draw.self with
  | none => rfl
  | some e => cases e <;> rfl

/-- A valve that shows closed as gassing ends (R87). -/
theorem valveClosed_ended {s : State} (hs : s.gas.stage = .ended) (hl : s.cycle.station ≠ .loading) :
    valveClosed s =
      { s with
        gas := { s.gas with closeWindow := none }
        line :=
          { s.line with
            shutSlot := slotPlace { zone := s.zoneByte, samples := s.gas.lastOpen } s.line.shutSlot
            statusSlot := if s.draw.self = some .stuck then slotPlace () s.line.statusSlot else s.line.statusSlot }
        draw := { s.draw with self := none } } := by
  have ended : (reportClosed { s with gas := { s.gas with closeWindow := none } }).gas.stage ≠ .settle := by simp [hs]
  rw [valveClosed, startSettle_of_ne ended]
  simp only [reportClosed, if_neg hl]
  split <;> simp_all [placeShut, placeStatus] <;> rfl

/-! ## MK_GASCLOSE -/

theorem hasCondition_set (k : Condition) (flags : BitVec 16) : hasCondition k (setCondition k flags) = true := by
  cases k <;> simp [hasCondition, setCondition, conditionMask, conditionBit]

/-- The claim after a cancellation (R134). -/
theorem cancelClaim_eq (s : State) :
    cancelClaim s = { s with
      dose := { s.dose with attemptLength := (cancelClaim s).dose.attemptLength }
      line := { s.line with openSlot := (cancelClaim s).line.openSlot }
      draw :=
        { s.draw with
          requestHeld := false
          claim :=
            match s.draw.claim with
            | .placed => if slotOnLine s.line.openSlot then .cancelled else .none
            | .cancelled => .cancelled
            | _ => .none } } := by
  cases hc : s.draw.claim <;> simp only [cancelClaim, hc]
  case placed => split <;> rfl
  all_goals simp [setClaim]
/-- The window cut without a running pulse: a claim is cancelled, and gassing ends. -/
theorem cutWindow_undriven {s : State} (h : gassingStage s.gas.stage) (hp : s.gas.stage ≠ .pulse) :
    cutWindow s =
      endGassing (cutReason (addCondition .windowCut (if s.gas.stage = .claim then cancelClaim s else s))) := by
  unfold cutWindow
  cases hs : s.gas.stage <;> simp_all [gassingStage]

/-- The context after a window cut, but for its pulse list. -/
def cutContext (p : Recipe) (m : Nat) (c : CanContext) : CanContext :=
  { c with conditions := setCondition .windowCut c.conditions, reasons := cutReasons p m c.reasons }

/-- MK_GASCLOSE in GAS without a running pulse. -/
theorem takeGasClose_undriven {s : State} {c : CanContext} {g : GasPart} (hc : s.context = some c)
    (hg : c.gas = some g) (hp : s.cycle.phase = .gas) (h : gassingStage s.gas.stage) (hs : s.gas.stage ≠ .pulse) :
    let u := if s.gas.stage = .claim then cancelClaim s else s
    takeGasClose s =
      { s with
        context := some (cutContext s.params g.mass c)
        cycle := { s.cycle with phase := .sealed }
        gas := { s.gas with stage := .ended, settleTimer := none, checkTimer := none }
        dose := { s.dose with attemptLength := u.dose.attemptLength }
        line := { s.line with openSlot := u.line.openSlot }
        draw := { s.draw with claim := u.draw.claim, requestHeld := u.draw.requestHeld } } := by
  dsimp only
  have hu : (if s.gas.stage = .claim then cancelClaim s else s) = { s with
      dose := { s.dose with attemptLength := (if s.gas.stage = .claim then cancelClaim s else s).dose.attemptLength }
      line := { s.line with openSlot := (if s.gas.stage = .claim then cancelClaim s else s).line.openSlot }
      draw :=
        { s.draw with
          claim := (if s.gas.stage = .claim then cancelClaim s else s).draw.claim
          requestHeld := (if s.gas.stage = .claim then cancelClaim s else s).draw.requestHeld } } := by
    split
    · rw [cancelClaim_eq]
    · rfl
  simp only [takeGasClose, hp, cutWindow_undriven h hs]
  generalize (if s.gas.stage = .claim then cancelClaim s else s) = u at hu
  have hcu : u.context = some c := by rw [hu]; exact hc
  have hpu : u.cycle.phase = .gas := by rw [hu]; exact hp
  rw [endGassing_cut hcu hg hpu, hu]
  rfl

/-- The gas part whose running pulse is cut. -/
def cutPart (g : GasPart) (s : State) : GasPart :=
  { g with
    pulses :=
      onLast
        (fun p =>
          { p with credited := some s.dose.credited, pcAtEnd := some s.sensor.sample.pc, outcome := some .cut })
        g.pulses }

/-- The head whose running pulse is cut by MK_GASCLOSE, GAS_FB not yet looked at. -/
def pulseCut (c : CanContext) (g : GasPart) (s : State) : State :=
  { s with
    context := some { cutContext s.params g.mass c with gas := some (cutPart g s) }
    cycle := { s.cycle with phase := .sealed }
    dose := { s.dose with running := false }
    gas :=
      { s.gas with
        stage := .ended, settleTimer := none, checkTimer := none, feedbackWindow := none
        closeWindow := some s.clock, lastOpen := s.dose.elapsed }
    draw := { s.draw with self := if s.draw.self = some .driven then some (.closing 10) else s.draw.self } }

/-- MK_GASCLOSE in GAS in a running pulse. -/
theorem takeGasClose_pulse {s : State} {c : CanContext} {g : GasPart} (hc : s.context = some c)
    (hg : c.gas = some g) (hp : s.cycle.phase = .gas) (hs : s.gas.stage = .pulse) :
    takeGasClose s = setPhase .sealed (closeIfShut (pulseCut c g s)) := by
  simp only [takeGasClose, hp, cutWindow, hs]
  rw [endPulse_eq hc hg]
  refine congrArg (fun u => setPhase .sealed (closeIfShut u))
    (endGassing_cut (c := { c with gas := some (cutPart g s) }) (g := cutPart g s) ?_ ?_ hp)
  · rfl
  · rfl

/-- Settles O11: by the phase, and in GAS by whether a pulse runs, whose end then waits for GAS_FB. -/
theorem gasCloseMarkCutsTheWindow : Obligations.GasCloseMarkCutsTheWindow := by
  unfold Obligations.GasCloseMarkCutsTheWindow
  refine ⟨fun s => ⟨fun hr => ?_, fun hr hp => ?_, fun hr hp => ?_, fun hr hp => ?_⟩,
    fun s c g hr hc hg => ⟨fun hp hs => ?_, fun hp hs => ?_⟩⟩
  · simp [exec_eq_effect, hr]
  · simp [exec_eq_effect, hr, takeGasClose, hp, addReason, onContext, Function.comp_def]
  · simp [exec_eq_effect, hr, takeGasClose, hp, addReason, addCondition, onContext, setPhase, Function.comp_def]
  · obtain hp | hp | hp := hp <;> simp [exec_eq_effect, hr, takeGasClose, hp]
  · refine ⟨_, exec_eq_effect _ _, ?_⟩
    rw [effect_mkGasclose, if_pos hr]
    by_cases hpulse : s.gas.stage = .pulse
    · rw [takeGasClose_pulse hc hg hp hpulse]
      have entries : (cutPart g s).pulses.length = g.pulses.length := length_onLast ..
      have last : (cutPart g s).pulses.getLast?.map (fun p => (p.credited, p.pcAtEnd, p.outcome)) =
          g.pulses.getLast?.map
            (fun _ => (some s.dose.credited, some s.sensor.sample.pc, some PulseOutcome.cut)) := by
        rw [cutPart, getLast?_onLast, Option.map_map]
        rfl
      have part : some ((cutPart g s).mass, (cutPart g s).remainder, (cutPart g s).strikes, (cutPart g s).pulses.length)
          = some (g.mass, g.remainder, g.strikes, g.pulses.length) := by rw [entries]; rfl
      by_cases hfb : s.gasFb = true
      · rw [closeIfShut, if_pos (by exact hfb)]
        exact ⟨rfl, rfl, rfl, rfl, congrArg some (hasCondition_set ..), rfl, part,
          fun _ => ⟨rfl, rfl, last, fun _ => ⟨rfl, rfl, fun h => if_pos h⟩, by simp [hfb]⟩, by simp [hpulse], rfl⟩
      · rw [closeIfShut, if_neg (by exact hfb), valveClosed_ended rfl (by simp [pulseCut, hr])]
        exact ⟨rfl, rfl, rfl, rfl, congrArg some (hasCondition_set ..), rfl, part,
          fun _ => ⟨rfl, rfl, last, fun h => absurd h hfb, fun _ => ⟨rfl, rfl, rfl⟩⟩, by simp [hpulse], rfl⟩
    · rw [takeGasClose_undriven hc hg hp hs hpulse]
      refine ⟨rfl, rfl, rfl, rfl, congrArg some (hasCondition_set ..), rfl, ?_, fun h => absurd h hpulse, fun hl => ?_,
        rfl⟩
      · simp [State.gasPart, cutContext, hg]
      · simp only [if_pos hl]
        exact congrArg (fun u => u.draw.claim) (cancelClaim_eq s)
  · rw [exec_eq_effect, effect_mkGasclose, if_pos hr]
    simp only [takeGasClose, hp, cutCheck, if_pos hs, enterEnded]
    rw [compareDose_eq (c := { c with check := c.check.map (fun k => { k with verdict := .cut }) })
      (by simp [cutCheckPart, onCheckPart, onContext, hc]) (by exact hg)]
    rfl

end Sys2Proof.Machine
end

section
/-!
PROOFS. What HeadFrame names, operation by operation: the end of a pocket's work and the moves of the station leave it.
-/

namespace Sys2Proof.Machine

/-! ## The frame as one value -/

/-- What HeadFrame names of a head, the reject run apart, over a head with the rest at its reset values. -/
def State.framed (s : State) : State :=
  { s with
    context := none
    cycle :=
      { State.reset.cycle with
        counter := s.cycle.counter, period := s.cycle.period, infeedRef := s.cycle.infeedRef
        startRefusal := s.cycle.startRefusal, loadingSince := s.cycle.loadingSince }
    crimp :=
      { State.reset.crimp with peak := s.crimp.peak, failure := s.crimp.failure, lastDepth := s.crimp.lastDepth }
    sensor :=
      { s.sensor with
        scan := .full, zeroing := .idle, zeroSamples := [], zeroDebt := 0, closings := 0 }
    dose := { s.dose with running := false, attemptLength := none }
    gas := { State.reset.gas with feedbackSeen := s.gas.feedbackSeen, stuckEpisode := s.gas.stuckEpisode }
    line :=
      { s.line with
        faultSlot := .vacant, holdSlot := .vacant, shutSlot := .vacant, openSlot := .vacant
        statusSlot := .vacant, resultSlot := .vacant }
    draw := { State.reset.draw with keyed := s.draw.keyed, phantoms := s.draw.phantoms }
    hold := State.reset.hold
    result := { State.reset.result with carried := s.result.carried }
    fault := { s.fault with latched := 0, alert := false } }

theorem headFrame_of_framed {s t : State} (h : t.framed = s.framed) (hr : t.result.rejectRun = s.result.rejectRun) :
    HeadFrame s t := by
  simp only [State.framed, State.mk.injEq, CycleUnit.mk.injEq, CrimpUnit.mk.injEq, SensorUnit.mk.injEq,
    DoseUnit.mk.injEq, GasUnit.mk.injEq, LineUnit.mk.injEq, DrawUnit.mk.injEq, ResultUnit.mk.injEq,
    FaultUnit.mk.injEq] at h
  constructor <;> simp_all

/-! ## The operations of a pocket's work -/

/-- `t` is `s` after work on its pocket: the frame, the result unit, the cells and the station stay, and the open context
keeps its cycle and gains no candidate that stands before MARK_ERROR. -/
structure WorkKept (s t : State) : Prop where
  frame : t.framed = s.framed
  result : t.result = s.result
  fault : t.fault = s.fault
  station : t.cycle = { s.cycle with phase := t.cycle.phase }
  cycle : t.context.map (·.cycle) = s.context.map (·.cycle)
  reasons : ∀ d, t.context = some d → ∃ c, s.context = some c ∧
    ∀ r ∈ d.reasons, r ∈ c.reasons ∨ reasonCode .markError < reasonCode r

theorem WorkKept.of_context {s t : State} (h : t.framed = s.framed) (hr : t.result = s.result)
    (hf : t.fault = s.fault) (hs : t.cycle = { s.cycle with phase := t.cycle.phase }) (hc : t.context = s.context) :
    WorkKept s t :=
  ⟨h, hr, hf, hs, by rw [hc], fun d hd => ⟨d, hc ▸ hd, fun _ hr => .inl hr⟩⟩

theorem WorkKept.refl (s : State) : WorkKept s s := .of_context rfl rfl rfl rfl rfl

theorem WorkKept.trans {s t u : State} (h : WorkKept s t) (k : WorkKept t u) : WorkKept s u where
  frame := k.frame.trans h.frame
  result := k.result.trans h.result
  fault := k.fault.trans h.fault
  station := by rw [k.station, h.station]
  cycle := k.cycle.trans h.cycle
  reasons := fun e he => by
    obtain ⟨d, hd, hed⟩ := k.reasons e he
    obtain ⟨c, hc, hdc⟩ := h.reasons d hd
    exact ⟨c, hc, fun r hr => (hed r hr).elim (hdc r) .inr⟩

theorem workKept_onContext {f : CanContext → CanContext} (hc : ∀ c, (f c).cycle = c.cycle)
    (hr : ∀ c, ∀ r ∈ (f c).reasons, r ∈ c.reasons ∨ reasonCode .markError < reasonCode r) (s : State) :
    WorkKept s (onContext f s) := by
  refine ⟨rfl, rfl, rfl, rfl, ?_, fun d hd => ?_⟩
  · cases h : s.context <;> simp [onContext, h, hc]
  · obtain ⟨c, hs, rfl⟩ := Option.map_eq_some_iff.1 hd
    exact ⟨c, hs, hr c⟩

theorem mem_insertReason {r q : Reason} {l : List Reason} (h : r ∈ insertReason q l) : r ∈ l ∨ r = q := by
  unfold insertReason at h
  split at h
  · exact .inl h
  · simpa using h

theorem workKept_addReason {q : Reason} (hq : reasonCode .markError < reasonCode q) (s : State) :
    WorkKept s (addReason q s) :=
  workKept_onContext (f := fun c => { c with reasons := insertReason q c.reasons }) (fun _ => rfl)
    (fun _ _ hr => (mem_insertReason hr).imp id fun h => by rw [h]; exact hq) s

theorem workKept_addCondition (k : Condition) (s : State) : WorkKept s (addCondition k s) :=
  workKept_onContext (f := fun c => { c with conditions := setCondition k c.conditions }) (fun _ => rfl)
    (fun _ _ hr => .inl hr) s

theorem workKept_onGasPart (f : GasPart → GasPart) (s : State) : WorkKept s (onGasPart f s) :=
  workKept_onContext (f := fun c => { c with gas := c.gas.map f }) (fun _ => rfl) (fun _ _ hr => .inl hr) s

theorem workKept_onCrimpPart (f : CrimpPart → CrimpPart) (s : State) : WorkKept s (onCrimpPart f s) :=
  workKept_onContext (f := fun c => { c with crimp := c.crimp.map f }) (fun _ => rfl) (fun _ _ hr => .inl hr) s

theorem workKept_onCheckPart (f : CheckPart → CheckPart) (s : State) : WorkKept s (onCheckPart f s) :=
  workKept_onContext (f := fun c => { c with check := c.check.map f }) (fun _ => rfl) (fun _ _ hr => .inl hr) s

theorem workKept_compareDose (s : State) : WorkKept s (compareDose s) := by
  unfold compareDose
  (repeat' split)
  · exact .refl s
  · exact workKept_addReason (by decide) s
  · exact .refl s

theorem workKept_enterEnded (s : State) : WorkKept s (enterEnded s) :=
  .trans (t := { s with gas := { s.gas with stage := .ended, settleTimer := none, checkTimer := none } })
    (.of_context rfl rfl rfl rfl rfl) (workKept_compareDose _)

theorem workKept_advancePhase (p q : Phase) (s : State) : WorkKept s (advancePhase p q s) := by
  unfold advancePhase
  split
  · exact .of_context rfl rfl rfl rfl rfl
  · exact .refl s

theorem workKept_endGassing (s : State) : WorkKept s (endGassing s) :=
  (workKept_enterEnded s).trans (workKept_advancePhase ..)

theorem workKept_doseComplete (s : State) : WorkKept s (doseComplete s) := by
  have checked (u : State) : WorkKept u
      { u with gas := { u.gas with stage := .check, settleTimer := none, checkTimer := some u.clock } } :=
    .of_context rfl rfl rfl rfl rfl
  unfold doseComplete
  split
  · exact workKept_endGassing s
  · refine .trans ((workKept_compareDose s).trans (.trans (workKept_onContext ?_ ?_ _) (checked _)))
      (workKept_advancePhase ..)
    · exact fun _ => rfl
    · exact fun _ _ hr => .inl hr

theorem workKept_requestClaim (s : State) : WorkKept s (requestClaim s) := by
  unfold requestClaim
  (repeat' split)
  · exact .of_context rfl rfl rfl rfl rfl
  · exact .trans (t := setClaim .waiting s) (.of_context rfl rfl rfl rfl rfl) (workKept_addCondition ..)
  · exact .of_context rfl rfl rfl rfl rfl
  · exact .refl s

theorem workKept_actOnAnswer (a : PlanAnswer) (s : State) : WorkKept s (actOnAnswer a s) := by
  unfold actOnAnswer
  (repeat' split)
  · exact .refl s
  · exact .trans (t := { s with gas := { s.gas with stage := .claim } }) (.of_context rfl rfl rfl rfl rfl)
      (workKept_requestClaim _)
  · exact workKept_addCondition ..
  · exact .refl s
  · exact workKept_addCondition ..

theorem workKept_decideInPlan (s : State) : WorkKept s (decideInPlan s) := by
  have noted : WorkKept s (noteNoDrive s.planAnswer s) := by
    unfold noteNoDrive
    split
    · exact workKept_addCondition ..
    · exact .refl s
  unfold decideInPlan
  dsimp only
  split
  · exact workKept_doseComplete s
  · split
    · exact ((noted.trans (workKept_addReason (by decide) _)).trans (workKept_addCondition ..)).trans
        (workKept_endGassing _)
    · exact noted.trans (workKept_actOnAnswer ..)

theorem workKept_enterPlan (s : State) : WorkKept s (enterPlan s) :=
  .trans (t := { s with gas := { s.gas with stage := .plan, settleTimer := none } }) (.of_context rfl rfl rfl rfl rfl)
    (workKept_decideInPlan _)

theorem workKept_retest (s : State) : WorkKept s (retest s) := by
  unfold retest
  (repeat' split)
  · exact .of_context rfl rfl rfl rfl rfl
  · exact .refl s
  · exact .trans (t := setClaim .waiting (withdrawOpen s)) (.of_context rfl rfl rfl rfl rfl) (workKept_addCondition ..)
  all_goals exact .refl s

theorem workKept_takeHeldRequest (s : State) : WorkKept s (takeHeldRequest s) := by
  unfold takeHeldRequest
  split
  · exact .trans (t := { s with draw := { s.draw with requestHeld := false } }) (.of_context rfl rfl rfl rfl rfl)
      (workKept_requestClaim _)
  · exact .refl s

theorem workKept_cancelClaim (s : State) : WorkKept s (cancelClaim s) := by
  unfold cancelClaim
  dsimp only
  (repeat' split) <;> exact .of_context rfl rfl rfl rfl rfl

theorem workKept_endPulse (o : PulseOutcome) (s : State) : WorkKept s (endPulse o s) := by
  have entered (f : Pulse → Pulse) : WorkKept s (onLastPulse f s) := workKept_onGasPart ..
  exact (entered _).trans (.of_context rfl rfl rfl rfl rfl)

theorem workKept_startSettle (s : State) : WorkKept s (startSettle s) := by
  unfold startSettle
  (repeat' split)
  · exact workKept_enterPlan s
  · exact .of_context rfl rfl rfl rfl rfl
  · exact .refl s

theorem workKept_reportClosed (s : State) : WorkKept s (reportClosed s) := by
  unfold reportClosed
  dsimp only
  (repeat' split) <;> exact .of_context rfl rfl rfl rfl rfl

theorem workKept_valveClosed (s : State) : WorkKept s (valveClosed s) :=
  .trans (t := { s with gas := { s.gas with closeWindow := none } }) (.of_context rfl rfl rfl rfl rfl)
    ((workKept_reportClosed _).trans (workKept_startSettle _))

theorem workKept_closeIfShut (s : State) : WorkKept s (closeIfShut s) := by
  unfold closeIfShut
  split
  · exact .refl s
  · exact workKept_valveClosed s

theorem workKept_cutCheckPart (s : State) : WorkKept s (cutCheckPart s) := workKept_onCheckPart ..

theorem workKept_abandonGas (s : State) : WorkKept s (abandonGas s) := by
  have stopped : WorkKept s (stopStage s) := by
    unfold stopStage
    (repeat' split)
    · exact workKept_endPulse ..
    · exact workKept_cancelClaim s
    · exact workKept_cutCheckPart s
    · exact .refl s
  have closed (b : GasStage) (u : State) : WorkKept u (closeAfter b u) := by
    unfold closeAfter
    split
    · exact workKept_closeIfShut u
    · exact .refl u
  have idle (u : State) : WorkKept u { u with
      gas := { u.gas with stage := .idle, settleTimer := none, checkTimer := none, ventSince := s.clock } } :=
    .of_context rfl rfl rfl rfl rfl
  unfold abandonGas
  split
  · exact .refl s
  · exact ((stopped.trans (workKept_compareDose _)).trans (idle _)).trans (closed ..)

theorem workKept_abandonCrimp (s : State) : WorkKept s (abandonCrimp s) := by
  have idle (d : Nat) (u : State) :
      WorkKept u { u with crimp := { u.crimp with state := .idle, finalDepth := d, timer := .stopped } } :=
    .of_context rfl rfl rfl rfl rfl
  unfold abandonCrimp
  dsimp only
  split
  · exact .refl s
  · exact idle ..
  · exact (workKept_onCrimpPart _ s).trans (idle ..)

theorem workKept_setPhase (p : Phase) (s : State) : WorkKept s (setPhase p s) := .of_context rfl rfl rfl rfl rfl

theorem workKept_cutReason (s : State) : WorkKept s (cutReason s) := by
  unfold cutReason
  (repeat' split)
  · exact workKept_addReason (by decide) s
  · exact workKept_addReason (by decide) s
  · exact .refl s

theorem workKept_cutWindow (s : State) : WorkKept s (cutWindow s) := by
  have ended (u : State) : WorkKept u (endGassing (cutReason (addCondition .windowCut u))) :=
    ((workKept_addCondition .windowCut u).trans (workKept_cutReason _)).trans (workKept_endGassing _)
  unfold cutWindow
  split
  · exact ended s
  · exact (workKept_cancelClaim s).trans (ended _)
  · exact ((workKept_endPulse .cut s).trans (ended _)).trans (workKept_closeIfShut _)
  · exact ended s
  · exact .refl s

theorem workKept_takeGasClose (s : State) : WorkKept s (takeGasClose s) := by
  have cutChecked : WorkKept s (cutCheck s) := by
    unfold cutCheck
    split
    · exact (workKept_cutCheckPart s).trans (workKept_enterEnded _)
    · exact .refl s
  have taken (u : State) : WorkKept u (onContext (fun c => { c with gasCloseTaken := true }) u) :=
    workKept_onContext (f := fun c => { c with gasCloseTaken := true }) (fun _ => rfl) (fun _ _ hr => .inl hr) u
  unfold takeGasClose
  split
  · exact (taken s).trans (workKept_addReason (by decide) _)
  · exact ((workKept_addReason (by decide) s).trans (workKept_addCondition ..)).trans (workKept_setPhase ..)
  · exact (workKept_cutWindow s).trans (workKept_setPhase ..)
  · exact (cutChecked.trans (workKept_addCondition ..)).trans (workKept_setPhase ..)
  · exact .refl s

/-! ## The closing of a pocket and the moves of the station -/

@[simp] theorem framed_placeStatus (s : State) : (placeStatus s).framed = s.framed := rfl

@[simp] theorem framed_addReason (r : Reason) (s : State) : (addReason r s).framed = s.framed := rfl

@[simp] theorem framed_addCondition (k : Condition) (s : State) : (addCondition k s).framed = s.framed := rfl

@[simp] theorem framed_setPhase (p : Phase) (s : State) : (setPhase p s).framed = s.framed := rfl

@[simp] theorem framed_returnCrimp (s : State) : (returnCrimp s).framed = s.framed := rfl

@[simp] theorem framed_retest (s : State) : (retest s).framed = s.framed := (workKept_retest s).frame

@[simp] theorem framed_abandonGas (s : State) : (abandonGas s).framed = s.framed := (workKept_abandonGas s).frame

@[simp] theorem framed_abandonCrimp (s : State) : (abandonCrimp s).framed = s.framed := (workKept_abandonCrimp s).frame

@[simp] theorem framed_returnGas (s : State) : (returnGas s).framed = s.framed := by
  unfold returnGas
  split <;> rfl

@[simp] theorem framed_endGrant (s : State) : (endGrant s).framed = s.framed := by
  unfold endGrant
  cases s.sensor.zeroing <;> rfl

@[simp] theorem framed_beginZeroTest (s : State) : (beginZeroTest s).framed = s.framed := by
  unfold beginZeroTest
  split <;> rfl

@[simp] theorem framed_reportA (c : Cell) (s : State) : (reportA c s).framed = s.framed := by
  unfold reportA
  split <;> rfl

@[simp] theorem framed_closeContext (s : State) : (closeContext s).framed = s.framed := by
  have hc : (closeContext s).result.carried = s.result.carried := congrArg (·.result.carried) (closeContext_shape s)
  have he : (closeContext s).fault.enables = s.fault.enables := by
    cases h : s.context with
    | none => rw [closeContext_of_none h]
    | some c =>
      rw [closeContext_fault h]
      unfold faultAfterReject
      split <;> rfl
  rw [closeContext_shape]
  simp only [State.framed, he]

@[simp] theorem framed_releaseHold (s : State) : (releaseHold s).framed = s.framed := by
  rw [releaseHold, framed_retest]
  rfl

@[simp] theorem framed_standDown (s : State) : (standDown s).framed = s.framed := by
  unfold standDown
  split <;> rfl

@[simp] theorem framed_readStuckEpisode (s : State) : (readStuckEpisode s).framed = s.framed := by
  unfold readStuckEpisode
  split <;> rfl

theorem framed_holdAtMove {before after : Station} (h : after ≠ .loading) (s : State) :
    (holdAtMove before after s).framed = s.framed := by
  cases after <;> simp only [holdAtMove]
  case loading => exact absurd rfl h
  case standby => split <;> simp
  case faulted => simp

theorem framed_drawAtMove {after : Station} (h : after ≠ .loading) (s : State) :
    (drawAtMove after s).framed = s.framed := by
  cases after <;> simp only [drawAtMove]
  case loading => exact absurd rfl h
  all_goals simp

theorem framed_cycleAtMove {after : Station} (h : after ≠ .loading) (s : State) :
    (cycleAtMove after s).framed = s.framed := by
  cases after
  case loading => exact absurd rfl h
  all_goals rfl

theorem framed_moveTo {after : Station} (h : after ≠ .loading) (s : State) : (moveTo after s).framed = s.framed := by
  rw [moveTo]
  dsimp only
  rw [framed_placeStatus, framed_holdAtMove h, framed_drawAtMove h]
  exact framed_cycleAtMove h { s with cycle := { s.cycle with station := after } }

@[simp] theorem framed_completeStop (s : State) : (completeStop s).framed = s.framed := by
  unfold completeStop
  split
  · rw [framed_moveTo (by decide)]
    rfl
  · rfl

@[simp] theorem framed_parkTest (s : State) : (parkTest s).framed = s.framed := by
  unfold parkTest
  split
  · exact framed_moveTo (by decide) s
  · rfl

@[simp] theorem framed_abandonContext (s : State) : (abandonContext s).framed = s.framed := by
  unfold abandonContext
  split <;> simp

@[simp] theorem framed_enterFaulted (s : State) : (enterFaulted s).framed = s.framed := by
  rw [enterFaulted]
  dsimp only
  rw [framed_endGrant]
  refine .trans ?_ ((framed_abandonContext (moveTo .faulted s)).trans (framed_moveTo (by decide) s))
  rfl

@[simp] theorem framed_reportF (c : Cell) (s : State) : (reportF c s).framed = s.framed := by
  have told (u : State) : (retestIfDead c u).framed = u.framed := by
    unfold retestIfDead
    split <;> simp
  have moved (u : State) : (if movesToFaulted u.cycle.station then enterFaulted u else u).framed = u.framed := by
    split <;> simp
  have placed (u : State) : (placeFault c u).framed = u.framed := rfl
  have alerted (u : State) : (placeStatus (formAlert u)).framed = u.framed := rfl
  have latched : (latch c s).framed = s.framed := rfl
  unfold reportF
  dsimp only
  split
  · split <;> rfl
  · rw [alerted, moved, placed, told, latched]

@[simp] theorem framed_discharge (s : State) : (discharge s).framed = s.framed := by
  unfold discharge
  dsimp only
  split <;> simp

end Sys2Proof.Machine
end

section
/-!
PROOFS. MK_DISCHARGE (O12).
-/

namespace Sys2Proof.Machine

/-! ## Moves of the station -/

theorem moveTo_calm (a : Station) (s : State) : (moveTo a s).cycle.silenceOver = false := by
  unfold moveTo cycleAtMove
  cases a <;> simp

theorem moveTo_sensor (a : Station) (s : State) :
    (moveTo a s).sensor = { s.sensor with scan := if a = .parked then .slow else s.sensor.scan } := by
  unfold moveTo
  simp only [placeStatus, holdAtMove_keeps, drawAtMove_keeps]
  unfold cycleAtMove
  cases a <;> rfl

/-! ## The end of the working arc -/

/-- The head at the end of the working arc, before a pending stop or the return-arc test. -/
def arcEnded (s : State) : State := setPhase .returning (closeContext (returnGas (returnCrimp s)))

theorem discharge_stopping {s : State} (h : s.cycle.stopPending = true) :
    discharge s = moveTo .standby { arcEnded s with cycle := { (arcEnded s).cycle with stopPending := false } } := by
  have hp : (arcEnded s).cycle.stopPending = true := by simpa [arcEnded, setPhase] using h
  unfold discharge completeStop
  exact (if_pos hp).trans (if_pos hp)

theorem discharge_going {s : State} (h : s.cycle.stopPending = false) : discharge s = beginZeroTest (arcEnded s) := by
  have hp : (arcEnded s).cycle.stopPending = false := by simpa [arcEnded, setPhase] using h
  unfold discharge
  exact if_neg (by simpa [arcEnded] using hp)

theorem discharge_calm {s : State} (h : s.cycle.silenceOver = false) : (discharge s).cycle.silenceOver = false := by
  cases hp : s.cycle.stopPending with
  | true => rw [discharge_stopping hp, moveTo_calm]
  | false =>
    rw [discharge_going hp]
    unfold beginZeroTest
    split <;> simpa [arcEnded, setPhase] using h

theorem arcEnded_crimp (s : State) : (arcEnded s).crimp = { s.crimp with state := .idle, timer := .stopped } := by
  simp [arcEnded, setPhase, returnCrimp]

theorem arcEnded_gas (s : State) : (arcEnded s).gas = (returnGas s).gas := by
  have h : (returnGas (returnCrimp s)).gas = (returnGas s).gas := by
    unfold returnGas
    by_cases h : s.gas.stage = .idle
    · rw [if_pos h, if_pos (by exact h)]; rfl
    · rw [if_neg h, if_neg (by exact h)]; rfl
  simpa [arcEnded, setPhase] using h

/-- What the end of the working arc leaves, with a stop pending and without. -/
theorem discharge_ends (s : State) :
    (discharge s).cycle.phase = .returning ∧ (discharge s).cycle.stopPending = false
      ∧ (discharge s).crimp = { s.crimp with state := .idle, timer := .stopped }
      ∧ (discharge s).gas = (returnGas s).gas ∧ (discharge s).result = (arcEnded s).result
      ∧ (discharge s).sensor = (arcEnded s).sensor ∧ (discharge s).fault = (arcEnded s).fault := by
  have phase : (arcEnded s).cycle.phase = .returning := rfl
  cases hp : s.cycle.stopPending with
  | true =>
    rw [discharge_stopping hp, ← arcEnded_crimp s, ← arcEnded_gas s]
    simp [moveTo_sensor, phase]
  | false =>
    have pending : (arcEnded s).cycle.stopPending = false := by simpa [arcEnded, setPhase] using hp
    rw [discharge_going hp, ← arcEnded_crimp s, ← arcEnded_gas s]
    simp [phase, pending]

theorem returnGas_gas (s : State) :
    (returnGas s).gas.stage = .idle
      ∧ (returnGas s).gas.ventSince = if s.gas.stage = .idle then s.gas.ventSince else s.clock := by
  unfold returnGas
  split <;> simp_all

theorem rejectRunAfter_congr {r : Reason} {s t : State} (hn : t.result.rejectRun = s.result.rejectRun)
    (hr : t.recipe = s.recipe) : rejectRunAfter r t = rejectRunAfter r s := by
  have hp : t.params = s.params := by simp only [State.params, hr]
  simp only [rejectRunAfter, hp, hn]

/-- The record, the count towards the zero debt and the reject run of a closing at the end of the working arc. -/
theorem discharge_closes {s : State} {c : CanContext} (hc : s.context = some c) :
    RecordJoins (buildRecord s c) s (discharge s) ∧ ClosingCounted s (discharge s)
      ∧ (discharge s).result.sequence = s.result.sequence + 1
      ∧ (discharge s).result.rejectRun = rejectRunAfter (chooseReason c.reasons) s := by
  obtain ⟨-, -, -, -, hresult, hsensor, -⟩ := discharge_ends s
  have hu : (returnGas (returnCrimp s)).context = some c := by simpa using hc
  have hrec : buildRecord (returnGas (returnCrimp s)) c = buildRecord s c := by simp [buildRecord, State.params]
  have hrej : rejectRunAfter (chooseReason c.reasons) (returnGas (returnCrimp s)) =
      rejectRunAfter (chooseReason c.reasons) s := rejectRunAfter_congr (by simp) (by simp)
  refine ⟨?_, ?_, ?_, ?_⟩
  · exact hrec ▸ (recordJoins_closeContext hu).of_eq (by simp) (by rw [hresult]; exact ⟨rfl, rfl⟩)
  · exact (closingCounted_closeContext hu).of_eq (by simp) (by rw [hsensor]; exact ⟨rfl, rfl⟩)
  · rw [hresult]
    exact (sequence_closeContext hu).trans (by simp)
  · rw [hresult]
    exact (closeContext_rejectRun hu).trans hrej

/-! ## A discharge before its time -/

theorem chooseReason_markError {l : List Reason} (hm : .markError ∈ l)
    (h : ∀ r ∈ l, r ≠ .markError → reasonCode .markError < reasonCode r) : chooseReason l = .markError := by
  have absent {q : Reason} (hq : reasonCode q < reasonCode .markError) : q ∉ l := fun hmem => by
    have := h q hmem (by rintro rfl; omega)
    omega
  simp [chooseReason, reasonOrder, absent (q := .headFaulted) (by decide), absent (q := .headStopped) (by decide),
    absent (q := .skippedZero) (by decide), absent (q := .noCan) (by decide), hm]

theorem mem_insertReason_self (r : Reason) (l : List Reason) : r ∈ insertReason r l := by
  unfold insertReason
  split <;> simp_all

/-- Work on a pocket whose candidates stand below MARK_ERROR leaves MARK_ERROR, once added, its reason. -/
theorem WorkKept.markError {s t : State} {c : CanContext} (h : WorkKept s t) (hc : s.context = some c)
    (hr : ∀ r ∈ c.reasons, reasonCode .markError < reasonCode r) :
    ∃ d, (addReason .markError t).context = some d ∧ d.cycle = c.cycle ∧ chooseReason d.reasons = .markError := by
  have hcycle := h.cycle
  rw [hc] at hcycle
  obtain ⟨d, hd, hdc⟩ := Option.map_eq_some_iff.1 (hcycle.trans rfl)
  obtain ⟨c', hc', hreasons⟩ := h.reasons d hd
  obtain rfl : c' = c := by simpa [hc] using hc'.symm
  refine ⟨{ d with reasons := insertReason .markError d.reasons }, by simp [addReason, onContext, hd], hdc, ?_⟩
  refine chooseReason_markError (mem_insertReason_self ..) fun r hmem hne => ?_
  obtain hmem | rfl := mem_insertReason hmem
  · exact (hreasons r hmem).elim (hr r) id
  · exact absurd rfl hne

/-- The work of MK_GASCLOSE and, in CRIMP, the abandonment of the crimp, at an early discharge (R14). -/
def cutShort (s : State) : State :=
  if s.cycle.phase = .crimp then abandonCrimp (takeGasClose s) else takeGasClose s

theorem dischargeEarly_eq (s : State) :
    dischargeEarly s = reportA .markOrder (discharge (addReason .markError (cutShort s))) := by
  unfold dischargeEarly cutShort
  rfl

theorem workKept_cutShort (s : State) : WorkKept s (cutShort s) := by
  unfold cutShort
  split
  · exact (workKept_takeGasClose s).trans (workKept_abandonCrimp _)
  · exact workKept_takeGasClose s

theorem latched_reportA (c : Cell) (s : State) : (reportA c s).latched c = true := by
  cases h : s.latched c
  · rw [reportA_clear h]
    exact (isLatched_latchCell ..).trans (by simp)
  · rw [reportA_latched h, h]

/-- A record that joins a queue with room stands at its end. -/
theorem RecordJoins.appended {r : Record} {s t : State} (h : RecordJoins r s t) (hroom : s.result.queue.length < 8) :
    t.result.queue = s.result.queue ++ [r] := by
  unfold RecordJoins at h
  rw [if_pos hroom] at h
  exact h.1

/-- Settles O12: the end of the working arc in SEALED, and in a working phase the work cut short before it. -/
theorem dischargeClosesTheContext : Obligations.DischargeClosesTheContext := by
  unfold Obligations.DischargeClosesTheContext
  refine ⟨fun s c hr hp hc hq => ?_, fun s c => ⟨fun hr => ?_, fun hr hq hp => ?_, fun hr hq hp => ?_,
    fun hc hr hq hp hroom hcode => ?_⟩⟩
  · have hstep : effect .mkDischarge s = discharge s := by
      simp only [effect_mkDischarge, if_pos hr, takeDischarge, hp, parkTest_of_calm (discharge_calm hq)]
    obtain ⟨phase, pending, crimp, gas, -, -, -⟩ := discharge_ends s
    obtain ⟨joins, counted, sequence, rejectRun⟩ := discharge_closes hc
    obtain ⟨stage, vent⟩ := returnGas_gas s
    refine ⟨_, exec_eq_effect _ _, ?_⟩
    rw [hstep]
    refine ⟨phase, by simp, pending, crimp, by rw [gas, stage], by rw [gas, vent], joins, sequence, counted,
      fun hstop => ?_, fun hstop => ?_, headFrame_of_framed (framed_discharge s) rejectRun⟩
    · rw [discharge_stopping hstop]
      simp
    · rw [discharge_going hstop]
      have station : (arcEnded s).cycle.station = .run := by simpa [arcEnded, setPhase] using hr
      have test : (arcEnded s).cycle.zeroTest = s.cycle.zeroTest := by simp [arcEnded, setPhase]
      have clock : (arcEnded s).clock = s.clock := by simp [arcEnded, setPhase]
      refine ⟨by simpa using station, ?_⟩
      simp only [beginZeroTest_keeps]
      unfold beginZeroTest
      split <;> simp_all
  · simp [exec_eq_effect, hr]
  · rw [exec_eq_effect]
    simp [hr, hp, takeDischarge, parkTest_of_calm hq]
  · rw [exec_eq_effect]
    simp only [effect_mkDischarge, if_pos hr, takeDischarge, hp]
    rw [parkTest_of_calm (by exact hq)]
    rfl
  · have hstep : effect .mkDischarge s = parkTest (dischargeEarly s) := by
      obtain hp | hp | hp | hp := hp <;> simp only [effect_mkDischarge, if_pos hr, takeDischarge, hp]
    have work := workKept_cutShort s
    obtain ⟨d, hd, hcycle, hreason⟩ := work.markError hc hcode
    obtain ⟨joins, counted, sequence, rejectRun⟩ := discharge_closes hd
    have calm : (addReason .markError (cutShort s)).cycle.silenceOver = false :=
      (congrArg (·.silenceOver) work.station).trans hq
    have result : (addReason .markError (cutShort s)).result = s.result := work.result
    have recipe : (addReason .markError (cutShort s)).recipe = s.recipe := congrArg (·.recipe) work.frame
    have hqueue := joins.appended (by rw [result]; exact hroom)
    obtain ⟨phase, pending, crimp, gas, -, -, -⟩ := discharge_ends (addReason .markError (cutShort s))
    have frame : (discharge (addReason .markError (cutShort s))).framed = s.framed :=
      (framed_discharge _).trans work.frame
    rw [dischargeEarly_eq] at hstep
    have context : (discharge (addReason .markError (cutShort s))).context = none := by simp
    have calmed := discharge_calm calm
    generalize discharge (addReason .markError (cutShort s)) = u at *
    rw [parkTest_of_calm (by simpa using calmed)] at hstep
    refine ⟨_, exec_eq_effect _ _, ?_⟩
    rw [hstep]
    refine ⟨latched_reportA .., ?_, ?_, ?_, ?_, ?_, ?_, ?_, headFrame_of_framed ?_ ?_⟩
    all_goals simp only [reportA_keeps, framed_reportA]
    · exact phase
    · exact context
    · rw [crimp]
    · rw [gas, (returnGas_gas _).1]
    · rw [hqueue, result]
      simp
    · rw [hqueue, result]
      simp
    · rw [hqueue]
      simp [buildRecord, hreason, hcycle, work.result]
    · exact frame
    · rw [rejectRun, hreason]
      exact rejectRunAfter_congr (congrArg (·.rejectRun) result) recipe

end Sys2Proof.Machine
end

section
/-!
PROOFS. MK_INFEED outside RETURN (O9): recorded, a wake, or out of order.
-/

namespace Sys2Proof.Machine

/-! ## A pocket decided -/

/-- `t` is `s` after the decision on a pocket at an INFEED: a crimp started, or the pocket passed with its record. -/
structure Decided (s t : State) : Prop where
  frame : t = { s with
    context := t.context
    cycle :=
      { s.cycle with phase := t.cycle.phase, counter := s.cycle.counter + 1, grant := t.cycle.grant }
    crimp := t.crimp
    sensor :=
      { s.sensor with
        zeroing := t.sensor.zeroing, zeroSamples := t.sensor.zeroSamples, zeroDebt := t.sensor.zeroDebt
        closings := t.sensor.closings }
    line := { s.line with statusSlot := t.line.statusSlot, resultSlot := t.line.resultSlot }
    result :=
      { s.result with
        queue := t.result.queue, sequence := t.result.sequence, dropCount := t.result.dropCount } }
  phase : t.cycle.phase = .crimp ∨ t.cycle.phase = .pass
  records : t.result.queue = s.result.queue ∨
    ∃ r, RecordJoins r s t ∧ (r.reason = .skippedZero ∨ r.reason = .noCan)

theorem decided_decidePocket (b : Bool) (s : State) : Decided s (decidePocket b s) := by
  by_cases h : 4 ≤ s.sensor.zeroDebt ∨ b = false
  · have hr : (if 4 ≤ s.sensor.zeroDebt then Reason.skippedZero else .noCan) = .skippedZero ∨
        (if 4 ≤ s.sensor.zeroDebt then Reason.skippedZero else .noCan) = .noCan := by
      split <;> simp
    rw [decidePocket_pass h]
    generalize (if 4 ≤ s.sensor.zeroDebt then Reason.skippedZero else .noCan) = r at hr
    have shape := passPocket_shape b s hr
    have joins := recordJoins_passPocket b r s
    have passed : Decided s (passPocket b r s) :=
      ⟨by rw [shape], .inr (by rw [shape]), .inr ⟨_, joins, hr⟩⟩
    have granted (g : Grant) (z : Zeroing) (l : List (BitVec 12)) :
        Decided s (withGrant g z l (passPocket b r s)) :=
      ⟨by rw [shape]; rfl, passed.phase, .inr ⟨_, joins.of_eq ⟨rfl, rfl, rfl⟩ ⟨rfl, rfl⟩, hr⟩⟩
    dsimp only
    split
    · by_cases hv : (passPocket b r s).gas.stage = .idle ∧
          (passPocket b r s).gas.ventSince + 20 * 500 ≤ (passPocket b r s).clock
      · rw [grantPassPocket_vented hv]
        exact granted ..
      · rw [grantPassPocket_waiting hv]
        exact granted ..
    · exact passed
  · have hb : b = true := by simpa using fun hb => h (.inr hb)
    have hd : ¬4 ≤ s.sensor.zeroDebt := fun hd => h (.inl hd)
    subst hb
    simp only [decidePocket, if_neg hd, if_true]
    exact ⟨rfl, .inl rfl, .inl rfl⟩

/-- The head as a pocket's decision begins: the silence timer restarted, any grant ended. -/
def restarted (s : State) : State :=
  endGrant { s with cycle := { s.cycle with silence := some s.clock, silenceOver := false, zeroTest := none } }

theorem decided_startCycle (b : Bool) (s : State) : Decided (restarted s) (startCycle b s) :=
  decided_decidePocket b (restarted s)

theorem restarted_shape (s : State) :
    restarted s = { s with
      cycle := { s.cycle with silence := some s.clock, silenceOver := false, zeroTest := none, grant := .none }
      sensor := { s.sensor with
        zeroing := (restarted s).sensor.zeroing, zeroSamples := (restarted s).sensor.zeroSamples } } := by
  unfold restarted endGrant
  cases s.sensor.zeroing <;> rfl

/-- What the start of a cycle leaves. -/
theorem startCycle_leaves (b : Bool) (s : State) :
    (startCycle b s).cycle.station = s.cycle.station ∧ (startCycle b s).cycle.counter = s.cycle.counter + 1
      ∧ (startCycle b s).cycle.infeedRef = s.cycle.infeedRef ∧ (startCycle b s).cycle.period = s.cycle.period
      ∧ (startCycle b s).cycle.silence = some s.clock ∧ (startCycle b s).cycle.stopPending = s.cycle.stopPending
      ∧ (startCycle b s).hold = s.hold ∧ (startCycle b s).fault = s.fault ∧ (startCycle b s).gas = s.gas
      ∧ (startCycle b s).dose = s.dose ∧ (startCycle b s).sensor.scan = s.sensor.scan
      ∧ (startCycle b s).result.rejectRun = s.result.rejectRun := by
  rw [(decided_startCycle b s).frame, restarted_shape]
  exact ⟨rfl, rfl, rfl, rfl, rfl, rfl, rfl, rfl, rfl, rfl, rfl, rfl⟩

/-- The frame of the start of a cycle, counter and crimp apart. -/
theorem framed_startCycle (b : Bool) (s : State) :
    (startCycle b s).framed =
      State.framed { s with
        cycle := { s.cycle with counter := s.cycle.counter + 1 }, crimp := (startCycle b s).crimp } := by
  rw [(decided_startCycle b s).frame, restarted_shape]
  rfl

/-! ## A record without a pocket -/

theorem recordStopped_shape (b : Bool) {r : Reason} (s : State) (hr : r = .headStopped ∨ r = .headFaulted) :
    recordStopped b r s = { s with
      context := none
      cycle := { s.cycle with counter := s.cycle.counter + 1 }
      sensor := { s.sensor with
        zeroDebt := (recordStopped b r s).sensor.zeroDebt, closings := (recordStopped b r s).sensor.closings }
      line := { s.line with
        statusSlot := (recordStopped b r s).line.statusSlot, resultSlot := (recordStopped b r s).line.resultSlot }
      result := { s.result with
        queue := (recordStopped b r s).result.queue, sequence := s.result.sequence + 1
        dropCount := (recordStopped b r s).result.dropCount } } := by
  refine closeContext_uncounted (s := openContext b [r] s) rfl ?_
  obtain rfl | rfl := hr <;> rfl

theorem recordJoins_recordStopped (b : Bool) (r : Reason) (s : State) :
    RecordJoins (bareRecord s (s.cycle.counter + 1) r) s (recordStopped b r s) := by
  have joins := recordJoins_closeContext (s := openContext b [r] s) rfl
  rw [← buildRecord_openContext b r s]
  exact joins

theorem closingCounted_recordStopped (b : Bool) (r : Reason) (s : State) :
    ClosingCounted s (recordStopped b r s) :=
  closingCounted_closeContext (s := openContext b [r] s) rfl

/-! ## An INFEED out of order -/

/-- The head as an out-of-order mark is handled again, a pending stop not yet completed. -/
def outOfOrder (s : State) : State :=
  endGrant (setPhase .returning (closeOutOfOrder (measurePeriod (reportA .markOrder s))))

theorem infeedOutOfOrder_eq (b : Bool) (s : State) :
    infeedOutOfOrder b s = handleAgain b (completeStop (outOfOrder s)) := rfl

theorem framed_measurePeriod (s : State) :
    (measurePeriod s).framed =
      { s.framed with
        cycle := { s.framed.cycle with period := periodAfter s.cycle s.clock, infeedRef := some s.clock } } := rfl

theorem framed_closeOutOfOrder (s : State) : (closeOutOfOrder s).framed = s.framed := by
  unfold closeOutOfOrder
  split <;> simp

theorem framed_outOfOrder (s : State) : (outOfOrder s).framed = (measurePeriod s).framed := by
  have h : (measurePeriod (reportA .markOrder s)).framed = (measurePeriod s).framed := by
    rw [framed_measurePeriod, framed_measurePeriod, framed_reportA]
    simp
  rw [outOfOrder, framed_endGrant, framed_setPhase, framed_closeOutOfOrder, h]

theorem outOfOrder_none {s : State} (hc : s.context = none) :
    (outOfOrder s).gas = s.gas ∧ (outOfOrder s).result = s.result := by
  have h : closeOutOfOrder (measurePeriod (reportA .markOrder s)) = measurePeriod (reportA .markOrder s) :=
    if_neg (by simp [hc])
  simp [outOfOrder, h, setPhase]

theorem outOfOrder_some {s : State} {c : CanContext} (hc : s.context = some c) (hroom : s.result.queue.length < 8)
    (hcode : ∀ r ∈ c.reasons, reasonCode .markError < reasonCode r) :
    (outOfOrder s).gas.stage = .idle
      ∧ (∃ r, (outOfOrder s).result.queue = s.result.queue ++ [r] ∧ r.reason = .markError ∧ r.cycle = c.cycle
          ∧ r.sequence = s.result.sequence)
      ∧ (outOfOrder s).result.rejectRun = rejectRunAfter .markError s := by
  have hv : (measurePeriod (reportA .markOrder s)).context = some c := by simpa using hc
  have hr : (measurePeriod (reportA .markOrder s)).result = s.result := by simp
  have hp : (measurePeriod (reportA .markOrder s)).recipe = s.recipe := by simp
  have step : closeOutOfOrder (measurePeriod (reportA .markOrder s)) =
      closeContext (addReason .markError (abandonGas (abandonCrimp (measurePeriod (reportA .markOrder s))))) :=
    if_pos (by rw [hv]; rfl)
  have work := (workKept_abandonCrimp (measurePeriod (reportA .markOrder s))).trans (workKept_abandonGas _)
  have idle := abandonGas_stage (abandonCrimp (measurePeriod (reportA .markOrder s)))
  obtain ⟨d, hd, hcycle, hreason⟩ := work.markError hv hcode
  have result : (abandonGas (abandonCrimp (measurePeriod (reportA .markOrder s)))).result = s.result :=
    work.result.trans hr
  have recipe : (abandonGas (abandonCrimp (measurePeriod (reportA .markOrder s)))).recipe = s.recipe :=
    (congrArg (·.recipe) work.frame).trans hp
  generalize abandonGas (abandonCrimp (measurePeriod (reportA .markOrder s))) = u at step idle hd result recipe
  have joins := (recordJoins_closeContext hd).appended (by simpa [result] using hroom)
  refine ⟨by simp [outOfOrder, step, setPhase, idle],
    ⟨buildRecord (addReason .markError u) d, ?_, hreason, hcycle, congrArg (·.sequence) result⟩, ?_⟩
  · simp only [outOfOrder, step, setPhase, endGrant_keeps, joins]
    simp [result]
  · simp only [outOfOrder, step, setPhase, endGrant_keeps, closeContext_rejectRun hd, hreason]
    exact rejectRunAfter_congr (congrArg (·.rejectRun) result) recipe

theorem latched_outOfOrder (s : State) : (outOfOrder s).latched .markOrder = true := by
  have measured : (measurePeriod (reportA .markOrder s)).latched .markOrder = true := latched_reportA .markOrder s
  have ended (u : State) : CellsStay u (endGrant (setPhase .returning u)) := .of_same (by simp [setPhase])
  exact ((cellsStay_closeOutOfOrder _).trans (ended _)).stay _ measured

theorem outOfOrder_keeps (s : State) :
    (outOfOrder s).cycle.station = s.cycle.station ∧ (outOfOrder s).cycle.phase = .returning
      ∧ (outOfOrder s).cycle.counter = s.cycle.counter ∧ (outOfOrder s).cycle.stopPending = s.cycle.stopPending
      ∧ (outOfOrder s).hold = s.hold := by
  simp [outOfOrder, setPhase]

/-- What stands in the queue once the mark has been handled again: at most one record more, and none of MARK_ERROR. -/
structure HandledAgain (s t : State) : Prop where
  gas : t.gas = s.gas
  rejectRun : t.result.rejectRun = s.result.rejectRun
  counter : t.cycle.counter = s.cycle.counter + 1
  pending : t.cycle.stopPending = s.cycle.stopPending
  frame : t.framed =
    State.framed { s with cycle := { s.cycle with counter := s.cycle.counter + 1 }, crimp := t.crimp }
  queue : t.result.queue = s.result.queue ∨ ∃ r, RecordJoins r s t ∧ r.reason ≠ .markError

theorem handledAgain_startCycle (b : Bool) (s : State) : HandledAgain s (startCycle b s) := by
  obtain ⟨-, counter, -, -, -, pending, -, -, gas, -, -, rejectRun⟩ := startCycle_leaves b s
  refine ⟨gas, rejectRun, counter, pending, framed_startCycle b s, ?_⟩
  have before : (restarted s).result = s.result ∧ (restarted s).line = s.line := by
    rw [restarted_shape]; exact ⟨rfl, rfl⟩
  obtain ⟨hresult, hline⟩ := before
  obtain h | ⟨r, h, hr⟩ := (decided_startCycle b s).records
  · exact .inl (by rw [h, hresult])
  · exact .inr ⟨r, h.of_eq (by rw [hresult, hline]; exact ⟨rfl, rfl, rfl⟩) ⟨rfl, rfl⟩, by obtain h | h := hr <;> simp [h]⟩

theorem handledAgain_recordStopped (b : Bool) (s : State) : HandledAgain s (recordStopped b .headStopped s) := by
  have joins := recordJoins_recordStopped b .headStopped s
  have shape := recordStopped_shape b (r := .headStopped) s (.inl rfl)
  generalize recordStopped b .headStopped s = t at joins shape
  refine ⟨?_, ?_, ?_, ?_, ?_, .inr ⟨_, joins, nofun⟩⟩
  all_goals rw [shape]
  rfl

theorem RecordJoins.mem {r q : Record} {s t : State} (h : RecordJoins r s t) (hq : q ∈ t.result.queue) :
    q ∈ s.result.queue ∨ q = r := by
  unfold RecordJoins at h
  split at h
  · rw [h.1] at hq
    simpa using hq
  · rw [h.1] at hq
    obtain hq | hq := List.mem_append.1 hq
    · refine .inl ?_
      split at hq
      · exact (List.mem_append.1 hq).elim List.mem_of_mem_take List.mem_of_mem_drop
      · exact List.mem_of_mem_drop hq
    · exact .inr (by simpa using hq)

theorem RecordJoins.last {r : Record} {s t : State} (h : RecordJoins r s t) : t.result.queue.getLast? = some r := by
  unfold RecordJoins at h
  split at h <;> simp [h.1]

/-- A stop completed, or nothing. -/
theorem completeStop_leaves (s : State) :
    (completeStop s).gas = s.gas ∧ (completeStop s).result = s.result ∧ (completeStop s).cycle.stopPending = false := by
  unfold completeStop
  split <;> simp_all

theorem completeStop_pending {s : State} (h : s.cycle.stopPending = true) :
    completeStop s = moveTo .standby { s with cycle := { s.cycle with stopPending := false } } := if_pos h

theorem handledAgain_handleAgain (b : Bool) (s : State) : HandledAgain s (handleAgain b s) := by
  unfold handleAgain
  split
  · exact handledAgain_recordStopped b s
  · exact handledAgain_startCycle b s

theorem moveTo_run (s : State) :
    (moveTo .run s).cycle.station = .run ∧ (moveTo .run s).hold = s.hold ∧ (moveTo .run s).dose = s.dose
      ∧ (moveTo .run s).cycle.period = s.cycle.period ∧ (moveTo .run s).result = s.result := by
  simp [moveTo, holdAtMove, drawAtMove, cycleAtMove]

/-- The head as the pocket of a wake is decided (R21). -/
def awake (s : State) : State :=
  { moveTo .run s with cycle := { (moveTo .run s).cycle with infeedRef := some s.clock } }

theorem wake_eq (b : Bool) (s : State) : wake b s = startCycle b (awake s) := by
  simp [wake, awake]

/-- The frame after a change of counter and crimp, over the frame before it. -/
theorem framed_recounted (s : State) (n : BitVec 16) (k : CrimpUnit) :
    State.framed { s with cycle := { s.cycle with counter := n }, crimp := k } =
      { s.framed with
        cycle := { s.framed.cycle with counter := n }
        crimp := { State.reset.crimp with peak := k.peak, failure := k.failure, lastDepth := k.lastDepth } } := rfl

theorem framed_awake (s : State) :
    (awake s).framed = State.framed { s with cycle := { s.cycle with infeedRef := some s.clock } } := by
  have moved := framed_moveTo (after := .run) (by decide) s
  have h : (awake s).framed =
      { (moveTo .run s).framed with cycle := { (moveTo .run s).framed.cycle with infeedRef := some s.clock } } := rfl
  rw [h, moved]
  rfl

/-- Settles O9: the record of a head stopped or faulted, the wake, and the out-of-order mark, which is handled again
after the closing of the context. -/
theorem infeedOutsideReturnActsByState : Obligations.InfeedOutsideReturnActsByState := by
  unfold Obligations.InfeedOutsideReturnActsByState
  refine ⟨fun b s => ⟨fun h => ?_, fun h => ?_, fun h => ?_⟩, fun b s c hr hp => ?_⟩
  · rw [exec_eq_effect]
    obtain h | h := h <;> simp [h]
  · let r : Reason := if s.cycle.station = .standby then .headStopped else .headFaulted
    have hstep : effect (.mkInfeed b) s = recordStopped b r s := by
      obtain h | h := h <;> simp [h, r]
    have hr : r = .headStopped ∨ r = .headFaulted := by simp only [r]; split <;> simp
    have joins := recordJoins_recordStopped b r s
    have counted := closingCounted_recordStopped b r s
    have shape := recordStopped_shape b s hr
    refine ⟨_, exec_eq_effect _ _, ?_⟩
    rw [hstep]
    exact ⟨joins, by rw [shape], by rw [shape], counted, by rw [shape]⟩
  · have hstep : effect (.mkInfeed b) s = wake b s := by simp [h]
    obtain ⟨station, hold, dose, period, -⟩ := moveTo_run s
    have again := handledAgain_startCycle b (awake s)
    obtain ⟨kstation, -, kref, kperiod, ksilence, -, khold, kfault, kgas, kdose, kscan, krej⟩ :=
      startCycle_leaves b (awake s)
    have phase := (decided_startCycle b (awake s)).phase
    refine ⟨_, exec_eq_effect _ _, ?_⟩
    rw [hstep, wake_eq]
    refine ⟨kstation.trans station, kscan.trans ?_, again.counter.trans ?_, kref, ksilence.trans ?_,
      kperiod.trans period, phase.symm, khold.trans hold, kfault.trans ?_, kgas.trans ?_, kdose.trans dose,
      headFrame_of_framed ?_ (krej.trans ?_)⟩
    · simp [awake, moveTo_sensor]
    · simp [awake]
    · simp [awake]
    · simp [awake]
    · simp [awake]
    · rw [again.frame, framed_recounted, framed_awake]
      simp [awake]
      rfl
    · simp [awake]
  · have hstep : effect (.mkInfeed b) s = infeedOutOfOrder b s := by simp [hr, hp]
    have again := handledAgain_handleAgain b (completeStop (outOfOrder s))
    obtain ⟨hgas, hresult, hpending⟩ := completeStop_leaves (outOfOrder s)
    obtain ⟨station, phase, counter, pending, hold⟩ := outOfOrder_keeps s
    have marked := latched_outOfOrder s
    refine ⟨_, exec_eq_effect _ _, ?_⟩
    rw [hstep, infeedOutOfOrder_eq]
    refine ⟨?_, ?_, again.pending.trans hpending, fun hstop => ?_, fun hstop => ?_, fun hc hroom hcode => ?_,
      fun hc => ?_, headFrame_of_framed ?_ rfl⟩
    · have stopped : CellsStay (outOfOrder s) (completeStop (outOfOrder s)) := .of_same (by simp)
      exact (stopped.trans (cellsStay_handleAgain b _)).stay _ marked
    · rw [again.counter]
      simp [counter]
    · have going : completeStop (outOfOrder s) = outOfOrder s := if_neg (by simp [pending, hstop])
      have handled : handleAgain b (outOfOrder s) = startCycle b (outOfOrder s) := if_neg (by simp [station, hr])
      obtain ⟨kstation, -, -, -, -, -, khold, -⟩ := startCycle_leaves b (outOfOrder s)
      rw [going, handled]
      exact ⟨kstation.trans (station.trans hr), (decided_startCycle b _).phase, khold.trans hold⟩
    · have stopped := completeStop_pending (s := outOfOrder s) (by rw [pending, hstop])
      have standby : (completeStop (outOfOrder s)).cycle.station = .standby := by rw [stopped]; simp
      have handled : handleAgain b (completeStop (outOfOrder s)) =
          recordStopped b .headStopped (completeStop (outOfOrder s)) := if_pos standby
      have last := (recordJoins_recordStopped b .headStopped (completeStop (outOfOrder s))).last
      have shape := recordStopped_shape b (completeStop (outOfOrder s)) (r := .headStopped) (.inl rfl)
      rw [handled]
      exact ⟨by rw [shape]; exact standby, by rw [shape]; simp [phase], by rw [shape], by rw [last]; rfl⟩
    · obtain ⟨idle, ⟨r, hqueue, hreason, hcycle, hsequence⟩, hcount⟩ := outOfOrder_some hc (by omega) hcode
      have queue : (completeStop (outOfOrder s)).result.queue = s.result.queue ++ [r] := by rw [hresult, hqueue]
      refine ⟨?_, ?_, ?_, ?_, again.rejectRun.trans (by rw [hresult, hcount])⟩
      · rw [State.gasOn, again.gas, hgas, idle]
        rfl
      all_goals
        obtain h | ⟨q, h, -⟩ := again.queue
        · rw [h, queue]
          simp [hreason, hcycle, hsequence]
        · rw [h.appended (by rw [queue]; simp; omega), queue]
          simp [hreason, hcycle, hsequence]
    · obtain ⟨kgas, kresult⟩ := outOfOrder_none hc
      refine ⟨again.gas.trans (hgas.trans kgas), again.rejectRun.trans (by rw [hresult, kresult]), fun q hq => ?_⟩
      have queue : (completeStop (outOfOrder s)).result.queue = s.result.queue := by rw [hresult, kresult]
      obtain h | ⟨r, h, hr⟩ := again.queue
      · exact .inl (by rwa [h, queue] at hq)
      · obtain hq | rfl := h.mem hq
        · exact .inl (by rwa [queue] at hq)
        · exact .inr hr
    · rw [again.frame, framed_recounted, framed_completeStop, framed_outOfOrder, framed_measurePeriod]
      have hcounter : (completeStop (outOfOrder s)).cycle.counter = s.cycle.counter := by simp [counter]
      rw [hcounter]
      cases hi : s.cycle.infeedRef <;> simp only [periodAfter, hi] <;> rfl

end Sys2Proof.Machine
end

section
/-!
PROOFS. The commands of the line console to the station: START and STOP (O44), CLEAR (O45).
-/

namespace Sys2Proof.Machine

@[simp] theorem afterGood_keeps (s : State) :
    (afterGood s).clock = s.clock ∧ (afterGood s).gasFb = s.gasFb ∧ (afterGood s).context = s.context
      ∧ (afterGood s).cycle = s.cycle ∧ (afterGood s).crimp = s.crimp ∧ (afterGood s).sensor = s.sensor
      ∧ (afterGood s).gas = s.gas ∧ (afterGood s).draw = s.draw ∧ (afterGood s).hold = s.hold
      ∧ (afterGood s).result = s.result ∧ (afterGood s).recipe = s.recipe ∧ (afterGood s).fault = s.fault :=
  ⟨rfl, rfl, rfl, rfl, rfl, rfl, rfl, rfl, rfl, rfl, rfl, rfl⟩

/-- A good frame without payload reaches its owner. -/
theorem receive_console {k : FrameKind} {n : Nat} {sender target : StationNo} {act : State → State} {s : State}
    (hh : s.hears sender) (ht : target = s.line.station ∨ target = everyStation)
    (hk : admitted k s.cycle.station = true) (hn : lengthAllowed k n = true) :
    receive k sender target none (frameGood k sender n) act s = retest (act (afterGood s)) := by
  rw [frameGood_of_hears hh hn, receive_heard hh ht hk]

/-! ## START -/

theorem moveTo_run_eq (s : State) :
    moveTo .run s = { s with
      line := statusPlaced s.line
      cycle := { s.cycle with station := .run, silence := some s.clock, silenceOver := false, zeroTest := none }
      draw := if s.gas.stuckEpisode ∧ s.draw.self = none then { s.draw with self := some .stuck } else s.draw } := by
  by_cases h : s.gas.stuckEpisode = true ∧ s.draw.self = none <;>
    simp [moveTo, holdAtMove, drawAtMove, cycleAtMove, readStuckEpisode, stuckSelf, placeStatus, statusPlaced, h,
      slotPlace_idem]

theorem enterRun_eq (s : State) :
    enterRun s = { s with
      line := statusPlaced s.line
      cycle :=
        { s.cycle with
          station := .run, phase := .returning, stopPending := false, period := none, infeedRef := none
          startRefusal := .none, silence := some s.clock, silenceOver := false, zeroTest := none }
      draw := if s.gas.stuckEpisode ∧ s.draw.self = none then { s.draw with self := some .stuck } else s.draw } := by
  rw [enterRun, moveTo_run_eq]

theorem takeStart_acts (s : State) :
    (s.cycle.station = .ready ∨ (s.cycle.station = .standby ∧ s.fault.latched = 0) → takeStart s = enterRun s)
      ∧ (s.cycle.station = .standby → s.fault.latched ≠ 0 → takeStart s = refuseStart s)
      ∧ (s.cycle.station = .run → s.cycle.stopPending = true →
          takeStart s = placeStatus { s with cycle := { s.cycle with stopPending := false } })
      ∧ ((s.cycle.station = .run ∧ s.cycle.stopPending = false) ∨ s.cycle.station = .parked → takeStart s = s) := by
  refine ⟨?_, fun h hl => ?_, fun h hp => ?_, ?_⟩
  · rintro (h | ⟨h, hl⟩) <;> simp [takeStart, h]
    exact fun h => absurd hl h
  · simp only [takeStart, h, if_neg hl]
  · simp only [takeStart, h, if_pos hp]
  · rintro (⟨h, hp⟩ | h) <;> simp [takeStart, h]
    simp [hp]

/-! ## STOP -/

theorem takeStop_acts (s : State) :
    (s.cycle.station = .run → s.cycle.phase = .returning ∨ s.cycle.phase = .pass → takeStop s = stopNow s)
      ∧ (s.cycle.station = .parked → takeStop s = moveTo .standby s)
      ∧ (s.cycle.station = .run → ¬(s.cycle.phase = .returning ∨ s.cycle.phase = .pass) → takeStop s = pendStop s)
      ∧ (s.cycle.station = .ready ∨ s.cycle.station = .standby → takeStop s = s) := by
  refine ⟨fun h hp => ?_, fun h => ?_, fun h hp => ?_, ?_⟩
  · simp only [takeStop, h, if_pos hp]
  · simp only [takeStop, h]
  · simp only [takeStop, h, if_neg hp]
  · rintro (h | h) <;> simp only [takeStop, h]

/-- The head in RETURN with any grant ended, as a STOP takes it to STANDBY (R5). -/
def returned (s : State) : State := setPhase .returning (endGrant s)

@[simp] theorem returned_keeps (s : State) :
    (returned s).cycle.phase = .returning ∧ (returned s).cycle.grant = .none ∧ (returned s).sensor.zeroing = .idle
      ∧ (returned s).sensor.scan = s.sensor.scan ∧ (returned s).crimp = s.crimp ∧ (returned s).gas = s.gas
      ∧ (returned s).result = s.result ∧ (returned s).fault = s.fault := by
  cases hz : s.sensor.zeroing <;> simp [returned, setPhase, endGrant, hz]

theorem stopNow_eq (s : State) : stopNow s = moveTo .standby (returned s) := rfl

/-- The hold at the move from RUN to STANDBY: a standing assertion is released by a HOLD of q = 0 (R155). -/
theorem moveTo_standby_run {s : State} (hr : s.cycle.station = .run) :
    (moveTo .standby s).hold.asserted = false
      ∧ (s.hold.asserted = true →
          (moveTo .standby s).hold.table = tableErase s.ownKey s.hold.table
            ∧ (moveTo .standby s).hold.resend = none
            ∧ (moveTo .standby s).line.holdSlot = slotPlace { zone := s.zoneByte, q := 0 } s.line.holdSlot) := by
  cases ha : s.hold.asserted <;>
    simp [moveTo, holdAtMove, drawAtMove, cycleAtMove, hr, ha, releaseHold, setAsserted, dropOwnEntry, placeHold,
      placeStatus, State.zoneByte, State.ownKey]

theorem moveTo_status (a : Station) (s : State) : slotEmpty (moveTo a s).line.statusSlot = false :=
  statusSlot_placed _

/-- Settles O44: what START and STOP do in each station state, and the repeated admission test after it. -/
theorem startAndStopMoveTheStation : Obligations.StartAndStopMoveTheStation := by
  unfold Obligations.StartAndStopMoveTheStation
  refine ⟨fun s sender target hh ht => ?_, fun s sender target hh ht => ?_⟩
  · have heard (hk : admitted .start s.cycle.station = true) :
        effect (.start sender target) s = retest (takeStart (afterGood s)) := by
      rw [effect_start, receive_console hh ht hk rfl]
    obtain ⟨enters, refuses, resumes, stays⟩ := takeStart_acts (afterGood s)
    dsimp only
    refine ⟨fun h => ?_, fun h hl => ?_, fun h hp => ?_, fun h => ?_⟩ <;> rw [exec_eq_effect]
    · rw [heard (by obtain h | ⟨h, -⟩ := h <;> rw [h] <;> rfl), enters h, enterRun_eq]
      rfl
    · rw [heard (by rw [h]; rfl), refuses h hl]
      rfl
    · rw [heard (by rw [h]; rfl), resumes h hp]
      rfl
    · rw [heard (by obtain ⟨h, -⟩ | h := h <;> rw [h] <;> rfl), stays h]
      rfl
  · have heard (hk : admitted .stop s.cycle.station = true) :
        effect (.stop sender target) s = retest (takeStop (afterGood s)) := by
      rw [effect_stop, receive_console hh ht hk rfl]
    obtain ⟨stops, wakes, pends, stays⟩ := takeStop_acts (afterGood s)
    dsimp only
    refine ⟨fun h => ?_, fun h hn hp => ?_, fun h hn hp => ?_, fun h => ?_⟩
    · refine ⟨_, exec_eq_effect _ _, ?_⟩
      obtain ⟨h, hp⟩ | h := h
      · rw [heard (by rw [h]; rfl), stops h hp]
        obtain ⟨released, dropped⟩ := moveTo_standby_run (s := returned (afterGood s)) (by simpa [returned] using h)
        have frame : (moveTo .standby (returned (afterGood s))).framed = (afterGood s).framed := by
          rw [framed_moveTo (by decide), returned, framed_setPhase, framed_endGrant]
        rw [stopNow_eq]
        refine ⟨by simp, by simpa using moveTo_status .., by simp [moveTo_sensor], fun _ => ?_, by simp, by simp, by simp,
          by simp, headFrame_of_framed (s := afterGood s) (by simpa using frame) (by simp)⟩
        simp only [retest_keeps, moveTo_keeps, returned_keeps]
        exact ⟨trivial, trivial, trivial, released, dropped⟩
      · rw [heard (by rw [h]; rfl), wakes h]
        have frame : (moveTo .standby (afterGood s)).framed = (afterGood s).framed := framed_moveTo (by decide) _
        exact ⟨by simp, by simpa using moveTo_status .., by simp [moveTo_sensor], by simp [h], by simp, by simp, by simp,
          by simp, headFrame_of_framed (s := afterGood s) (by simpa using frame) (by simp)⟩
    all_goals rw [exec_eq_effect]
    · rw [heard (by rw [h]; rfl), pends h hn, pendStop, if_neg (by simpa [afterGood] using hp)]
      rfl
    · rw [heard (by rw [h]; rfl), pends h hn, pendStop, if_pos (by exact hp)]
      rfl
    · rw [heard (by obtain h | h := h <;> rw [h] <;> rfl), stays h]
      rfl

end Sys2Proof.Machine
end

section
/-!
PROOFS. CLEAR (O45) and LOAD_END (O42).
-/

namespace Sys2Proof.Machine

/-! ## CLEAR -/

theorem framed_clearCells (cells : Half) (l : List Cell) (s : State) :
    (l.foldl (clearOne cells) s).framed = s.framed := by
  induction l generalizing s with
  | nil => rfl
  | cons c rest ih =>
    rw [List.foldl_cons, ih]
    unfold clearOne
    split <;> rfl

/-- The cells named and cleared, with ALERT_N formed and a STATUS placed, the station not yet moved. -/
def cellsCleared (cells : Half) (s : State) : State := placeStatus (formAlert (allCells.foldl (clearOne cells) s))

@[simp] theorem cellsCleared_keeps (cells : Half) (s : State) :
    (cellsCleared cells s).cycle = s.cycle ∧ (cellsCleared cells s).crimp = s.crimp
      ∧ (cellsCleared cells s).gas = s.gas ∧ (cellsCleared cells s).hold = s.hold
      ∧ (cellsCleared cells s).result = s.result ∧ (cellsCleared cells s).fault.enables = s.fault.enables
      ∧ (cellsCleared cells s).fault.alert =
          alertOf (cellsCleared cells s).fault.latched (cellsCleared cells s).fault.enables
      ∧ slotEmpty (cellsCleared cells s).line.statusSlot = false := by
  refine ⟨?_, ?_, ?_, ?_, ?_, ?_, rfl, statusSlot_placed _⟩ <;> simp [cellsCleared]

theorem framed_cellsCleared (cells : Half) (s : State) : (cellsCleared cells s).framed = s.framed :=
  Eq.trans rfl (framed_clearCells cells allCells s)

theorem latched_cellsCleared (cells : Half) (s : State) (k : Cell) :
    (cellsCleared cells s).latched k = (s.latched k && (!cells.getLsbD (cellNumber k) || s.causeHolds k)) := by
  refine Eq.trans rfl ((latched_clearCells cells allCells s k).trans ?_)
  simp [mem_allCells, State.clears]

theorem causeHolds_afterGood (s : State) (k : Cell) : (afterGood s).causeHolds k =
    match k with
    | .valveStuck => s.gasFb
    | .headerLost => decide (s.sensor.header.validity = .stale)
    | .bellLost => decide (s.sensor.bell.validity = .stale)
    | .lineDead => decide (s.line.condition = .stuck)
    | _ => false := by
  have stuck : (afterGood s).line.condition = .stuck ↔ s.line.condition = .stuck := by
    simp only [afterGood, lineAfterGood]
    split <;> simp_all
  cases k with
  | headerLost => exact beq_eq_decide ..
  | bellLost => exact beq_eq_decide ..
  | lineDead => exact (beq_eq_decide ..).trans (decide_eq_decide.2 stuck)
  | _ => rfl

/-- Settles O45: each cell after the CLEAR, and the move of a FAULTED station without a class F cell. -/
theorem clearTakesTheNamedCells : Obligations.ClearTakesTheNamedCells := by
  unfold Obligations.ClearTakesTheNamedCells
  intro s sender target cells k hh ht hl
  have heard : effect (.clear sender target cells) s = retest (takeClear cells (afterGood s)) := by
    rw [effect_clear, receive_console hh ht (by cases hs : s.cycle.station <;> simp_all [admitted]) rfl]
  have latched := latched_cellsCleared cells (afterGood s) k
  rw [causeHolds_afterGood] at latched
  refine ⟨_, exec_eq_effect _ _, ?_⟩
  rw [heard]
  have frame := framed_cellsCleared cells (afterGood s)
  by_cases hf : s.cycle.station = .faulted ∧ (cellsCleared cells (afterGood s)).anyF = false
  · have step : takeClear cells (afterGood s) = moveTo .ready (cellsCleared cells (afterGood s)) :=
      if_pos (by simpa [cellsCleared] using hf)
    have moved := (framed_moveTo (after := .ready) (by decide) (cellsCleared cells (afterGood s))).trans frame
    have hold := moveTo_hold_of_awake (.inl rfl) (cellsCleared cells (afterGood s))
    have status := moveTo_status .ready (cellsCleared cells (afterGood s))
    rw [step]
    refine ⟨?_, ?_, ?_, ?_, ?_, ?_, ?_, ?_, ?_, headFrame_of_framed (s := afterGood s) ?_ ?_⟩
    · refine Eq.trans ?_ latched
      simp [State.latched]
    all_goals simp_all [State.anyF]
  · have step : takeClear cells (afterGood s) = cellsCleared cells (afterGood s) :=
      if_neg (by simpa [cellsCleared] using hf)
    rw [step]
    refine ⟨?_, ?_, ?_, ?_, ?_, ?_, ?_, ?_, ?_, headFrame_of_framed (s := afterGood s) ?_ ?_⟩
    · refine Eq.trans ?_ latched
      simp [State.latched]
    all_goals simp_all [State.anyF]

end Sys2Proof.Machine
end

section
/-!
PROOFS. The entry to FAULTED: what it places and what its closing leaves; LOAD_END (O42).
-/

namespace Sys2Proof.Machine

/-! ## The STATUS slot -/

/-- Between `s` and `t` no STATUS was placed, or one or more: every STATUS is the same request (R111). -/
def StatusKept (s t : State) : Prop :=
  t.line.statusSlot = s.line.statusSlot ∨ t.line.statusSlot = slotPlace () s.line.statusSlot

theorem StatusKept.of_eq {s t : State} (h : t.line.statusSlot = s.line.statusSlot) : StatusKept s t := .inl h

theorem statusKept_placeStatus (s : State) : StatusKept s (placeStatus s) := .inr rfl

theorem StatusKept.trans {s t u : State} (h : StatusKept s t) (k : StatusKept t u) : StatusKept s u := by
  unfold StatusKept at *
  obtain h | h := h <;> obtain k | k := k <;> simp [h, k, slotPlace_idem]

/-- Once a STATUS is placed, the placing of others changes nothing. -/
theorem StatusKept.placed {s t u : State} (k : StatusKept t u)
    (h : t.line.statusSlot = slotPlace () s.line.statusSlot) : u.line.statusSlot = slotPlace () s.line.statusSlot := by
  obtain k | k := k <;> simp [h, k, slotPlace_idem]

theorem StatusKept.placed_status {s u : State} (k : StatusKept s u) :
    (placeStatus u).line.statusSlot = slotPlace () s.line.statusSlot := by
  change slotPlace () u.line.statusSlot = _
  obtain k | k := k <;> simp [k, slotPlace_idem]

theorem statusKept_reportClosed (s : State) : StatusKept s (reportClosed s) := by
  unfold reportClosed
  dsimp only
  (repeat' split)
  · exact .inr rfl
  · exact .inr rfl
  · exact .inl rfl
  · exact .inl rfl

theorem statusKept_abandonGas (s : State) : StatusKept s (abandonGas s) := by
  have closed (b : GasStage) (u : State) : StatusKept u (closeAfter b u) := by
    have settled (v : State) : StatusKept v (startSettle v) := .of_eq (by simp)
    have reported : StatusKept u (valveClosed u) :=
      (statusKept_reportClosed { u with gas := { u.gas with closeWindow := none } }).trans (settled _)
    unfold closeAfter closeIfShut
    (repeat' split)
    · exact .of_eq rfl
    · exact reported
    · exact .of_eq rfl
  unfold abandonGas
  split
  · exact .of_eq rfl
  · refine .trans (t := { compareDose (stopStage s) with
      gas :=
        { (compareDose (stopStage s)).gas with
          stage := .idle, settleTimer := none, checkTimer := none, ventSince := s.clock } }) (.of_eq ?_) (closed _ _)
    simp

theorem statusKept_reportA (c : Cell) (s : State) : StatusKept s (reportA c s) := by
  unfold reportA
  split
  · exact .of_eq rfl
  · exact .inr rfl

theorem statusKept_accrueDebt (s : State) : StatusKept s (accrueDebt s) := by
  unfold accrueDebt
  dsimp only
  (repeat' split)
  · exact .inr rfl
  · exact .inl rfl
  · exact .inl rfl

theorem statusKept_countReject (r : Reason) (s : State) : StatusKept s (countReject r s) := by
  unfold countReject
  (repeat' split)
  · exact .of_eq rfl
  · exact .of_eq rfl
  · exact .of_eq rfl
  · exact statusKept_reportA .rejectRun { s with result := { s.result with rejectRun := 0 } }
  · exact .of_eq rfl

theorem statusKept_closeContext (s : State) : StatusKept s (closeContext s) := by
  cases hc : s.context with
  | none => rw [closeContext_of_none hc]; exact .of_eq rfl
  | some c =>
    rw [closeContext_of_some hc]
    have counted : StatusKept s (countReject (buildRecord s c).reason (numbered s)) :=
      statusKept_countReject (buildRecord s c).reason (numbered s)
    exact (counted.trans (.of_eq (by simp))).trans (statusKept_accrueDebt _)

theorem moveTo_statusSlot (a : Station) (s : State) :
    (moveTo a s).line.statusSlot = slotPlace () s.line.statusSlot := by
  have told (u : State) : StatusKept u (readStuckEpisode u) := by
    unfold readStuckEpisode
    split
    · exact .inr rfl
    · exact .inl rfl
  have drawn (u : State) : StatusKept u (drawAtMove a u) := by
    cases a with
    | loading | parked => exact .of_eq rfl
    | _ => exact told u
  have released (u : State) : StatusKept u (releaseHold u) := by
    have retested (v : State) : StatusKept v (retest v) := .of_eq (by simp)
    exact .trans (t := setAsserted false (dropOwnEntry (placeHold 0 u))) (.inr rfl) (retested _)
  have held (b : Station) (u : State) : StatusKept u (holdAtMove b a u) := by
    cases a <;> simp only [holdAtMove, standDown]
    case standby =>
      split
      · exact released u
      · exact .of_eq rfl
    case loading | faulted =>
      split
      · exact .inr rfl
      · exact .of_eq rfl
    all_goals exact .of_eq rfl
  have before : StatusKept s { cycleAtMove a { s with cycle := { s.cycle with station := a } } with
      sensor :=
        { (cycleAtMove a { s with cycle := { s.cycle with station := a } }).sensor with
          scan :=
            if a = .parked then .slow
            else (cycleAtMove a { s with cycle := { s.cycle with station := a } }).sensor.scan } } :=
    .of_eq (by simp)
  exact (before.trans ((drawn _).trans (held s.cycle.station _))).placed_status

/-! ## FAULTED -/

/-- A context abandoned at the entry to FAULTED is closed with HEAD_FAULTED, which the reject run does not count. -/
theorem abandonContext_uncounted {s : State} {c : CanContext} (hc : s.context = some c) :
    ∃ d, (addReason .headFaulted (abandonGas (abandonCrimp s))).context = some d
      ∧ d.cycle = c.cycle ∧ chooseReason d.reasons = .headFaulted := by
  have work := (workKept_abandonCrimp s).trans (workKept_abandonGas _)
  have hcycle := work.cycle
  rw [hc] at hcycle
  obtain ⟨d, hd, hdc⟩ := Option.map_eq_some_iff.1 (hcycle.trans rfl)
  refine ⟨{ d with reasons := insertReason .headFaulted d.reasons }, by simp [addReason, onContext, hd], hdc, ?_⟩
  simp [chooseReason, reasonOrder, mem_insertReason_self]

/-- The cells and the reject run stay at the entry to FAULTED. -/
theorem abandonContext_fault (s : State) :
    (abandonContext s).fault = s.fault ∧ (abandonContext s).result.rejectRun = s.result.rejectRun := by
  cases hc : s.context with
  | none =>
    have h : abandonContext s = s := if_neg (by simp [hc])
    rw [h]
    exact ⟨rfl, rfl⟩
  | some c =>
    obtain ⟨d, hd, -, hr⟩ := abandonContext_uncounted hc
    have h : abandonContext s = closeContext (addReason .headFaulted (abandonGas (abandonCrimp s))) :=
      if_pos (by simp [hc])
    rw [h, closeContext_fault hd, closeContext_rejectRun hd, hr, faultAfterReject_uncounted rfl,
      rejectRunAfter_uncounted rfl]
    simp

theorem enterFaulted_fault (s : State) :
    (enterFaulted s).fault = s.fault ∧ (enterFaulted s).result.rejectRun = s.result.rejectRun := by
  obtain ⟨hf, hr⟩ := abandonContext_fault (moveTo .faulted s)
  exact ⟨by simp [enterFaulted, hf], by simp [enterFaulted, hr]⟩

theorem statusKept_abandonContext (s : State) : StatusKept s (abandonContext s) := by
  have gassed (u : State) : StatusKept u (addReason .headFaulted (abandonGas u)) := statusKept_abandonGas u
  have crimped : StatusKept s (abandonCrimp s) := .of_eq (by simp)
  unfold abandonContext
  split
  · exact (crimped.trans (gassed _)).trans (statusKept_closeContext _)
  · exact .of_eq rfl

theorem enterFaulted_statusSlot (s : State) :
    (enterFaulted s).line.statusSlot = slotPlace () s.line.statusSlot := by
  have closed := (statusKept_abandonContext (moveTo .faulted s)).placed (moveTo_statusSlot .faulted s)
  simpa [enterFaulted] using closed

theorem enterFaulted_idle {s : State} (hc : s.context = none) :
    (enterFaulted s).result = s.result ∧ (enterFaulted s).sensor.zeroDebt = s.sensor.zeroDebt := by
  have hm : (moveTo .faulted s).context = none := by simpa using hc
  have h : abandonContext (moveTo .faulted s) = moveTo .faulted s := if_neg (by simp [hm])
  simp [enterFaulted, h]

/-! ## LOAD_END -/

theorem setEnables_shape (e : BitVec 4) (s : State) :
    setEnables e s = { s with
      line := { s.line with statusSlot := (setEnables e s).line.statusSlot }
      fault := { latched := s.fault.latched, enables := e, alert := alertOf s.fault.latched e } } := by
  unfold setEnables
  dsimp only
  split <;> rfl

theorem statusKept_setEnables (e : BitVec 4) (s : State) : StatusKept s (setEnables e s) := by
  unfold setEnables
  dsimp only
  split
  · exact .inl rfl
  · exact .inr rfl

/-- The first class F cell latched is found first (R188). -/
theorem firstLatchedF_eq {s : State} {k : Cell} (hk : cellNumber k < 6) (hl : s.latched k = true)
    (hlow : ∀ j : Cell, cellNumber j < cellNumber k → s.latched j = false) : firstLatchedF s = some k := by
  have low (j : Cell) (hj : cellNumber j < cellNumber k) : (classF j && s.latched j) = false := by simp [hlow j hj]
  have at_k : (classF k && s.latched k) = true := by simp [classF, hk, hl]
  unfold firstLatchedF allCells
  cases k <;> simp_all [cellNumber]

theorem leaveLoading_ready {s : State} (h : s.anyF = false) : leaveLoading s = moveTo .ready s := by
  simp [leaveLoading, h]

theorem leaveLoading_faulted {s : State} (h : s.anyF = true) :
    leaveLoading s = { enterFaulted s with
        line := { (enterFaulted s).line with faultSlot := (leaveLoading s).line.faultSlot } }
      ∧ ∀ c, firstLatchedF (enterFaulted s) = some c → leaveLoading s = placeFault c (enterFaulted s) := by
  simp only [leaveLoading, if_pos h]
  cases firstLatchedF (enterFaulted s) with
  | none => exact ⟨rfl, nofun⟩
  | some c => exact ⟨rfl, fun _ hd => by cases hd; rfl⟩

/-- What leaving LOADING leaves, into either state. -/
theorem leaveLoading_leaves (s : State) :
    (leaveLoading s).fault = s.fault ∧ (leaveLoading s).result.rejectRun = s.result.rejectRun
      ∧ (leaveLoading s).line.statusSlot = slotPlace () s.line.statusSlot ∧ (leaveLoading s).framed = s.framed
      ∧ (s.context = none →
          (leaveLoading s).result = s.result ∧ (leaveLoading s).sensor.zeroDebt = s.sensor.zeroDebt) := by
  cases h : s.anyF with
  | false =>
    rw [leaveLoading_ready h]
    exact ⟨by simp, by simp, moveTo_statusSlot .., framed_moveTo (by decide) s, by simp⟩
  | true =>
    obtain ⟨hf, hr⟩ := enterFaulted_fault s
    rw [(leaveLoading_faulted h).1]
    exact ⟨hf, hr, enterFaulted_statusSlot s, framed_enterFaulted s, enterFaulted_idle⟩

theorem leaveLoading_faultSlot (s : State) :
    (s.anyF = false → (leaveLoading s).line.faultSlot = s.line.faultSlot)
      ∧ ∀ k : Cell, cellNumber k < 6 → s.latched k = true →
          (∀ j : Cell, cellNumber j < cellNumber k → s.latched j = false) →
          (leaveLoading s).line.faultSlot =
            faultPlace { cell := k, zone := s.zoneByte, valveOpen := s.gasFb } s.line.faultSlot := by
  refine ⟨fun h => by rw [leaveLoading_ready h]; simp, fun k hk hl hlow => ?_⟩
  have any : s.anyF = true := classF_cell_any (decide_eq_true hk) hl
  obtain ⟨hf, -⟩ := enterFaulted_fault s
  have first : firstLatchedF (enterFaulted s) = some k :=
    firstLatchedF_eq hk (by simpa [State.latched, hf] using hl) (by simpa [State.latched, hf] using hlow)
  rw [(leaveLoading_faulted any).2 k first]
  simp [placeFault, State.zoneByte]

/-- Settles O42: the image judged, and a good one accepted, with the station then leaving LOADING. -/
theorem loadEndJudgesTheImage : Obligations.LoadEndJudgesTheImage := by
  unfold Obligations.LoadEndJudgesTheImage
  intro s sender target n cause raw unknown hh ht
  have heard (hk : admitted .loadEnd s.cycle.station = true) :
      effect (.loadEnd sender target n) s = retest (takeLoadEnd n (afterGood s)) := by
    rw [effect_loadEnd, receive_console hh ht hk rfl]
  dsimp only
  refine ⟨fun hl => ?_, fun hl hj => ?_, fun hl hj => ?_, fun hn => ?_, fun h8 h256 hsum => ?_,
    fun h8 h256 hsum hv => ?_⟩
  · rw [exec_eq_effect, heard (by rw [hl]; rfl)]
    simp [takeLoadEnd, hl, placeStatus, statusPlaced, afterGood]
  · rw [exec_eq_effect, heard (by rw [hl]; rfl)]
    simp only [takeLoadEnd, afterGood_keeps, hl, hj]
    rfl
  · have hstep := heard (by rw [hl]; rfl)
    let u : State :=
      { afterGood s with
        recipe :=
          { s.recipe with
            recipe := some (clampRecipe raw), loadResult := .accepted, refusal := .none
            checkResult := checkResultAfter s.recipe n.toNat, clampFlag := decide (clampRecipe raw ≠ raw)
            unknownFlag := unknown } }
    have step : takeLoadEnd n (afterGood s) = leaveLoading (setEnables raw.alertEnables u) := by
      simp only [takeLoadEnd, afterGood_keeps, hl, hj]
      rfl
    have shape := setEnables_shape raw.alertEnables u
    have status := statusKept_setEnables raw.alertEnables u
    rw [step] at hstep
    generalize setEnables raw.alertEnables u = v at hstep shape status
    obtain ⟨fault, rejectRun, statusSlot, frame, idle⟩ := leaveLoading_leaves v
    obtain ⟨unplaced, placed⟩ := leaveLoading_faultSlot v
    have station := leaveLoading_station v
    have recipe : (leaveLoading v).recipe = v.recipe := by simp
    generalize leaveLoading v = w at hstep fault rejectRun statusSlot frame idle unplaced placed station recipe
    have latched : v.fault.latched = s.fault.latched := by rw [shape]; rfl
    refine ⟨_, exec_eq_effect _ _, ?_⟩
    rw [hstep]
    refine ⟨?_, ?_, ?_, ?_, ?_, fun ha => ?_, fun k hk hlk hlow => ?_, fun hc => ?_, headFrame_of_framed ?_ ?_⟩
    all_goals simp only [retest_keeps, framed_retest]
    · rw [recipe, shape]
      rfl
    · rw [fault, shape]
    · rw [fault, latched]
    · rw [station, latched]
      rfl
    · rw [statusSlot]
      exact StatusKept.placed_status (s := s) status
    · rw [unplaced (by rw [State.anyF, latched]; exact ha), shape]
      rfl
    · rw [placed k hk (by rw [State.latched, latched]; exact hlk)
        (fun j hj => by rw [State.latched, latched]; exact hlow j hj), shape]
      rfl
    · obtain ⟨result, debt⟩ := idle (by rw [shape]; exact hc)
      rw [result, debt, shape]
      exact ⟨rfl, rfl⟩
    · rw [frame, recipe, shape]
      rfl
    · rw [rejectRun, shape]
      rfl
  · simp [judgeImage, hn]
  · unfold judgeImage
    rw [if_neg (by omega), if_pos hsum]
  · unfold judgeImage
    rw [if_neg (by omega), if_neg (by simpa using hsum), if_pos hv]

end Sys2Proof.Machine
end

section
/-!
PROOFS. The valve with GAS off (O25): the stuck report, and a valve seen closed.
-/

namespace Sys2Proof.Machine

/-! ## A class F cause -/

/-- The report of a clear class F cell but LINE_DEAD, the station moved where its state moves (R187). -/
theorem reportF_clear {c : Cell} {s : State} (h : s.latched c = false) (hc : c ≠ .lineDead) :
    reportF c s = placeStatus (formAlert
      (if movesToFaulted s.cycle.station then enterFaulted (placeFault c (latch c s))
        else placeFault c (latch c s))) := by
  simp [reportF, h, retestIfDead, hc]

theorem reportF_fault {c : Cell} {s : State} (h : s.latched c = false) (hc : c ≠ .lineDead) :
    (reportF c s).fault =
      { latched := latchCell c s.fault.latched, enables := s.fault.enables
        alert := alertOf (latchCell c s.fault.latched) s.fault.enables } := by
  have moved (u : State) : (if movesToFaulted s.cycle.station then enterFaulted u else u).fault = u.fault := by
    split
    · exact (enterFaulted_fault u).1
    · rfl
  rw [reportF_clear h hc]
  simp only [placeStatus_keeps, formAlert, moved, placeFault_keeps]
  rfl

theorem reportF_faultSlot_clear {c : Cell} {s : State} (h : s.latched c = false) (hc : c ≠ .lineDead) :
    (reportF c s).line.faultSlot =
      faultPlace { cell := c, zone := s.zoneByte, valveOpen := s.gasFb } s.line.faultSlot := by
  have moved (u : State) : (if movesToFaulted s.cycle.station then enterFaulted u else u).line.faultSlot =
      u.line.faultSlot := by
    split
    · simp
    · rfl
  rw [reportF_clear h hc]
  simp only [placeStatus_keeps, formAlert_keeps, moved]
  rfl

/-- The report of VALVE_STUCK while it stands latched places its FAULT again and nothing else (R187). -/
theorem reportF_again {s : State} (h : s.latched .valveStuck = true) :
    reportF .valveStuck s = placeFault .valveStuck s := by
  simp [reportF, h]

theorem reportF_faultSlot (s : State) :
    (reportF .valveStuck s).line.faultSlot =
      faultPlace { cell := .valveStuck, zone := s.zoneByte, valveOpen := s.gasFb } s.line.faultSlot := by
  cases h : s.latched .valveStuck with
  | true =>
    rw [reportF_again h]
    rfl
  | false => exact reportF_faultSlot_clear h nofun

/-! ## The stuck report -/

/-- The head that has taken the stuck report to its Draw Unit, before the cell. -/
def stuckTaken (s : State) : State := drawTakesStuck { s with gas := { s.gas with stuckEpisode := true } }

theorem findStuckValve_eq {s : State} (h : s.gas.stuckEpisode = false) :
    findStuckValve s = reportF .valveStuck (stuckTaken s) := by
  simp [findStuckValve, h, stuckTaken]

theorem stuckTaken_shape (s : State) :
    stuckTaken s = { s with
      gas := { s.gas with stuckEpisode := true }
      line := { s.line with statusSlot := (stuckTaken s).line.statusSlot }
      draw :=
        { s.draw with
          self :=
            if (s.cycle.station = .loading ∨ s.cycle.station = .parked) ∧ s.draw.self = none then none
            else some .stuck } } := by
  unfold stuckTaken drawTakesStuck
  cases hs : s.draw.self with
  | some e => simp [stuckSelf, placeStatus]
  | none =>
    cases hst : s.cycle.station <;> simp [stuckSelf, placeStatus]
    all_goals rw [← hs]

theorem abandonGas_self {s : State} (hs : s.gas.stage ≠ .pulse) : (abandonGas s).draw.self = s.draw.self := by
  have stopped : (stopStage s).draw.self = s.draw.self := by
    unfold stopStage
    split <;> simp_all
  unfold abandonGas
  split
  · rfl
  · rw [closeAfter_of_ne hs]
    simpa using stopped

/-- A head in no pulse that enters FAULTED stays out of a pulse, and its SELF entry stands but for the stuck one that
an episode adds. -/
theorem enterFaulted_self {s : State} (hs : s.gas.stage ≠ .pulse) :
    (enterFaulted s).gas.stage ≠ .pulse
      ∧ (enterFaulted s).draw.self =
          if s.gas.stuckEpisode = true ∧ s.draw.self = none then some .stuck else s.draw.self := by
  have moved : (moveTo .faulted s).draw.self =
      if s.gas.stuckEpisode = true ∧ s.draw.self = none then some .stuck else s.draw.self := by
    cases hd : s.draw.self <;> cases he : s.gas.stuckEpisode <;>
      simp [moveTo, holdAtMove, drawAtMove, cycleAtMove, readStuckEpisode, stuckSelf, hd, he]
  have abandoned (u : State) (hu : u.gas.stage ≠ .pulse) :
      (abandonContext u).gas.stage ≠ .pulse ∧ (abandonContext u).draw.self = u.draw.self := by
    unfold abandonContext
    split
    · exact ⟨by simp [abandonGas_stage], by simpa using abandonGas_self (s := abandonCrimp u) (by simpa using hu)⟩
    · exact ⟨hu, rfl⟩
  obtain ⟨stage, self⟩ := abandoned (moveTo .faulted s) (by simpa using hs)
  exact ⟨by simpa [enterFaulted] using stage, by simpa [enterFaulted, self] using moved⟩

theorem stuckTaken_self (s : State) :
    (stuckTaken s).draw.self =
      if (s.cycle.station = .loading ∨ s.cycle.station = .parked) ∧ s.draw.self = none then none
      else some .stuck := by
  rw [stuckTaken_shape]

/-- A valve found open with GAS off and no close window (R96). -/
theorem findStuckValve_finds {s : State} (he : s.gas.stuckEpisode = false) (hs : s.gas.stage ≠ .pulse)
    (hw : s.gas.closeWindow = none) :
    let t := findStuckValve s
    t.gas.stuckEpisode = true ∧ t.gas.closeWindow = none ∧ t.gasFb = s.gasFb
      ∧ t.gasOn = false ∧ t.latched .valveStuck = true
      ∧ t.line.faultSlot =
          faultPlace { cell := .valveStuck, zone := s.zoneByte, valveOpen := s.gasFb } s.line.faultSlot
      ∧ (s.cycle.station = .loading → s.draw.self = none → t.cycle.station = .loading ∧ t.draw.self = none)
      ∧ (s.cycle.station ≠ .loading → s.latched .valveStuck = false →
          t.cycle.station = .faulted ∧ t.draw.self = some .stuck)
      ∧ (s.cycle.station ≠ .loading → s.latched .valveStuck = true →
          t.cycle = s.cycle ∧ t.fault = s.fault
            ∧ t.draw.self = if s.cycle.station = .parked ∧ s.draw.self = none then none else some .stuck)
      ∧ (s.latched .valveStuck = false → t.fault.alert = true)
      ∧ t.framed = State.framed { s with gas := { s.gas with stuckEpisode := true } }
      ∧ t.result.rejectRun = s.result.rejectRun := by
  intro t
  have shape := stuckTaken_shape s
  have stage : (stuckTaken s).gas.stage ≠ .pulse := by rw [shape]; exact hs
  have episode : (stuckTaken s).gas.stuckEpisode = true := by rw [shape]
  have window : (stuckTaken s).gas.closeWindow = none := by rw [shape]; exact hw
  have station : (stuckTaken s).cycle = s.cycle := by rw [shape]
  have fault : (stuckTaken s).fault = s.fault := by rw [shape]
  have frame : (stuckTaken s).framed = State.framed { s with gas := { s.gas with stuckEpisode := true } } := by
    rw [shape]; rfl
  have rejectRun : (stuckTaken s).result.rejectRun = s.result.rejectRun := by rw [shape]
  have pin : (stuckTaken s).gasFb = s.gasFb := by rw [shape]
  have self := stuckTaken_self s
  have ht : t = reportF .valveStuck (stuckTaken s) := findStuckValve_eq he
  have latched : t.latched .valveStuck = true := by rw [ht]; exact latched_reportF _ _
  have slot : t.line.faultSlot =
      faultPlace { cell := .valveStuck, zone := s.zoneByte, valveOpen := s.gasFb } s.line.faultSlot := by
    rw [ht, reportF_faultSlot, shape]
    rfl
  clear shape
  have common : t.gas.stuckEpisode = true ∧ t.gas.closeWindow = none ∧ t.gasFb = s.gasFb ∧
      t.framed = State.framed { s with gas := { s.gas with stuckEpisode := true } } := by
    rw [ht]
    exact ⟨by simpa using episode, (reportF_window stage).trans window, by simp [pin], by simpa using frame⟩
  obtain ⟨tepisode, twindow, tpin, tframe⟩ := common
  cases hl : s.latched .valveStuck with
  | true =>
    have again : t = placeFault .valveStuck (stuckTaken s) := by
      rw [ht, reportF_again (by rw [State.latched, fault]; exact hl)]
    refine ⟨tepisode, twindow, tpin, ?_, latched, slot, fun hload hself => ?_, nofun, fun hload _ => ?_, nofun, tframe, ?_⟩
    all_goals rw [again]
    · simpa [State.gasOn] using stage
    · refine ⟨by simp [station, hload], ?_⟩
      simp [self, hload, hself]
    · refine ⟨by simp [station], by simp [fault], ?_⟩
      simp [self, hload]
    · simpa using rejectRun
  | false =>
    have clear : (stuckTaken s).latched .valveStuck = false := by rw [State.latched, fault]; exact hl
    have report := ht.trans (reportF_clear clear nofun)
    have alert : t.fault.alert = true := by
      rw [ht, reportF_fault clear nofun]
      have any : anyClassF (latchCell .valveStuck (stuckTaken s).fault.latched) = true :=
        classF_cell_any (c := .valveStuck) rfl ((isLatched_latchCell ..).trans (Bool.or_true _))
      simp [alertOf, any]
    let x := placeFault .valveStuck (latch .valveStuck (stuckTaken s))
    obtain ⟨idle, stuck⟩ := enterFaulted_self (s := x) stage
    have xself : x.draw.self = (stuckTaken s).draw.self := rfl
    have xepisode : x.gas.stuckEpisode = true := episode
    rw [station] at report
    refine ⟨tepisode, twindow, tpin, ?_, latched, slot, fun hload hself => ?_, fun hload _ => ?_, nofun, fun _ => alert,
      tframe, ?_⟩
    all_goals rw [report]
    · cases movesToFaulted s.cycle.station
      · simpa [State.gasOn] using stage
      · simpa [State.gasOn, x] using idle
    · rw [hload]
      simp [movesToFaulted, station, hload, self, hself]
    · cases hm : movesToFaulted s.cycle.station
      · have hf : s.cycle.station = .faulted := by cases hst : s.cycle.station <;> simp_all [movesToFaulted]
        simp [station, hf, self]
      · simp only [if_true, placeStatus_keeps, formAlert_keeps]
        refine ⟨by simp, stuck.trans ?_⟩
        rw [xself, xepisode, self]
        split <;> simp_all
    · cases movesToFaulted s.cycle.station
      · simpa using rejectRun
      · simpa [x] using (enterFaulted_fault x).2.trans rejectRun

/-! ## A valve seen closed -/

/-- The head whose valve is reported closed (R137): SELF removed, and outside LOADING a SHUT placed. -/
def closedOff (s : State) : State :=
  { s with
    draw := { s.draw with self := none }
    line :=
      (if s.draw.self = some .stuck then statusPlaced else id)
        (if s.cycle.station = .loading then s.line
        else
          { s.line with
            shutSlot := slotPlace { zone := s.zoneByte, samples := s.gas.lastOpen } s.line.shutSlot }) }

theorem reportClosed_eq (s : State) : reportClosed s = closedOff s := by
  by_cases hl : s.cycle.station = .loading <;> by_cases hd : s.draw.self = some .stuck <;>
    simp [reportClosed, closedOff, hl, hd, placeShut, placeStatus, statusPlaced, State.zoneByte]

theorem takeValveClosed_calm {s : State} (h : s.cycle.silenceOver = false) :
    (takeValveClosed s).cycle.silenceOver = false := by
  unfold takeValveClosed endStuckEpisode
  (repeat' split)
  · exact (congrArg (·.silenceOver) (workKept_valveClosed s).station).trans h
  · dsimp only
    split <;> simpa using h
  · exact h

/-- The head in which a valve is found open with GAS off: GAS_FB shows open and no close window runs. -/
def foundOpen (s : State) : State := { s with gasFb := true, gas := { s.gas with closeWindow := none } }

theorem effect_gasFbOpens_found {s : State} (hw : s.gas.closeWindow = none) (hs : s.gas.stage ≠ .pulse) :
    effect .gasFbOpens s = findStuckValve (foundOpen s) := by
  have same : foundOpen s = { s with gasFb := true } := by
    unfold foundOpen
    rw [← hw]
  rw [same, effect_gasFbOpens]
  simp [State.gasOn, hs, hw]

theorem hasExpired_closeWindow {s : State} {since : Nat} (hw : s.gas.closeWindow = some since) :
    hasExpired s.clock s.gas.closeWindow Config.closeWindow = true ↔ since + 5 * 500 ≤ s.clock := by
  rw [hw]
  exact reached_iff ..

theorem effect_closeWindowExpiry_found {s : State} {since : Nat} (hw : s.gas.closeWindow = some since)
    (ht : since + 5 * 500 ≤ s.clock) (hfb : s.gasFb = true) (hs : s.gas.stage ≠ .pulse) :
    effect .closeWindowExpiry s = findStuckValve (foundOpen s) := by
  have same : foundOpen s = { s with gas := { s.gas with closeWindow := none } } := by
    unfold foundOpen
    rw [← hfb]
  rw [same, effect_closeWindowExpiry, if_pos ((hasExpired_closeWindow hw).2 ht), endCloseWindow]
  exact if_pos (by simp [hfb, State.gasOn, hs])

/-- Settles O25: the end of a close window, a valve found open with GAS off, and a valve seen closed. -/
theorem valveMovesWithGasOff : Obligations.ValveMovesWithGasOff := by
  unfold Obligations.ValveMovesWithGasOff
  refine ⟨fun s c since => ⟨fun h => ?_, fun ⟨hw, ht⟩ h => ?_, fun h hs he => ?_⟩,
    fun s hq => ⟨fun hw he => ?_, fun hw hs => ?_, fun hw hs hz => ?_, fun hw hs hz => ?_, fun hw he => ?_⟩⟩
  · have expired : hasExpired s.clock s.gas.closeWindow Config.closeWindow = false := by
      cases hw : s.gas.closeWindow with
      | none => rfl
      | some t => exact decide_eq_false (Nat.not_le.2 (h t hw))
    rw [exec_eq_effect, effect_closeWindowExpiry, expired]
    rfl
  · rw [exec_eq_effect, effect_closeWindowExpiry, if_pos ((hasExpired_closeWindow hw).2 ht), endCloseWindow]
    exact congrArg _ (if_neg (by obtain h | h := h <;> simp [h, State.gasOn]))
  · have hstep : effect c s = findStuckValve (foundOpen s) := by
      obtain ⟨rfl, hw⟩ | ⟨rfl, ⟨hw, ht⟩, hfb⟩ := h
      · exact effect_gasFbOpens_found hw hs
      · exact effect_closeWindowExpiry_found hw ht hfb hs
    obtain ⟨episode, window, pin, gas, latched, slot, load, clear, again, alert, frame, rejectRun⟩ :=
      findStuckValve_finds (s := foundOpen s) he hs rfl
    refine ⟨_, exec_eq_effect _ _, ?_⟩
    rw [hstep]
    exact ⟨episode, window, pin, gas, latched, slot, load, clear, again, alert,
      headFrame_of_framed (frame.trans rfl) rejectRun⟩
  all_goals
    have hstep : effect .gasFbCloses s = takeValveClosed { s with gasFb := false } := by
      rw [effect_gasFbCloses, parkTest_of_calm (takeValveClosed_calm (by exact hq))]
    rw [exec_eq_effect, hstep, takeValveClosed]
  · rw [hw, he]
    rfl
  · rw [if_pos (Option.isSome_iff_ne_none.2 hw), valveClosed, reportClosed_eq, startSettle_of_ne (by exact hs)]
    rfl
  · rw [if_pos (Option.isSome_iff_ne_none.2 hw), valveClosed, reportClosed_eq, startSettle, if_pos (by exact hs),
      if_neg (by exact hz)]
    rfl
  · rw [if_pos (Option.isSome_iff_ne_none.2 hw), valveClosed, reportClosed_eq, startSettle, if_pos (by exact hs),
      if_pos (by exact hz)]
    rfl
  · rw [if_neg (by simp [hw]), if_pos (by exact he), endStuckEpisode, reportClosed_eq]
    rfl

end Sys2Proof.Machine
end

section
/-!
PROOFS. The fourth failure of an attempt (O31): the slot emptied, its owner told, and LINE_DEAD reported.
-/

namespace Sys2Proof.Machine

/-! ## The slots at the entry to FAULTED -/

/-- The OPEN slot after a claim is cancelled (R136): a frame not yet on the line is withdrawn. -/
def slotAfterCancel (c : Claim) (t : Slot OpenFrame) : Slot OpenFrame :=
  if c = .placed ∧ slotOnLine t = false then Slot.vacant else t

/-- The claim after it is cancelled (R136). -/
def claimAfterCancel (c : Claim) (t : Slot OpenFrame) : Claim :=
  if c = .cancelled ∨ c = .placed ∧ slotOnLine t = true then .cancelled else .none

theorem cancelClaim_slots (s : State) :
    (cancelClaim s).line.openSlot = slotAfterCancel s.draw.claim s.line.openSlot
      ∧ (cancelClaim s).draw.claim = claimAfterCancel s.draw.claim s.line.openSlot := by
  cases hc : s.draw.claim <;> cases ho : slotOnLine s.line.openSlot <;>
    simp [cancelClaim, slotAfterCancel, claimAfterCancel, setClaim, withdrawOpen, hc, ho]

theorem closedOff_slots {s : State} (hl : s.cycle.station ≠ .loading) :
    (closedOff s).line.shutSlot = slotPlace { zone := s.zoneByte, samples := s.gas.lastOpen } s.line.shutSlot
      ∧ (closedOff s).line.openSlot = s.line.openSlot ∧ (closedOff s).draw.claim = s.draw.claim
      ∧ (closedOff s).draw.self = none := by
  by_cases hd : s.draw.self = some .stuck <;> simp [closedOff, hl, hd, statusPlaced]

/-- The shut slot, the OPEN slot and the claim after gassing is abandoned outside LOADING, by stage. -/
theorem abandonGas_slots {s : State} (hl : s.cycle.station ≠ .loading) :
    (abandonGas s).line.shutSlot =
        (if s.gas.stage = .pulse ∧ s.gasFb = false then
          slotPlace { zone := s.zoneByte, samples := s.dose.elapsed } s.line.shutSlot
        else s.line.shutSlot)
      ∧ (abandonGas s).line.openSlot =
        (if s.gas.stage = .claim then slotAfterCancel s.draw.claim s.line.openSlot else s.line.openSlot)
      ∧ (abandonGas s).draw.claim =
        (if s.gas.stage = .claim then claimAfterCancel s.draw.claim s.line.openSlot else s.draw.claim)
      ∧ ((abandonGas s).draw.self = some .driven → s.draw.self = some .driven) := by
  by_cases hp : s.gas.stage = .pulse
  · have hidle : s.gas.stage ≠ .idle := by simp [hp]
    have hcut : stopStage s = endPulse .cut s := by simp [stopStage, hp]
    have undriven : (compareDose (endPulse .cut s)).draw.self ≠ some .driven := by
      simp only [compareDose_keeps, endPulse, closeSelf]
      split <;> simp_all
    unfold abandonGas
    rw [if_neg hidle, hp, closeAfter, if_pos rfl, hcut]
    unfold closeIfShut
    split
    · next hf => simp_all
    · next hf =>
      rw [valveClosed, reportClosed_eq, startSettle_of_ne (by simp [closedOff])]
      have off := closedOff_slots (s := { compareDose (endPulse .cut s) with gas :=
        { (compareDose (endPulse .cut s)).gas with
          stage := .idle, settleTimer := none, checkTimer := none, ventSince := s.clock, closeWindow := none } })
        (by simpa using hl)
      refine ⟨?_, ?_, ?_, ?_⟩
      · refine off.1.trans ?_
        simp_all [endPulse, State.zoneByte]
      · exact off.2.1.trans (by simp)
      · refine off.2.2.1.trans ?_
        simp
      · exact fun h => absurd (h.symm.trans off.2.2.2) nofun
  · have stopped : (stopStage s).line.shutSlot = s.line.shutSlot
        ∧ (stopStage s).line.openSlot =
          (if s.gas.stage = .claim then slotAfterCancel s.draw.claim s.line.openSlot else s.line.openSlot)
        ∧ (stopStage s).draw.claim =
          (if s.gas.stage = .claim then claimAfterCancel s.draw.claim s.line.openSlot else s.draw.claim)
        ∧ (stopStage s).draw.self = s.draw.self := by
      unfold stopStage
      cases hs : s.gas.stage <;> simp_all [cancelClaim_slots]
    obtain ⟨shut, openSlot, claim, self⟩ := stopped
    unfold abandonGas
    split
    · next h => simp [h]
    · rw [closeAfter_of_ne hp]
      refine ⟨?_, ?_, ?_, ?_⟩
      · simp [hp]
      · simpa using openSlot
      · simpa using claim
      · simp [self]

/-- What a move to FAULTED leaves to the gassing that is then abandoned. -/
theorem moveTo_faulted_slots (s : State) :
    (moveTo .faulted s).context = s.context ∧ (moveTo .faulted s).line.openSlot = s.line.openSlot
      ∧ (moveTo .faulted s).draw.claim = s.draw.claim
      ∧ ((moveTo .faulted s).draw.self = some .driven → s.draw.self = some .driven) := by
  by_cases h : s.gas.stuckEpisode = true ∧ s.draw.self = none <;>
    simp [moveTo, holdAtMove, drawAtMove, cycleAtMove, readStuckEpisode, stuckSelf, h]

/-- The slots and the claim where the context is closed at the entry to FAULTED. -/
theorem enterFaulted_slots {s : State} (hc : s.context ≠ none) :
    (enterFaulted s).line.shutSlot =
        (if s.gas.stage = .pulse ∧ s.gasFb = false then
          slotPlace { zone := s.zoneByte, samples := s.dose.elapsed } s.line.shutSlot
        else s.line.shutSlot)
      ∧ (enterFaulted s).line.openSlot =
        (if s.gas.stage = .claim then slotAfterCancel s.draw.claim s.line.openSlot else s.line.openSlot)
      ∧ (enterFaulted s).draw.claim =
        (if s.gas.stage = .claim then claimAfterCancel s.draw.claim s.line.openSlot else s.draw.claim)
      ∧ ((enterFaulted s).draw.self = some .driven → s.draw.self = some .driven) := by
  obtain ⟨hcontext, hopen, hclaim, hself⟩ := moveTo_faulted_slots s
  have hm : (moveTo .faulted s).context.isSome = true := by
    rw [hcontext]
    exact Option.isSome_iff_ne_none.2 hc
  have gassed := abandonGas_slots (s := abandonCrimp (moveTo .faulted s)) (by simp)
  simp only [enterFaulted, endGrant_keeps, abandonContext, if_pos hm, closeContext_keeps, addReason_keeps]
  refine ⟨?_, ?_, ?_, fun h => hself ?_⟩
  · refine gassed.1.trans ?_
    simp [State.zoneByte]
  · refine gassed.2.1.trans ?_
    simp [hopen, hclaim]
  · refine gassed.2.2.1.trans ?_
    simp [hopen, hclaim]
  · simpa using gassed.2.2.2 h

/-- The slots and the claim at the entry to FAULTED without a context. -/
theorem enterFaulted_slots_idle {s : State} (hc : s.context = none) :
    (enterFaulted s).line.shutSlot = s.line.shutSlot ∧ (enterFaulted s).line.openSlot = s.line.openSlot
      ∧ (enterFaulted s).draw.claim = s.draw.claim ∧ (enterFaulted s).line.resultSlot = s.line.resultSlot
      ∧ (enterFaulted s).result = s.result
      ∧ ((enterFaulted s).draw.self = some .driven → s.draw.self = some .driven) := by
  obtain ⟨hcontext, hopen, hclaim, hself⟩ := moveTo_faulted_slots s
  have hm : (moveTo .faulted s).context = none := hcontext.trans hc
  have h : abandonContext (moveTo .faulted s) = moveTo .faulted s := if_neg (by simp [hm])
  simp only [enterFaulted, endGrant_keeps, h, hopen, hclaim]
  exact ⟨by simp, trivial, trivial, by simp, by simp, hself⟩

/-! ## The record of the context closed at the entry to FAULTED -/

/-- A record queued leaves the RESULT slot as it was, or PENDING where it was EMPTY. -/
theorem queueRecord_resultSlot (r : Record) (s : State) :
    (queueRecord r s).line.resultSlot =
      if slotEmpty s.line.resultSlot then { s.line.resultSlot with body := .pending () } else s.line.resultSlot := by
  unfold queueRecord
  split <;> simp [syncResult] <;> split <;> rfl

theorem closeContext_resultSlot {s : State} {c : CanContext} (hc : s.context = some c) :
    (closeContext s).line.resultSlot =
      if slotEmpty s.line.resultSlot then { s.line.resultSlot with body := .pending () } else s.line.resultSlot := by
  have accrued (u : State) : (accrueDebt u).line.resultSlot = u.line.resultSlot := by
    rw [accrueDebt_shape]
  rw [closeContext_of_some hc, accrued, queueRecord_resultSlot]
  simp [numbered]

/-- The record of a context closed at the entry to FAULTED, in a queue with room. -/
theorem enterFaulted_record {s : State} {c : CanContext} (hc : s.context = some c) (hroom : s.result.queue.length < 8) :
    (∃ r, r.reason = .headFaulted ∧ r.cycle = c.cycle ∧ (enterFaulted s).result.queue = s.result.queue ++ [r])
      ∧ (enterFaulted s).result.dropCount = s.result.dropCount
      ∧ (enterFaulted s).line.resultSlot =
        if slotEmpty s.line.resultSlot then { s.line.resultSlot with body := .pending () }
        else s.line.resultSlot := by
  have hm : (moveTo .faulted s).context = some c := (moveTo_faulted_slots s).1.trans hc
  obtain ⟨d, hd, hcycle, hreason⟩ := abandonContext_uncounted hm
  have joins := recordJoins_closeContext hd
  have kept : (addReason .headFaulted (abandonGas (abandonCrimp (moveTo .faulted s)))).result = s.result := by simp
  have closed : abandonContext (moveTo .faulted s) =
      closeContext (addReason .headFaulted (abandonGas (abandonCrimp (moveTo .faulted s)))) :=
    if_pos (by simp [hm])
  have queue := joins.appended (by rw [kept]; exact hroom)
  rw [RecordJoins, kept, if_pos hroom] at joins
  simp only [enterFaulted, endGrant_keeps, closed]
  refine ⟨⟨buildRecord (addReason .headFaulted (abandonGas (abandonCrimp (moveTo .faulted s)))) d, hreason, hcycle, ?_⟩,
    joins.2, ?_⟩
  · exact queue.trans (by rw [kept])
  · refine (closeContext_resultSlot hd).trans ?_
    simp

/-! ## The owner of the failed slot told -/

/-- The head after the last end mark bit of a fourth-failure abort mark, before LINE_DEAD is reported: the line
released, the failed slot emptied and its owner told (R109). -/
def told (k : SlotKind) (s : State) : State := ownerNotSent k (onSlot k slotDrop slotDrop (releaseLine s))

theorem fourthFailure_told (k : SlotKind) (s : State) :
    fourthFailure k (releaseLine s) = reportF .lineDead (told k s) := rfl

@[simp] theorem told_keeps (k : SlotKind) (s : State) :
    (told k s).cycle = s.cycle ∧ (told k s).gas = s.gas ∧ (told k s).gasFb = s.gasFb ∧ (told k s).fault = s.fault
      ∧ (told k s).recipe = s.recipe ∧ (told k s).dose = s.dose ∧ (told k s).draw.self = s.draw.self
      ∧ (told k s).result.rejectRun = s.result.rejectRun ∧ (told k s).line.attempt = none
      ∧ (told k s).line.abort = .none := by
  simp [told, releaseLine]

@[simp] theorem told_zoneByte (k : SlotKind) (s : State) : (told k s).zoneByte = s.zoneByte := by
  simp [State.zoneByte]

/-- The slots whose owner is told nothing, after the fourth failure of slot `k`. -/
theorem told_slots (k : SlotKind) (s : State) :
    (told k s).line.faultSlot = (if k = .faultSlot then Slot.vacant else s.line.faultSlot)
      ∧ (told k s).line.holdSlot = (if k = .holdSlot then Slot.vacant else s.line.holdSlot)
      ∧ (told k s).line.shutSlot = (if k = .shutSlot then Slot.vacant else s.line.shutSlot)
      ∧ (told k s).line.statusSlot = (if k = .statusSlot then Slot.vacant else s.line.statusSlot) := by
  cases k <;> simp [told, onSlot, slotDrop, releaseLine]

theorem framed_ownerNotSent (k : SlotKind) (s : State) : (ownerNotSent k s).framed = s.framed := by
  cases k <;> simp only [ownerNotSent]
  case resultSlot => rw [dropHead, syncResult_shape]; rfl
  case openSlot =>
    split
    · exact ((workKept_takeHeldRequest _).frame).trans rfl
    · split <;> rfl

theorem framed_told (k : SlotKind) (s : State) : (told k s).framed = (releaseLine s).framed := by
  rw [told, framed_ownerNotSent]
  cases k <;> rfl

theorem oneMoreDropped_eq (n : Nat) : oneMoreDropped n = min 255 (n + 1) := by
  unfold oneMoreDropped
  split <;> omega

/-- A record given up: the head record gone, one more counted as dropped (R109, R168). -/
theorem told_result (s : State) :
    (told .resultSlot s).result.queue = s.result.queue.tail
      ∧ (told .resultSlot s).result.dropCount = oneMoreDropped s.result.dropCount
      ∧ (told .resultSlot s).line.resultSlot =
        { body := if s.result.queue.tail.isEmpty then .empty else .pending (), next := none, failures := 0 } := by
  cases h : s.result.queue.tail <;>
    simp [told, ownerNotSent, dropHead, syncResult, onSlot, slotDrop, releaseLine, Slot.vacant, slotPending, slotEmpty,
      h]

theorem told_result_other {k : SlotKind} (hk : k ≠ .resultSlot) (s : State) :
    (told k s).result = s.result ∧ (told k s).line.resultSlot = s.line.resultSlot := by
  cases k
  case resultSlot => exact absurd rfl hk
  case openSlot =>
    simp only [told, ownerNotSent]
    split
    · simp [endCancelled, onSlot, releaseLine]
    · split <;> simp [onSlot, releaseLine]
  all_goals exact ⟨rfl, rfl⟩

theorem told_open_other {k : SlotKind} (hk : k ≠ .openSlot) (s : State) :
    (told k s).line.openSlot = s.line.openSlot ∧ (told k s).draw.claim = s.draw.claim
      ∧ (told k s).context = s.context := by
  cases k
  case openSlot => exact absurd rfl hk
  case resultSlot => simp [told, ownerNotSent, dropHead, onSlot, releaseLine]
  all_goals exact ⟨rfl, rfl, rfl⟩

/-- The claim once its OPEN is given up (R128, R132). -/
def claimGivenUp (s : State) : Claim :=
  match s.draw.claim with
  | .placed => if s.gas.stage = .claim then .waiting else .none
  | .cancelled => if s.draw.requestHeld = true ∧ s.gas.stage = .claim then .waiting else .none
  | other => other

theorem claimGivenUp_cases (s : State) : claimGivenUp s = .waiting ∨ claimGivenUp s = .none := by
  unfold claimGivenUp
  cases s.draw.claim <;> by_cases hs : s.gas.stage = .claim <;> cases s.draw.requestHeld <;> simp [hs]

/-- The head with its OPEN slot emptied as the request held behind a cancelled OPEN is made (R132). -/
def askedAgain (s : State) : State :=
  { releaseLine s with
    line := { (releaseLine s).line with openSlot := Slot.vacant }
    draw := { s.draw with claim := .none, requestHeld := false } }

/-- An OPEN given up leaves its slot EMPTY and the claim given up, but for a held request that is admitted and
places an OPEN anew (R132). -/
theorem told_open (s : State) :
    ((told .openSlot s).line.openSlot = Slot.vacant ∧ (told .openSlot s).draw.claim = claimGivenUp s)
      ∨ (slotPending (told .openSlot s).line.openSlot = true ∧ (told .openSlot s).draw.claim = .placed
        ∧ s.gas.stage = .claim ∧ claimGivenUp s = .waiting ∧ s.latched .lineDead = false) := by
  cases hc : s.draw.claim
  case cancelled =>
    by_cases hheld : s.draw.requestHeld = true ∧ s.gas.stage = .claim
    · have asked : told .openSlot s = requestClaim (askedAgain s) := by
        simp [told, onSlot, slotDrop, ownerNotSent, endCancelled, takeHeldRequest, releaseLine, setClaim, askedAgain,
          hc, hheld]
      have given : claimGivenUp s = .waiting := by simp [claimGivenUp, hc, hheld]
      rw [asked, requestClaim]
      cases ha : (askedAgain s).admits
      · left
        simp [askedAgain, given, releaseLine, setClaim]
      · right
        have clear : s.latched .lineDead = false := by
          simp only [State.admits, Bool.and_eq_true, Bool.not_eq_true'] at ha
          exact ha.2
        simp [askedAgain, given, clear, hheld, releaseLine, setClaim, placeOpen, slotPlace, Slot.vacant, slotPending]
    · left
      simp [told, onSlot, slotDrop, ownerNotSent, endCancelled, takeHeldRequest, releaseLine, setClaim, claimGivenUp,
        hc, hheld]
  all_goals
    left
    by_cases hs : s.gas.stage = .claim <;>
      simp [told, onSlot, slotDrop, ownerNotSent, releaseLine, setClaim, claimGivenUp, hc, hs]

/-- With LINE_DEAD latched the context stays when an OPEN is given up, but for DRAW_WAIT at a held request (R129). -/
theorem told_context_dead {s : State} (hd : s.latched .lineDead = true) :
    (told .openSlot s).context =
      if s.draw.claim = .cancelled ∧ s.draw.requestHeld = true ∧ s.gas.stage = .claim then
        s.context.map (fun c => { c with conditions := setCondition .drawWait c.conditions })
      else s.context := by
  cases hc : s.draw.claim
  case cancelled =>
    by_cases hheld : s.draw.requestHeld = true ∧ s.gas.stage = .claim
    · have refused : (askedAgain s).admits = false := by
        have dead : (askedAgain s).latched .lineDead = true := hd
        simp [State.admits, dead]
      have asked : told .openSlot s = requestClaim (askedAgain s) := by
        simp [told, onSlot, slotDrop, ownerNotSent, endCancelled, takeHeldRequest, releaseLine, setClaim, askedAgain,
          hc,
          hheld]
      rw [asked, requestClaim, refused]
      simp [askedAgain, releaseLine, setClaim, addCondition, onContext, hheld]
    · simp [told, onSlot, slotDrop, ownerNotSent, endCancelled, takeHeldRequest, releaseLine, setClaim, hc, hheld]
  all_goals simp [told, onSlot, ownerNotSent, releaseLine, setClaim, hc]

theorem told_context (k : SlotKind) (s : State) : (told k s).context.map (·.cycle) = s.context.map (·.cycle) := by
  by_cases hk : k = .openSlot
  · subst hk
    simp only [told, ownerNotSent]
    split
    · exact (workKept_takeHeldRequest _).cycle
    · split <;> rfl
  · rw [(told_open_other hk s).2.2]

theorem told_context_none (k : SlotKind) (s : State) : (told k s).context = none ↔ s.context = none := by
  have h := told_context k s
  cases hs : s.context <;> cases ht : (told k s).context <;> simp_all

/-! ## LINE_DEAD reported -/

theorem reportF_dead_again {s : State} (h : s.latched .lineDead = true) : reportF .lineDead s = s := by
  simp [reportF, h]

theorem enterFaulted_calm (s : State) :
    (enterFaulted s).cycle.silenceOver = false ∧ (enterFaulted s).line.holdSlot = s.line.holdSlot := by
  have abandoned (u : State) : (abandonContext u).cycle.silenceOver = u.cycle.silenceOver := by
    have calm := congrArg (·.silenceOver) ((workKept_abandonCrimp u).trans (workKept_abandonGas _)).station
    unfold abandonContext
    split
    · simpa using calm
    · rfl
  exact ⟨(abandoned _).trans (moveTo_calm ..), by simp [enterFaulted, moveTo, holdAtMove, drawAtMove, cycleAtMove]⟩

/-- The repeated admission test with LINE_DEAD latched: an OPEN not yet on the line is withdrawn (R129). -/
theorem retest_dead {s : State} (hd : s.latched .lineDead = true) :
    (retest s).line.openSlot =
        (if s.gas.stage = .claim ∧ s.draw.claim = .placed ∧ slotPending s.line.openSlot = true then Slot.vacant
        else s.line.openSlot)
      ∧ (retest s).draw.claim =
        (if s.gas.stage = .claim ∧ s.draw.claim = .placed ∧ slotPending s.line.openSlot = true then .waiting
        else s.draw.claim) := by
  have refused : s.admits = false := by simp [State.admits, hd]
  by_cases hs : s.gas.stage = .claim <;> cases hc : s.draw.claim <;> cases ho : slotPending s.line.openSlot <;>
    simp [retest, refused, hs, hc, ho, withdrawOpen, setClaim]

/-- The head with LINE_DEAD latched and its FAULT placed, before it moves to FAULTED (R187, R188). -/
def deadLatched (s : State) : State := placeFault .lineDead (retest (latch .lineDead s))

theorem reportF_dead {s : State} (h : s.latched .lineDead = false) :
    reportF .lineDead s = placeStatus (formAlert
      (if movesToFaulted s.cycle.station then enterFaulted (deadLatched s) else deadLatched s)) := by
  simp [reportF, h, retestIfDead, deadLatched]

@[simp] theorem deadLatched_keeps (s : State) :
    (deadLatched s).cycle = s.cycle ∧ (deadLatched s).gas = s.gas ∧ (deadLatched s).gasFb = s.gasFb
      ∧ (deadLatched s).recipe = s.recipe ∧ (deadLatched s).result = s.result ∧ (deadLatched s).draw.self = s.draw.self
      ∧ (deadLatched s).dose.elapsed = s.dose.elapsed ∧ (deadLatched s).line.holdSlot = s.line.holdSlot
      ∧ (deadLatched s).line.shutSlot = s.line.shutSlot ∧ (deadLatched s).line.statusSlot = s.line.statusSlot
      ∧ (deadLatched s).line.resultSlot = s.line.resultSlot ∧ (deadLatched s).line.attempt = s.line.attempt
      ∧ (deadLatched s).line.abort = s.line.abort ∧ ((deadLatched s).context = none ↔ s.context = none)
      ∧ (deadLatched s).line.faultSlot =
        faultPlace { cell := .lineDead, zone := s.zoneByte, valveOpen := s.gasFb } s.line.faultSlot := by
  simp [deadLatched, placeFault, State.zoneByte]

theorem deadLatched_context (s : State) : (deadLatched s).context.map (·.cycle) = s.context.map (·.cycle) :=
  (workKept_retest (latch .lineDead s)).cycle

theorem deadLatched_claim (s : State) :
    (deadLatched s).line.openSlot =
        (if s.gas.stage = .claim ∧ s.draw.claim = .placed ∧ slotPending s.line.openSlot = true then Slot.vacant
        else s.line.openSlot)
      ∧ (deadLatched s).draw.claim =
        (if s.gas.stage = .claim ∧ s.draw.claim = .placed ∧ slotPending s.line.openSlot = true then .waiting
        else s.draw.claim) :=
  retest_dead (s := latch .lineDead s) (by simp [latched_latch])

theorem movesToFaulted_iff (a : Station) : movesToFaulted a = true ↔ a ≠ .loading ∧ a ≠ .faulted := by
  cases a <;> simp [movesToFaulted]

/-- A newly latched LINE_DEAD where no context is closed: the slots and the claim are those of the admission test. -/
theorem reportF_dead_idle {w : State} (h : w.latched .lineDead = false)
    (hm : ¬(movesToFaulted w.cycle.station = true ∧ w.context ≠ none)) :
    (reportF .lineDead w).line.shutSlot = w.line.shutSlot
      ∧ (reportF .lineDead w).line.openSlot = (deadLatched w).line.openSlot
      ∧ (reportF .lineDead w).draw.claim = (deadLatched w).draw.claim
      ∧ ((reportF .lineDead w).draw.self = some .driven → w.draw.self = some .driven)
      ∧ (reportF .lineDead w).result = w.result
      ∧ (reportF .lineDead w).line.resultSlot = w.line.resultSlot := by
  rw [reportF_dead h]
  split
  · next hmoves =>
    have hc : (deadLatched w).context = none := by
      have hw : w.context = none := Classical.not_not.1 fun hne => hm ⟨hmoves, hne⟩
      simp [hw]
    obtain ⟨shut, openSlot, claim, resultSlot, result, self⟩ := enterFaulted_slots_idle hc
    exact ⟨by simp [shut], by simp [openSlot], by simp [claim], by simpa using self, by simp [result],
      by simp [resultSlot]⟩
  · simp

/-- A newly latched LINE_DEAD that closes a context. -/
theorem reportF_dead_closing {w : State} {c : CanContext} (h : w.latched .lineDead = false)
    (hm : movesToFaulted w.cycle.station = true) (hc : w.context = some c) :
    (reportF .lineDead w).line.shutSlot =
        (if w.gas.stage = .pulse ∧ w.gasFb = false then
          slotPlace { zone := w.zoneByte, samples := w.dose.elapsed } w.line.shutSlot
        else w.line.shutSlot)
      ∧ (reportF .lineDead w).line.openSlot =
        (if w.gas.stage = .claim then slotAfterCancel (deadLatched w).draw.claim (deadLatched w).line.openSlot
        else (deadLatched w).line.openSlot)
      ∧ (reportF .lineDead w).draw.claim =
        (if w.gas.stage = .claim then claimAfterCancel (deadLatched w).draw.claim (deadLatched w).line.openSlot
        else (deadLatched w).draw.claim)
      ∧ ((reportF .lineDead w).draw.self = some .driven → w.draw.self = some .driven) := by
  have hd : (deadLatched w).context ≠ none := fun hn => by simp [hc] at hn
  obtain ⟨shut, openSlot, claim, self⟩ := enterFaulted_slots hd
  rw [reportF_dead h, if_pos hm]
  refine ⟨?_, ?_, ?_, fun hs => ?_⟩
  · simpa [State.zoneByte] using shut
  · simpa using openSlot
  · simpa using claim
  · simpa using self (by simpa using hs)

/-- The record of the context that a newly latched LINE_DEAD closes, in a queue with room. -/
theorem reportF_dead_record {w : State} {c : CanContext} (h : w.latched .lineDead = false)
    (hm : movesToFaulted w.cycle.station = true) (hc : w.context = some c) (hroom : w.result.queue.length < 8) :
    (∃ r, r.reason = .headFaulted ∧ r.cycle = c.cycle ∧ (reportF .lineDead w).result.queue = w.result.queue ++ [r])
      ∧ (reportF .lineDead w).result.dropCount = w.result.dropCount
      ∧ (reportF .lineDead w).line.resultSlot =
        if slotEmpty w.line.resultSlot then { w.line.resultSlot with body := .pending () }
        else w.line.resultSlot := by
  obtain ⟨d, hd, hcycle⟩ := Option.map_eq_some_iff.1 ((deadLatched_context w).trans (congrArg _ hc))
  obtain ⟨⟨r, reason, cycle, queue⟩, drops, slot⟩ := enterFaulted_record hd (by simpa using hroom)
  rw [reportF_dead h, if_pos hm]
  exact ⟨⟨r, reason, cycle.trans hcycle, by simpa using queue⟩, by simpa using drops, by simpa using slot⟩

/-- What a newly latched LINE_DEAD places and where it moves the station. -/
theorem reportF_dead_placed {w : State} (h : w.latched .lineDead = false) :
    (reportF .lineDead w).line.faultSlot =
        faultPlace { cell := .lineDead, zone := w.zoneByte, valveOpen := w.gasFb } w.line.faultSlot
      ∧ (reportF .lineDead w).line.statusSlot = slotPlace () w.line.statusSlot
      ∧ (reportF .lineDead w).line.holdSlot = w.line.holdSlot
      ∧ (reportF .lineDead w).result.rejectRun = w.result.rejectRun
      ∧ (w.cycle.silenceOver = false → (reportF .lineDead w).cycle.silenceOver = false)
      ∧ (if movesToFaulted w.cycle.station then
          (reportF .lineDead w).cycle.station = .faulted ∧ (reportF .lineDead w).context = none
        else (reportF .lineDead w).cycle = w.cycle ∧ (reportF .lineDead w).draw.self = w.draw.self) := by
  rw [reportF_dead h]
  split
  · obtain ⟨calm, hold⟩ := enterFaulted_calm (deadLatched w)
    have rejectRun := (enterFaulted_fault (deadLatched w)).2
    have status := enterFaulted_statusSlot (deadLatched w)
    refine ⟨by simp, ?_, by simp [hold], by simp [rejectRun], fun _ => by simp [calm], by simp⟩
    simp [placeStatus, status, slotPlace_idem]
  · refine ⟨by simp, ?_, by simp, by simp, fun hq => by simpa using hq, by simp⟩
    simp [placeStatus]

/-- An OPEN given up, and the admission test repeated with LINE_DEAD newly latched: the slot is EMPTY. -/
theorem deadLatched_told_open (s : State) :
    (deadLatched (told .openSlot s)).line.openSlot = Slot.vacant
      ∧ (deadLatched (told .openSlot s)).draw.claim = claimGivenUp s := by
  obtain ⟨openSlot, claim⟩ := deadLatched_claim (told .openSlot s)
  rw [openSlot, claim]
  obtain ⟨vacant, given⟩ | ⟨pending, placed, stage, waiting, -⟩ := told_open s
  · simp [vacant, given, slotPending, Slot.vacant]
  · simp [pending, placed, stage, waiting]

/-- A claim given up, its slot EMPTY, is cancelled without a frame to withdraw. -/
theorem cancel_claimGivenUp (s : State) :
    slotAfterCancel (claimGivenUp s) Slot.vacant = Slot.vacant
      ∧ claimAfterCancel (claimGivenUp s) Slot.vacant = .none := by
  obtain h | h := claimGivenUp_cases s <;> simp [h, slotAfterCancel, claimAfterCancel]

theorem fourthFailure_open (s : State) :
    (reportF .lineDead (told .openSlot s)).line.openSlot = Slot.vacant
      ∧ (reportF .lineDead (told .openSlot s)).draw.claim =
        (if (s.latched .lineDead = false ∧ movesToFaulted s.cycle.station = true) ∧ s.context ≠ none
            ∧ s.gas.stage = .claim then .none
        else claimGivenUp s)
      ∧ ((reportF .lineDead (told .openSlot s)).draw.self = some .driven → s.draw.self = some .driven) := by
  cases hd : s.latched .lineDead
  case true =>
    rw [reportF_dead_again (by simpa [State.latched] using hd)]
    obtain ⟨vacant, given⟩ | ⟨-, -, -, -, clear⟩ := told_open s
    · exact ⟨vacant, by simp [given], by simp⟩
    · exact absurd (hd.symm.trans clear) nofun
  case false =>
    have hw : (told .openSlot s).latched .lineDead = false := by simpa [State.latched] using hd
    obtain ⟨settled, given⟩ := deadLatched_told_open s
    by_cases hm : movesToFaulted s.cycle.station = true ∧ s.context ≠ none
    · obtain ⟨c, hc⟩ := Option.ne_none_iff_exists'.1 hm.2
      obtain ⟨d, hcontext, -⟩ := Option.map_eq_some_iff.1 ((told_context .openSlot s).trans (congrArg _ hc))
      obtain ⟨-, openSlot, claim, self⟩ := reportF_dead_closing hw (by simpa using hm.1) hcontext
      rw [settled, given, (cancel_claimGivenUp s).1] at openSlot
      rw [settled, given, (cancel_claimGivenUp s).2] at claim
      exact ⟨by simpa using openSlot, by simpa [hm] using claim, by simpa using self⟩
    · obtain ⟨-, openSlot, claim, self, -⟩ := reportF_dead_idle hw (by simpa [told_context_none] using hm)
      refine ⟨openSlot.trans settled, (claim.trans given).trans (if_neg ?_).symm, by simpa using self⟩
      exact fun ⟨⟨_, moves⟩, open_, _⟩ => hm ⟨moves, open_⟩

/-- With LINE_DEAD newly latched the SHUT slot takes a SHUT just where a pulse is cut with the valve shown closed. -/
theorem fourthFailure_shut {k : SlotKind} {s : State} (h : (told k s).latched .lineDead = false) :
    (reportF .lineDead (told k s)).line.shutSlot =
      if (movesToFaulted s.cycle.station = true ∧ s.context ≠ none) ∧ s.gas.stage = .pulse ∧ s.gasFb = false then
        slotPlace { zone := s.zoneByte, samples := s.dose.elapsed } (told k s).line.shutSlot
      else (told k s).line.shutSlot := by
  by_cases hm : movesToFaulted s.cycle.station = true ∧ s.context ≠ none
  · obtain ⟨c, hc⟩ := Option.ne_none_iff_exists'.1 (mt (told_context_none k s).1 hm.2)
    obtain ⟨shut, -⟩ := reportF_dead_closing h (by simpa using hm.1) hc
    simpa [hm, State.zoneByte] using shut
  · rw [if_neg fun hp => hm hp.1]
    exact (reportF_dead_idle h (by simpa [told_context_none] using hm)).1

/-- A pending OPEN placed in CLAIM is withdrawn by the newly latched cell (R129). -/
theorem fourthFailure_withdraws {k : SlotKind} {s : State} (h : (told k s).latched .lineDead = false)
    (hk : k ≠ .openSlot) (hp : slotPending s.line.openSlot = true) (hc : s.draw.claim = .placed)
    (hs : s.gas.stage = .claim) : (reportF .lineDead (told k s)).line.openSlot = Slot.vacant := by
  obtain ⟨openSlot, claim, -⟩ := told_open_other hk s
  obtain ⟨settled, waiting⟩ := deadLatched_claim (told k s)
  rw [if_pos (by simp [openSlot, claim, hp, hc, hs])] at settled waiting
  by_cases hm : movesToFaulted s.cycle.station = true ∧ s.context ≠ none
  · obtain ⟨c, hcontext⟩ := Option.ne_none_iff_exists'.1 (mt (told_context_none k s).1 hm.2)
    obtain ⟨-, kept, -⟩ := reportF_dead_closing h (by simpa using hm.1) hcontext
    simpa [settled, waiting, slotAfterCancel] using kept
  · obtain ⟨-, kept, -⟩ := reportF_dead_idle h (by simpa [told_context_none] using hm)
    exact kept.trans settled

/-- The queue where LINE_DEAD newly latched closes no context, and where it closes one. -/
theorem fourthFailure_result {k : SlotKind} {s : State} (h : (told k s).latched .lineDead = false) :
    (¬(movesToFaulted s.cycle.station = true ∧ s.context ≠ none) →
        (reportF .lineDead (told k s)).result = (told k s).result
          ∧ (reportF .lineDead (told k s)).line.resultSlot = (told k s).line.resultSlot)
      ∧ (movesToFaulted s.cycle.station = true → s.context ≠ none → (told k s).result.queue.length < 8 →
        ∃ r, r.reason = .headFaulted ∧ some r.cycle = s.context.map (·.cycle)
          ∧ (reportF .lineDead (told k s)).result.queue = (told k s).result.queue ++ [r]
          ∧ (reportF .lineDead (told k s)).result.dropCount = (told k s).result.dropCount
          ∧ (reportF .lineDead (told k s)).line.resultSlot =
            if slotEmpty (told k s).line.resultSlot then { (told k s).line.resultSlot with body := .pending () }
            else (told k s).line.resultSlot) := by
  refine ⟨fun hm => ?_, fun hm hc hroom => ?_⟩
  · obtain ⟨-, -, -, -, result⟩ := reportF_dead_idle h (by simpa [told_context_none] using hm)
    exact result
  · obtain ⟨c, hcontext⟩ := Option.ne_none_iff_exists'.1 (mt (told_context_none k s).1 hc)
    obtain ⟨⟨r, reason, cycle, queue⟩, kept⟩ := reportF_dead_record h (by simpa using hm) hcontext hroom
    exact ⟨r, reason, by rw [← told_context k s, hcontext, cycle]; rfl, queue, kept⟩

theorem reportF_told_calm {k : SlotKind} {s : State} (hq : s.cycle.silenceOver = false) :
    (reportF .lineDead (told k s)).cycle.silenceOver = false := by
  cases hd : (told k s).latched .lineDead
  case true =>
    rw [reportF_dead_again hd]
    simpa using hq
  case false =>
    obtain ⟨-, -, -, -, calm, -⟩ := reportF_dead_placed hd
    exact calm (by simpa using hq)

theorem effect_fourthFailure {s : State} {a : Attempt} (ha : s.line.attempt = some a) (hab : s.line.abort = .fourth)
    (hpos : a.since + 165 ≤ s.clock) (hq : s.cycle.silenceOver = false) :
    effect .abortMarkEnd s = reportF .lineDead (told a.slot s) := by
  have there : Config.abortPosition ≤ s.position a := by
    simp only [Config.abortPosition, State.position]
    omega
  simp only [effect_abortMarkEnd, ha, if_pos there, hab, fourthFailure_told, parkTest_of_calm (reportF_told_calm hq)]

/-- Settles O31: the slot emptied at the fourth failure, its owner told, and LINE_DEAD reported. -/
theorem fourthFailureEmptiesTheSlot : Obligations.FourthFailureEmptiesTheSlot := by
  unfold Obligations.FourthFailureEmptiesTheSlot
  intro s a ha hab hpos hq hlen
  have hstep := effect_fourthFailure ha hab hpos hq
  have hw : (told a.slot s).latched .lineDead = s.latched .lineDead := by simp [State.latched]
  obtain ⟨fault, hold, shut, status⟩ := told_slots a.slot s
  refine ⟨_, exec_eq_effect _ _, ?_⟩
  rw [hstep]
  by_cases hd : s.latched .lineDead = true
  · rw [reportF_dead_again (hw.trans hd)]
    refine ⟨hw.trans hd, headFrame_of_framed (framed_told _ _) (by simp), fun hm => absurd hd hm.1, fun _ => by simp,
      fun _ => ?_, fun _ => ⟨fault, status⟩, fun h => absurd hd h, hold, ?_, fun ho => ?_, fun ho => ?_, fun hr => ?_,
      fun hr _ => told_result_other hr s⟩
    · by_cases ho : a.slot = .openSlot
      · rw [ho]
        simpa using told_context_dead hd
      · rw [(told_open_other ho s).2.2, if_neg fun h => ho h.1]
    · exact shut.trans (if_neg fun h => h.1.1 hd).symm
    · rw [ho]
      obtain ⟨vacant, claim, self⟩ := fourthFailure_open s
      rw [reportF_dead_again (by simpa [State.latched] using hd)] at vacant claim self
      refine ⟨vacant, self, claim.trans ?_⟩
      rw [if_neg (by simp [hd]), if_neg fun h => h.1.1 hd]
      rfl
    · obtain ⟨openSlot, claim, -⟩ := told_open_other ho s
      exact ⟨fun _ => ⟨openSlot, claim⟩, fun h => absurd hd h⟩
    · rw [hr]
      obtain ⟨queue, drops, slot⟩ := told_result s
      refine ⟨drops.trans (oneMoreDropped_eq _), ?_, fun _ => queue, fun hm => absurd hd hm.1⟩
      rw [slot, queue]
  · have clear : (told a.slot s).latched .lineDead = false := by simpa [hw] using hd
    have moving : movesToFaulted (told a.slot s).cycle.station = true ↔
        s.cycle.station ≠ .loading ∧ s.cycle.station ≠ .faulted := by simp [movesToFaulted_iff]
    obtain ⟨faultPlaced, statusPlaced, holdKept, rejectRun, -, moved⟩ := reportF_dead_placed clear
    refine ⟨latched_reportF _ _, headFrame_of_framed ((framed_reportF ..).trans (framed_told ..))
      (rejectRun.trans (by simp)), fun hm => ?_, fun hm => ?_, fun h => absurd h hd, fun h => absurd h hd,
      fun _ => ⟨?_, ?_⟩, holdKept.trans hold, ?_, fun ho => ?_, fun ho => ⟨fun h => absurd h hd, ?_⟩, fun hr => ?_,
      fun hr hm => ?_⟩
    · rw [if_pos (moving.2 hm.2)] at moved
      exact moved
    · rw [if_neg fun h => hm ⟨hd, moving.1 h⟩] at moved
      simpa using moved
    · rw [fault, told_zoneByte] at faultPlaced
      exact faultPlaced.trans (by simp [Slot.vacant])
    · rw [status] at statusPlaced
      exact statusPlaced
    · rw [fourthFailure_shut clear, shut]
      refine if_congr ?_ rfl rfl
      simp [hd, movesToFaulted_iff, and_assoc]
    · obtain ⟨vacant, claim, self⟩ := fourthFailure_open s
      rw [ho]
      refine ⟨vacant, self, claim.trans (if_congr ?_ rfl rfl)⟩
      simp [hd, movesToFaulted_iff]
    · exact fun _ => fourthFailure_withdraws clear ho
    · obtain ⟨queue, drops, slot⟩ := told_result s
      rw [hr] at clear
      rw [hr]
      obtain ⟨still, closing⟩ := fourthFailure_result clear
      by_cases hm : movesToFaulted s.cycle.station = true ∧ s.context ≠ none
      · obtain ⟨r, reason, cycle, joined, same, placed⟩ := closing hm.1 hm.2 (by rw [queue]; simp; omega)
        rw [queue] at joined
        refine ⟨same.trans (drops.trans (oneMoreDropped_eq _)), ?_, fun h => ?_, fun _ _ => ?_⟩
        · rw [placed, slot, joined]
          cases s.result.queue.tail <;> simp [slotEmpty]
        · exact absurd hm fun h' => h.elim (fun h => h ⟨hd, moving.1 (by simpa using h'.1)⟩) h'.2
        · rw [joined]
          simp [reason, ← cycle]
      · obtain ⟨result, kept⟩ := still hm
        rw [result, kept]
        refine ⟨drops.trans (oneMoreDropped_eq _), by rw [slot, queue], fun _ => queue, fun h hc => ?_⟩
        exact absurd ⟨by simpa using moving.2 h.2, hc⟩ hm
    · have idle : ¬(movesToFaulted s.cycle.station = true ∧ s.context ≠ none) := fun h =>
        hm.elim (fun hn => hn ⟨hd, moving.1 (by simpa using h.1)⟩) h.2
      obtain ⟨result, slot⟩ := (fourthFailure_result clear).1 idle
      obtain ⟨kept, keptSlot⟩ := told_result_other hr s
      exact ⟨result.trans kept, slot.trans keptSlot⟩

end Sys2Proof.Machine
end

section
/-!
PROOFS. The mark of a silence limit reached (log 22) is read by the park test alone: every operation of the model
leaves the same head whatever the mark, and the mark as it was. One lemma for each operation.
-/

namespace Sys2Proof.Machine

/-- The head with the mark of a silence limit reached (log 22) set to `b`. -/
def State.marked (s : State) (b : Bool) : State := { s with cycle := { s.cycle with silenceOver := b } }

@[simp] theorem marked_fields (s : State) (b : Bool) :
    (s.marked b).pending = s.pending ∧ (s.marked b).clock = s.clock ∧ (s.marked b).freeCount = s.freeCount
      ∧ (s.marked b).gasFb = s.gasFb ∧ (s.marked b).context = s.context
      ∧ (s.marked b).cycle = { s.cycle with silenceOver := b } ∧ (s.marked b).crimp = s.crimp
      ∧ (s.marked b).sensor = s.sensor ∧ (s.marked b).dose = s.dose ∧ (s.marked b).gas = s.gas
      ∧ (s.marked b).line = s.line ∧ (s.marked b).draw = s.draw ∧ (s.marked b).hold = s.hold
      ∧ (s.marked b).result = s.result ∧ (s.marked b).recipe = s.recipe ∧ (s.marked b).fault = s.fault := by
  simp [State.marked]

@[simp] theorem marked_ite (c : Prop) [Decidable c] (s t : State) (b : Bool) :
    (if c then s else t).marked b = if c then s.marked b else t.marked b := by
  split <;> rfl

@[simp] theorem marked_mk {p : List Instr} {k n : Nat} {fb : Bool} {c : Option CanContext} {cy : CycleUnit}
    {cr : CrimpUnit} {se : SensorUnit} {d : DoseUnit} {g : GasUnit} {l : LineUnit} {dr : DrawUnit} {h : HoldUnit}
    {r : ResultUnit} {re : RecipeUnit} {f : FaultUnit} (b : Bool) :
    (State.mk p k n fb c cy cr se d g l dr h r re f).marked b =
      State.mk p k n fb c { cy with silenceOver := b } cr se d g l dr h r re f := rfl

@[simp] theorem marked_read (s : State) (b : Bool) :
    (s.marked b).params = s.params ∧ (s.marked b).gasPart = s.gasPart ∧ (s.marked b).crimpPart = s.crimpPart
      ∧ (s.marked b).mass = s.mass ∧ (s.marked b).pulses = s.pulses ∧ (s.marked b).gasOn = s.gasOn
      ∧ (s.marked b).ventOn = s.ventOn ∧ (s.marked b).zoneByte = s.zoneByte ∧ (s.marked b).strapsValid = s.strapsValid
      ∧ (s.marked b).ownKey = s.ownKey ∧ (∀ c, (s.marked b).latched c = s.latched c) ∧ (s.marked b).anyF = s.anyF
      ∧ (s.marked b).nonSelf = s.nonSelf ∧ (s.marked b).admits = s.admits ∧ (s.marked b).planAnswer = s.planAnswer
      ∧ (s.marked b).pulseStartPc = s.pulseStartPc ∧ (s.marked b).credits = s.credits
      ∧ (s.marked b).pulseReports = s.pulseReports ∧ (s.marked b).assertionPasses = s.assertionPasses
      ∧ (s.marked b).mayPark = s.mayPark ∧ (∀ c, (s.marked b).crimpExpires c = s.crimpExpires c)
      ∧ (∀ d, (s.marked b).zeroTestPasses d = s.zeroTestPasses d)
      ∧ (s.marked b).loadingStatusDue = s.loadingStatusDue ∧ (∀ k, (s.marked b).slotWaits k = s.slotWaits k)
      ∧ (∀ k, (s.marked b).slotFailures k = s.slotFailures k) ∧ (s.marked b).lineQuiet = s.lineQuiet
      ∧ (∀ a, (s.marked b).position a = s.position a)
      ∧ (∀ k t z, (s.marked b).dispatches k t z = s.dispatches k t z) ∧ (s.marked b).holdPending = s.holdPending
      ∧ (∀ c, (s.marked b).causeHolds c = s.causeHolds c) ∧ (s.marked b).zeroingExpires = s.zeroingExpires
      ∧ (∀ k, slotPayload k (s.marked b) = slotPayload k s)
      ∧ (∀ c, buildRecord (s.marked b) c = buildRecord s c) := by
  refine ⟨rfl, rfl, rfl, rfl, rfl, rfl, rfl, rfl, rfl, rfl, fun _ => rfl, rfl, rfl, rfl, rfl, rfl, rfl, rfl, rfl, rfl,
    fun _ => rfl, fun _ => rfl, rfl, fun k => ?_, fun k => ?_, rfl, fun _ => rfl, fun _ _ _ => rfl, rfl, fun _ => rfl,
    rfl, fun _ => rfl, fun _ => rfl⟩
  all_goals cases k <;> rfl

/-- The operations that write the state without a case split. -/
@[simp] theorem marked_writes (s : State) (b : Bool) :
    (∀ f, (onContext f s).marked b = onContext f (s.marked b))
      ∧ (∀ r, (addReason r s).marked b = addReason r (s.marked b))
      ∧ (∀ k, (addCondition k s).marked b = addCondition k (s.marked b))
      ∧ (∀ f, (onGasPart f s).marked b = onGasPart f (s.marked b))
      ∧ (∀ f, (onCrimpPart f s).marked b = onCrimpPart f (s.marked b))
      ∧ (∀ f, (onCheckPart f s).marked b = onCheckPart f (s.marked b))
      ∧ (∀ f, (onLastPulse f s).marked b = onLastPulse f (s.marked b))
      ∧ (placeStatus s).marked b = placeStatus (s.marked b)
      ∧ (∀ c, (placeFault c s).marked b = placeFault c (s.marked b))
      ∧ (∀ q, (placeHold q s).marked b = placeHold q (s.marked b))
      ∧ (∀ samples, (placeShut samples s).marked b = placeShut samples (s.marked b))
      ∧ (placeOpen s).marked b = placeOpen (s.marked b)
      ∧ (withdrawOpen s).marked b = withdrawOpen (s.marked b)
      ∧ (formAlert s).marked b = formAlert (s.marked b)
      ∧ (∀ c, (latch c s).marked b = latch c (s.marked b))
      ∧ (startZeroing s).marked b = startZeroing (s.marked b)
      ∧ (endGrant s).marked b = endGrant (s.marked b)
      ∧ (∀ c, (setClaim c s).marked b = setClaim c (s.marked b))
      ∧ (addSelf s).marked b = addSelf (s.marked b)
      ∧ (closeSelf s).marked b = closeSelf (s.marked b)
      ∧ (stuckSelf s).marked b = stuckSelf (s.marked b)
      ∧ (∀ o, (endPulse o s).marked b = endPulse o (s.marked b))
      ∧ (takeBack s).marked b = takeBack (s.marked b)
      ∧ (∀ g, (setStage g s).marked b = setStage g (s.marked b))
      ∧ (startPulse s).marked b = startPulse (s.marked b)
      ∧ (cutCheckPart s).marked b = cutCheckPart (s.marked b)
      ∧ (∀ a, (setAsserted a s).marked b = setAsserted a (s.marked b))
      ∧ (setOwnEntry s).marked b = setOwnEntry (s.marked b)
      ∧ (dropOwnEntry s).marked b = dropOwnEntry (s.marked b)
      ∧ (∀ c t, (setCrimp c t s).marked b = setCrimp c t (s.marked b))
      ∧ (enterRelease s).marked b = enterRelease (s.marked b)
      ∧ (∀ force depth, (readCrimpSample force depth s).marked b = readCrimpSample force depth (s.marked b))
      ∧ (∀ p, (setPhase p s).marked b = setPhase p (s.marked b))
      ∧ (returnCrimp s).marked b = returnCrimp (s.marked b)
      ∧ (finishZeroing s).marked b = finishZeroing (s.marked b)
      ∧ (endReception s).marked b = endReception (s.marked b) :=
  ⟨fun _ => rfl, fun _ => rfl, fun _ => rfl, fun _ => rfl, fun _ => rfl, fun _ => rfl, fun _ => rfl, rfl, fun _ =>
    rfl, fun _ => rfl, fun _ => rfl, rfl, rfl, rfl, fun _ => rfl, rfl, rfl, fun _ => rfl, rfl, rfl, rfl, fun _ => rfl,
    rfl, fun _ => rfl, rfl, rfl, fun _ => rfl, rfl, rfl, fun _ _ => rfl, rfl, fun _ _ => rfl, fun _ => rfl, rfl, rfl,
    rfl⟩

@[simp] theorem syncResult_marked (b : Bool) (s : State) :
    (syncResult s).marked b = syncResult (s.marked b) := by
  simp [syncResult]

@[simp] theorem reportA_marked (c : Cell) (b : Bool) (s : State) :
    (reportA c s).marked b = reportA c (s.marked b) := by
  simp [reportA]

@[simp] theorem countReject_marked (r : Reason) (b : Bool) (s : State) :
    (countReject r s).marked b = countReject r (s.marked b) := by
  simp [countReject]

@[simp] theorem queueRecord_marked (r : Record) (b : Bool) (s : State) :
    (queueRecord r s).marked b = queueRecord r (s.marked b) := by
  simp [queueRecord]

@[simp] theorem accrueDebt_marked (b : Bool) (s : State) :
    (accrueDebt s).marked b = accrueDebt (s.marked b) := by
  simp [accrueDebt]

@[simp] theorem closeContext_marked (b : Bool) (s : State) :
    (closeContext s).marked b = closeContext (s.marked b) := by
  cases h : s.context <;> simp [closeContext, h]

@[simp] theorem retest_marked (b : Bool) (s : State) :
    (retest s).marked b = retest (s.marked b) := by
  cases h : s.draw.claim <;> simp [retest, h]

@[simp] theorem requestClaim_marked (b : Bool) (s : State) :
    (requestClaim s).marked b = requestClaim (s.marked b) := by
  cases h : s.draw.claim <;> simp [requestClaim, h]

@[simp] theorem takeHeldRequest_marked (b : Bool) (s : State) :
    (takeHeldRequest s).marked b = takeHeldRequest (s.marked b) := by
  simp [takeHeldRequest]

@[simp] theorem cancelClaim_marked (b : Bool) (s : State) :
    (cancelClaim s).marked b = cancelClaim (s.marked b) := by
  cases hc : s.draw.claim <;> simp [cancelClaim, hc]

@[simp] theorem reportClosed_marked (b : Bool) (s : State) :
    (reportClosed s).marked b = reportClosed (s.marked b) := by
  simp [reportClosed]

@[simp] theorem peerOpens_marked (sender : StationNo) (length : Half) (b : Bool) (s : State) :
    (peerOpens sender length s).marked b = peerOpens sender length (s.marked b) := by
  rcases h : tableGet sender.toNat s.draw.keyed with _ | _ | _ <;> simp [peerOpens, h]

@[simp] theorem removeKeyed_marked (sender : StationNo) (b : Bool) (s : State) :
    (removeKeyed sender s).marked b = removeKeyed sender (s.marked b) := by
  simp [removeKeyed]

@[simp] theorem makeStuck_marked (sender : StationNo) (b : Bool) (s : State) :
    (makeStuck sender s).marked b = makeStuck sender (s.marked b) := by
  simp [makeStuck]

@[simp] theorem peerFaults_marked (sender : StationNo) (code : Byte) (b : Bool) (s : State) :
    (peerFaults sender code s).marked b = peerFaults sender code (s.marked b) := by
  simp [peerFaults]

@[simp] theorem peerStatus_marked (sender : StationNo) (payload : List Byte) (b : Bool) (s : State) :
    (peerStatus sender payload s).marked b = peerStatus sender payload (s.marked b) := by
  cases h : tableGet sender.toNat s.draw.keyed <;> simp [peerStatus, h]

@[simp] theorem phantomForBadFrame_marked (b : Bool) (s : State) :
    (phantomForBadFrame s).marked b = phantomForBadFrame (s.marked b) := by
  simp [phantomForBadFrame]

@[simp] theorem compareDose_marked (b : Bool) (s : State) :
    (compareDose s).marked b = compareDose (s.marked b) := by
  cases h : s.gasPart <;> simp [compareDose, h]

@[simp] theorem enterEnded_marked (b : Bool) (s : State) :
    (enterEnded s).marked b = enterEnded (s.marked b) := by
  simp [enterEnded]

@[simp] theorem advancePhase_marked (before after : Phase) (b : Bool) (s : State) :
    (advancePhase before after s).marked b = advancePhase before after (s.marked b) := by
  simp [advancePhase]

@[simp] theorem endGassing_marked (b : Bool) (s : State) :
    (endGassing s).marked b = endGassing (s.marked b) := by
  simp [endGassing]

@[simp] theorem doseComplete_marked (b : Bool) (s : State) :
    (doseComplete s).marked b = doseComplete (s.marked b) := by
  have same : (compareDose (s.marked b)).context = (compareDose s).context := by rw [← compareDose_marked]; rfl
  simp [doseComplete, same]

@[simp] theorem noteNoDrive_marked (a : PlanAnswer) (b : Bool) (s : State) :
    (noteNoDrive a s).marked b = noteNoDrive a (s.marked b) := by
  simp [noteNoDrive]

@[simp] theorem actOnAnswer_marked (a : PlanAnswer) (b : Bool) (s : State) :
    (actOnAnswer a s).marked b = actOnAnswer a (s.marked b) := by
  unfold actOnAnswer
  split <;> simp

@[simp] theorem decideInPlan_marked (b : Bool) (s : State) :
    (decideInPlan s).marked b = decideInPlan (s.marked b) := by
  have noted (a : PlanAnswer) : (noteNoDrive a (s.marked b)).params = (noteNoDrive a s).params
      ∧ (noteNoDrive a (s.marked b)).pulses = (noteNoDrive a s).pulses := by
    rw [← noteNoDrive_marked]
    exact ⟨rfl, rfl⟩
  simp [decideInPlan, noted]

@[simp] theorem enterPlan_marked (b : Bool) (s : State) :
    (enterPlan s).marked b = enterPlan (s.marked b) := by
  simp [enterPlan]

@[simp] theorem startSettle_marked (b : Bool) (s : State) :
    (startSettle s).marked b = startSettle (s.marked b) := by
  simp [startSettle]

@[simp] theorem valveClosed_marked (b : Bool) (s : State) :
    (valveClosed s).marked b = valveClosed (s.marked b) := by
  simp [valveClosed]

@[simp] theorem closeIfShut_marked (b : Bool) (s : State) :
    (closeIfShut s).marked b = closeIfShut (s.marked b) := by
  simp [closeIfShut]

@[simp] theorem deadPulse_marked (b : Bool) (s : State) :
    (deadPulse s).marked b = deadPulse (s.marked b) := by
  simp [deadPulse]
  rfl

@[simp] theorem judgePulse_marked (b : Bool) (s : State) :
    (judgePulse s).marked b = judgePulse (s.marked b) := by
  simp [judgePulse]

@[simp] theorem stopStage_marked (b : Bool) (s : State) :
    (stopStage s).marked b = stopStage (s.marked b) := by
  cases h : s.gas.stage <;> simp [stopStage, h]

@[simp] theorem closeAfter_marked (before : GasStage) (b : Bool) (s : State) :
    (closeAfter before s).marked b = closeAfter before (s.marked b) := by
  simp [closeAfter]

@[simp] theorem abandonGas_marked (b : Bool) (s : State) :
    (abandonGas s).marked b = abandonGas (s.marked b) := by
  have stopped : compareDose (stopStage (s.marked b)) = (compareDose (stopStage s)).marked b := by simp
  unfold abandonGas
  rw [stopped]
  split
  · next h => exact (if_pos h).symm
  · next h => exact (closeAfter_marked _ b _).trans (if_neg h).symm

@[simp] theorem returnGas_marked (b : Bool) (s : State) :
    (returnGas s).marked b = returnGas (s.marked b) := by
  simp [returnGas]

@[simp] theorem startGas_marked (b : Bool) (s : State) :
    (startGas s).marked b = startGas (s.marked b) := by
  have same : (abandonGas (s.marked b)).params = (abandonGas s).params := by
    rw [← abandonGas_marked]
    rfl
  simp [startGas, same]

@[simp] theorem enterGas_marked (b : Bool) (s : State) :
    (enterGas s).marked b = enterGas (s.marked b) := by
  simp [enterGas]

@[simp] theorem cutReason_marked (b : Bool) (s : State) :
    (cutReason s).marked b = cutReason (s.marked b) := by
  simp [cutReason]

@[simp] theorem cutWindow_marked (b : Bool) (s : State) :
    (cutWindow s).marked b = cutWindow (s.marked b) := by
  cases h : s.gas.stage <;> simp [cutWindow, h]

@[simp] theorem cutCheck_marked (b : Bool) (s : State) :
    (cutCheck s).marked b = cutCheck (s.marked b) := by
  simp [cutCheck]

@[simp] theorem loseSensor_marked (b : Bool) (s : State) :
    (loseSensor s).marked b = loseSensor (s.marked b) := by
  simp [loseSensor]

@[simp] theorem formDrive_marked (b : Bool) (s : State) :
    (formDrive s).marked b = formDrive (s.marked b) := by
  simp [formDrive]

@[simp] theorem creditSample_marked (f : Nat) (b : Bool) (s : State) :
    (creditSample f s).marked b = creditSample f (s.marked b) := by
  cases h : s.gasPart <;> simp [creditSample, h]

@[simp] theorem countSample_marked (b : Bool) (s : State) :
    (countSample s).marked b = countSample (s.marked b) := by
  simp [countSample]

@[simp] theorem noteHold_marked (b : Bool) (s : State) :
    (noteHold s).marked b = noteHold (s.marked b) := by
  simp [noteHold]

@[simp] theorem gasTakesSample_marked (b : Bool) (s : State) :
    (gasTakesSample s).marked b = gasTakesSample (s.marked b) := by
  cases h : s.gas.stage <;> simp [gasTakesSample, h]

@[simp] theorem releaseHold_marked (b : Bool) (s : State) :
    (releaseHold s).marked b = releaseHold (s.marked b) := by
  simp [releaseHold]

@[simp] theorem standDown_marked (b : Bool) (s : State) :
    (standDown s).marked b = standDown (s.marked b) := by
  simp [standDown]

@[simp] theorem testAssertion_marked (b : Bool) (s : State) :
    (testAssertion s).marked b = testAssertion (s.marked b) := by
  simp [testAssertion]

@[simp] theorem abandonCrimp_marked (b : Bool) (s : State) :
    (abandonCrimp s).marked b = abandonCrimp (s.marked b) := by
  cases h : s.crimp.state <;> simp [abandonCrimp, h, onCrimpPart, onContext]

@[simp] theorem retestIfDead_marked (c : Cell) (b : Bool) (s : State) :
    (retestIfDead c s).marked b = retestIfDead c (s.marked b) := by
  simp [retestIfDead]

@[simp] theorem addFailureCondition_marked (f : CrimpFailure) (b : Bool) (s : State) :
    (addFailureCondition f s).marked b = addFailureCondition f (s.marked b) := by
  unfold addFailureCondition
  split <;> simp

@[simp] theorem failCrimp_marked (f : CrimpFailure) (b : Bool) (s : State) :
    (failCrimp f s).marked b = failCrimp f (s.marked b) := by
  simp [failCrimp]

@[simp] theorem enterDwell_marked (b : Bool) (s : State) :
    (enterDwell s).marked b = enterDwell (s.marked b) := by
  simp [enterDwell]

@[simp] theorem crimpVerdict_marked (good : Bool) (b : Bool) (s : State) :
    (crimpVerdict good s).marked b = crimpVerdict good (s.marked b) := by
  cases h : s.context <;> simp [crimpVerdict, h]

@[simp] theorem enterDone_marked (b : Bool) (s : State) :
    (enterDone s).marked b = enterDone (s.marked b) := by
  simp [enterDone]
  rfl

@[simp] theorem sampleInForm_marked (force depth : Nat) (b : Bool) (s : State) :
    (sampleInForm force depth s).marked b = sampleInForm force depth (s.marked b) := by
  simp [sampleInForm]
  rfl

@[simp] theorem takeCrimpSample_marked (force depth : Nat) (b : Bool) (s : State) :
    (takeCrimpSample force depth s).marked b = takeCrimpSample force depth (s.marked b) := by
  cases h : s.crimp.state <;> simp [takeCrimpSample, h]

@[simp] theorem takeGasOpen_marked (b : Bool) (s : State) :
    (takeGasOpen s).marked b = takeGasOpen (s.marked b) := by
  cases h : s.cycle.phase <;> simp [takeGasOpen, h]

@[simp] theorem takeGasClose_marked (b : Bool) (s : State) :
    (takeGasClose s).marked b = takeGasClose (s.marked b) := by
  cases h : s.cycle.phase <;> simp [takeGasClose, h]

@[simp] theorem beginZeroTest_marked (b : Bool) (s : State) :
    (beginZeroTest s).marked b = beginZeroTest (s.marked b) := by
  simp [beginZeroTest]

@[simp] theorem makeZeroTest_marked (dischargedAt : Nat) (b : Bool) (s : State) :
    (makeZeroTest dischargedAt s).marked b = makeZeroTest dischargedAt (s.marked b) := by
  simp [makeZeroTest]

@[simp] theorem noteClamped_marked (b : Bool) (s : State) :
    (noteClamped s).marked b = noteClamped (s.marked b) := by
  simp [noteClamped]

@[simp] theorem watermarkTest_marked (b : Bool) (s : State) :
    (watermarkTest s).marked b = watermarkTest (s.marked b) := by
  cases h : s.sensor.sample.header <;> simp [watermarkTest, h]

@[simp] theorem handSample_marked (b : Bool) (s : State) :
    (handSample s).marked b = handSample (s.marked b) := by
  simp [handSample]

@[simp] theorem statusIfChanged_marked (before after : Validity) (b : Bool) (s : State) :
    (statusIfChanged before after s).marked b = statusIfChanged before after (s.marked b) := by
  simp [statusIfChanged]

@[simp] theorem endHeaderTransaction_marked (r : SensorReply) (b : Bool) (s : State) :
    (endHeaderTransaction r s).marked b = endHeaderTransaction r (s.marked b) := by
  simp [endHeaderTransaction]

@[simp] theorem collectReading_marked (r : SensorReply) (b : Bool) (s : State) :
    (collectReading r s).marked b = collectReading r (s.marked b) := by
  cases h : s.sensor.zeroing <;> simp [collectReading, h]

@[simp] theorem applyZeroing_marked (b : Bool) (s : State) :
    (applyZeroing s).marked b = applyZeroing (s.marked b) := by
  have reported : (reportA .zeroDrift (s.marked b)).line = (reportA .zeroDrift s).line
      ∧ (reportA .zeroDrift (s.marked b)).fault = (reportA .zeroDrift s).fault := by
    rw [← reportA_marked]
    exact ⟨rfl, rfl⟩
  by_cases h : Config.maxOffset < readingMean s.sensor.zeroSamples <;> simp [applyZeroing, h, reported]

@[simp] theorem endZeroing_marked (b : Bool) (s : State) :
    (endZeroing s).marked b = endZeroing (s.marked b) := by
  simp [endZeroing]

@[simp] theorem seeFeedback_marked (b : Bool) (s : State) :
    (seeFeedback s).marked b = seeFeedback (s.marked b) := by
  cases h : s.gas.feedbackWindow <;> simp [seeFeedback, h]

@[simp] theorem endStuckEpisode_marked (b : Bool) (s : State) :
    (endStuckEpisode s).marked b = endStuckEpisode (s.marked b) := by
  simp [endStuckEpisode]

@[simp] theorem takeValveClosed_marked (b : Bool) (s : State) :
    (takeValveClosed s).marked b = takeValveClosed (s.marked b) := by
  simp [takeValveClosed]

@[simp] theorem judgeSeal_marked (b : Bool) (s : State) :
    (judgeSeal s).marked b = judgeSeal (s.marked b) := by
  simp [judgeSeal]

@[simp] theorem onSlot_marked (k : SlotKind) (f : Slot FaultFrame → Slot FaultFrame) (g : {α : Type} → Slot α → Slot α)
    (b : Bool) (s : State) :
    (onSlot k f g s).marked b = onSlot k f g (s.marked b) := by
  cases k <;> rfl

@[simp] theorem beginAttempt_marked (k : SlotKind) (b : Bool) (s : State) :
    (beginAttempt k s).marked b = beginAttempt k (s.marked b) := by
  cases k <;> rfl

@[simp] theorem returnToPlan_marked (b : Bool) (s : State) :
    (returnToPlan s).marked b = returnToPlan (s.marked b) := by
  simp [returnToPlan]

@[simp] theorem endCancelled_marked (b : Bool) (s : State) :
    (endCancelled s).marked b = endCancelled (s.marked b) := by
  simp [endCancelled]

@[simp] theorem openReturns_marked (b : Bool) (s : State) :
    (openReturns s).marked b = openReturns (s.marked b) := by
  simp [openReturns]

@[simp] theorem slotReturns_marked (k : SlotKind) (b : Bool) (s : State) :
    (slotReturns k s).marked b = slotReturns k (s.marked b) := by
  simp [slotReturns]

@[simp] theorem noteLineWait_marked (k : SlotKind) (b : Bool) (s : State) :
    (noteLineWait k s).marked b = noteLineWait k (s.marked b) := by
  simp [noteLineWait]

@[simp] theorem dropHead_marked (b : Bool) (s : State) :
    (dropHead s).marked b = dropHead (s.marked b) := by
  simp [dropHead]

@[simp] theorem ownerNotSent_marked (k : SlotKind) (b : Bool) (s : State) :
    (ownerNotSent k s).marked b = ownerNotSent k (s.marked b) := by
  cases k <;> simp [ownerNotSent]

@[simp] theorem holdCompleted_marked (q : Nat) (b : Bool) (s : State) :
    (holdCompleted q s).marked b = holdCompleted q (s.marked b) := by
  simp [holdCompleted]
  rfl

@[simp] theorem openCompleted_marked (b : Bool) (s : State) :
    (openCompleted s).marked b = openCompleted (s.marked b) := by
  simp [openCompleted]

@[simp] theorem resultCompleted_marked (b : Bool) (s : State) :
    (resultCompleted s).marked b = resultCompleted (s.marked b) := by
  simp [resultCompleted]

@[simp] theorem ownerCompleted_marked (k : SlotKind) (before : State) (b : Bool) (s : State) :
    (ownerCompleted k before s).marked b = ownerCompleted k before (s.marked b) := by
  cases k <;> simp [ownerCompleted]

@[simp] theorem endGoodReception_marked (b : Bool) (s : State) :
    (endGoodReception s).marked b = endGoodReception (s.marked b) := by
  simp [endGoodReception]
  rfl

@[simp] theorem suppressHold_marked (b : Bool) (s : State) :
    (suppressHold s).marked b = suppressHold (s.marked b) := by
  simp [suppressHold]

@[simp] theorem peerHolds_marked (sender : StationNo) (q : Nat) (b : Bool) (s : State) :
    (peerHolds sender q s).marked b = peerHolds sender q (s.marked b) := by
  simp [peerHolds]
  rfl

@[simp] theorem peerReleases_marked (sender : StationNo) (b : Bool) (s : State) :
    (peerReleases sender s).marked b = peerReleases sender (s.marked b) := by
  cases h : tableGet sender.toNat s.hold.table <;> simp [peerReleases, h]

@[simp] theorem pendStop_marked (b : Bool) (s : State) :
    (pendStop s).marked b = pendStop (s.marked b) := by
  simp [pendStop]

@[simp] theorem countDrawTable_marked (b : Bool) (s : State) :
    (countDrawTable s).marked b = countDrawTable (s.marked b) := by
  simp [countDrawTable]

@[simp] theorem ownEntryExpired_marked (b : Bool) (s : State) :
    (ownEntryExpired s).marked b = ownEntryExpired (s.marked b) := by
  simp [ownEntryExpired]

@[simp] theorem countHoldTable_marked (b : Bool) (s : State) :
    (countHoldTable s).marked b = countHoldTable (s.marked b) := by
  simp [countHoldTable]

@[simp] theorem resendHold_marked (b : Bool) (s : State) :
    (resendHold s).marked b = resendHold (s.marked b) := by
  simp [resendHold]
  rfl

@[simp] theorem offerSlots_marked (l : List SlotKind) (b : Bool) (s : State) :
    (offerSlots l s).marked b = offerSlots l (s.marked b) := by
  have offered (u : State) : offerOpen (u.marked b) = ((offerOpen u).1, (offerOpen u).2.marked b) := by
    cases ha : u.admits <;> cases hp : u.planAnswer <;> simp [offerOpen, ha, hp]
  induction l generalizing s with
  | nil => rfl
  | cons k rest ih =>
    rcases ho : offerOpen s with ⟨go, u⟩
    by_cases hk : k = .openSlot <;> cases go <;> simp [offerSlots, offered, ho, hk, ih]

end Sys2Proof.Machine
end

section
/-!
PROOFS. The park test at the silence limit (O23): a head whose limit stands reached does what a calm head does, and
parks at the event that makes the last park condition true.
-/

namespace Sys2Proof.Machine

/-! ## A move out of RUN ends the mark -/

theorem moveTo_marked (a : Station) (b : Bool) (s : State) : moveTo a (s.marked b) = moveTo a s := by
  cases a <;> rfl

theorem enterFaulted_marked (b : Bool) (s : State) : enterFaulted (s.marked b) = enterFaulted s := by
  simp only [enterFaulted, moveTo_marked]

/-- `f` at `s` does not read the mark: the head stays in RUN with the mark as it was, or leaves RUN as a head without
the mark does. -/
def Follows (f : State → State) (s : State) : Prop :=
  ((f s).cycle.station = .run ∧ ∀ b, f (s.marked b) = (f s).marked b)
    ∨ ((f s).cycle.station ≠ .run ∧ ∀ b, f (s.marked b) = f s)

theorem Follows.stays {f : State → State} {s : State} (hs : (f s).cycle.station = .run)
    (h : ∀ b, (f s).marked b = f (s.marked b)) : Follows f s :=
  .inl ⟨hs, fun b => (h b).symm⟩

/-- A second operation that keeps a head out of RUN. -/
theorem Follows.comp {f g : State → State} {s : State} (hf : Follows f s)
    (hg : (f s).cycle.station = .run → Follows g (f s))
    (hout : (f s).cycle.station ≠ .run → (g (f s)).cycle.station ≠ .run) : Follows (fun u => g (f u)) s := by
  obtain ⟨hr, hb⟩ | ⟨hr, hb⟩ := hf
  · obtain ⟨hgr, hgb⟩ | ⟨hgr, hgb⟩ := hg hr
    · exact .inl ⟨hgr, fun b => (congrArg g (hb b)).trans (hgb b)⟩
    · exact .inr ⟨hgr, fun b => (congrArg g (hb b)).trans (hgb b)⟩
  · exact .inr ⟨hout hr, fun b => congrArg g (hb b)⟩

theorem reportF_latched {c : Cell} {s : State} (h : s.latched c = true) :
    reportF c s = if c = .valveStuck then placeFault c s else s := by
  simp [reportF, h]

theorem reportF_run {c : Cell} {s : State} (h : s.latched c = false) (hr : s.cycle.station = .run) :
    reportF c s = placeStatus (formAlert (enterFaulted (placeFault c (retestIfDead c (latch c s))))) := by
  simp [reportF, h, hr, movesToFaulted]

theorem follows_reportF (c : Cell) {s : State} (hr : s.cycle.station = .run) : Follows (reportF c) s := by
  cases hc : s.latched c
  case true =>
    refine .stays ?_ fun b => ?_
    · rw [reportF_latched hc]
      split <;> simp [hr]
    · rw [reportF_latched hc, reportF_latched (by simpa using hc)]
      simp
  case false =>
    refine .inr ⟨by simp [reportF_run hc hr], fun b => ?_⟩
    have placed : placeFault c (retestIfDead c (latch c (s.marked b))) =
        (placeFault c (retestIfDead c (latch c s))).marked b := by simp
    rw [reportF_run hc hr, reportF_run (by simpa using hc) (by simpa using hr), placed, enterFaulted_marked]

theorem Follows.after {f g : State → State} {s v : State} (h : f s = g v) (hb : ∀ b, f (s.marked b) = g (v.marked b))
    (hg : Follows g v) : Follows f s := by
  unfold Follows at hg ⊢
  simpa only [h, hb] using hg

theorem follows_jamCrimp {s : State} (hr : s.cycle.station = .run) : Follows jamCrimp s := by
  refine .after (g := reportF .crimpJam) (v := addReason .crimpBad (addFailureCondition s.crimp.failure
      (onCrimpPart (fun _ => { outcome := .jam, peak := s.crimp.peak, depth := s.crimp.finalDepth })
        { s with crimp := { s.crimp with timer := .stopped } }))) rfl (fun b => ?_)
          (follows_reportF _ (by simpa using hr))
  simp [jamCrimp]

theorem drawTakesStuck_marked (b : Bool) (s : State) : (drawTakesStuck s).marked b = drawTakesStuck (s.marked b) := by
  cases hd : s.draw.self <;> cases hs : s.cycle.station <;> simp [drawTakesStuck, hd, hs]

theorem follows_findStuckValve {s : State} (hr : s.cycle.station = .run) : Follows findStuckValve s := by
  cases he : s.gas.stuckEpisode
  case true => exact .stays (by simp [findStuckValve, he, hr]) fun b => by simp [findStuckValve, he]
  case false =>
    refine .after (g := reportF .valveStuck)
      (v := drawTakesStuck { s with gas := { s.gas with stuckEpisode := true } }) (by simp [findStuckValve, he])
      (fun b => ?_) (follows_reportF _ (by simpa using hr))
    simp [findStuckValve, he, drawTakesStuck_marked]

theorem follows_completeStop {s : State} (hr : s.cycle.station = .run) : Follows completeStop s := by
  cases hp : s.cycle.stopPending
  case false => exact .stays (by simp [completeStop, hp, hr]) fun b => by simp [completeStop, hp]
  case true =>
    refine .inr ⟨by simp [completeStop, hp], fun b => ?_⟩
    simp only [completeStop, hp, marked_fields, if_true]
    exact moveTo_marked .standby b { s with cycle := { s.cycle with stopPending := false } }

/-- The head as a discharge decides between a pending stop and the return-arc test (R14, R5). -/
def pocketEmptied (s : State) : State := setPhase .returning (closeContext (returnGas (returnCrimp s)))

theorem discharge_emptied (s : State) :
    discharge s =
      if (pocketEmptied s).cycle.stopPending then completeStop (pocketEmptied s)
      else beginZeroTest (pocketEmptied s) := rfl

theorem pocketEmptied_marked (b : Bool) (s : State) : (pocketEmptied s).marked b = pocketEmptied (s.marked b) := by
  simp [pocketEmptied]

theorem follows_discharge {s : State} (hr : s.cycle.station = .run) : Follows discharge s := by
  have hu : (pocketEmptied s).cycle.station = .run := by simpa [pocketEmptied, setPhase] using hr
  cases hp : (pocketEmptied s).cycle.stopPending
  case false =>
    refine .after (g := beginZeroTest) (v := pocketEmptied s) (by simp [discharge_emptied, hp]) (fun b => ?_)
      (.stays (by simpa using hu) fun b => by simp)
    rw [discharge_emptied, ← pocketEmptied_marked]
    simp [hp]
  case true =>
    refine .after (g := completeStop) (v := pocketEmptied s) (by simp [discharge_emptied, hp]) (fun b => ?_)
      (follows_completeStop hu)
    rw [discharge_emptied, ← pocketEmptied_marked]
    simp [hp]

theorem follows_reportA (c : Cell) {s : State} (hr : s.cycle.station = .run) : Follows (reportA c) s :=
  .stays (by simpa using hr) fun b => by simp

/-- The head as a MK_DISCHARGE that came early ends its pocket (R33). -/
def cutEarly (s : State) : State :=
  addReason .markError (if s.cycle.phase = .crimp then abandonCrimp (takeGasClose s) else takeGasClose s)

theorem follows_dischargeEarly {s : State} (hr : s.cycle.station = .run) : Follows dischargeEarly s := by
  have hu : (cutEarly s).cycle.station = .run := by
    unfold cutEarly
    split <;> simpa using hr
  refine .after (g := fun u => reportA .markOrder (discharge u)) (v := cutEarly s) rfl (fun b => ?_)
    ((follows_discharge hu).comp (follows_reportA _) fun h => by simpa using h)
  have cut : (cutEarly s).marked b = cutEarly (s.marked b) := by simp [cutEarly]
  exact congrArg (fun u => reportA .markOrder (discharge u)) cut.symm

theorem follows_takeDischarge {s : State} (hr : s.cycle.station = .run) : Follows takeDischarge s := by
  cases hp : s.cycle.phase
  case returning => exact .stays (by simp [takeDischarge, hp, hr]) fun b => by simp [takeDischarge, hp]
  case pass => exact .stays (by simp [takeDischarge, hp, hr]) fun b => by simp [takeDischarge, hp]
  case sealed =>
    exact .after (g := discharge) (v := s) (by simp [takeDischarge, hp]) (fun b => by simp [takeDischarge, hp])
      (follows_discharge hr)
  all_goals
    exact .after (g := dischargeEarly) (v := s) (by simp [takeDischarge, hp]) (fun b => by simp [takeDischarge, hp])
      (follows_dischargeEarly hr)

theorem follows_fourthFailure (k : SlotKind) {s : State} (hr : s.cycle.station = .run) :
    Follows (fourthFailure k) s :=
  .after (g := reportF .lineDead) (v := ownerNotSent k (onSlot k slotDrop slotDrop s)) rfl
    (fun b => by simp [fourthFailure]) (follows_reportF _ (by simpa using hr))

theorem follows_reportHeaderLost {s : State} (hr : s.cycle.station = .run) : Follows reportHeaderLost s := by
  cases hd : s.sensor.headerLostDue
  case false => exact .stays (by simp [reportHeaderLost, hd, hr]) fun b => by simp [reportHeaderLost, hd]
  case true =>
    refine .after (g := reportF .headerLost) (v := { s with sensor := { s.sensor with headerLostDue := false } })
      (by simp [reportHeaderLost, hd]) (fun b => ?_) (follows_reportF _ hr)
    simp [reportHeaderLost, hd]

/-- The head as a bell transaction's losses are reported (R46, R98). -/
def bellSampled (r : SensorReply) (s : State) : State :=
  handSample (collectReading r
    (statusIfChanged s.sensor.bell.validity (channelAfter r s.sensor.bell).validity
      { s with sensor := { s.sensor with bell := channelAfter r s.sensor.bell } }))

theorem bellSampled_marked (r : SensorReply) (b : Bool) (s : State) :
    (bellSampled r s).marked b = bellSampled r (s.marked b) := by
  simp [bellSampled]

/-- Whether a bell transaction makes the bell channel STALE (R46). -/
def bellLost (r : SensorReply) (s : State) : Bool :=
  s.sensor.bell.validity != .stale && (channelAfter r s.sensor.bell).validity == .stale

theorem endBellTransaction_sampled (r : SensorReply) (s : State) :
    endBellTransaction r s =
      if bellLost r s then reportF .bellLost (reportHeaderLost (bellSampled r s))
      else reportHeaderLost (bellSampled r s) := rfl

theorem reportF_station_ne {c : Cell} {s : State} (h : s.cycle.station ≠ .run) :
    (reportF c s).cycle.station ≠ .run := by
  cases hc : s.latched c
  case true =>
    rw [reportF_latched hc]
    split <;> simpa using h
  case false => cases hm : movesToFaulted s.cycle.station <;> simp [reportF, hc, hm, h]

theorem follows_endBellTransaction (r : SensorReply) {s : State} (hr : s.cycle.station = .run) :
    Follows (endBellTransaction r) s := by
  have hu : (bellSampled r s).cycle.station = .run := by simpa [bellSampled] using hr
  cases hl : bellLost r s
  case false =>
    refine .after (g := reportHeaderLost) (v := bellSampled r s) (by simp [endBellTransaction_sampled, hl])
      (fun b => ?_) (follows_reportHeaderLost hu)
    rw [endBellTransaction_sampled, bellSampled_marked]
    exact if_neg (by simpa [bellLost] using hl)
  case true =>
    refine .after (g := fun u => reportF .bellLost (reportHeaderLost u)) (v := bellSampled r s)
      (by simp [endBellTransaction_sampled, hl]) (fun b => ?_)
      ((follows_reportHeaderLost hu).comp (follows_reportF _) fun h => reportF_station_ne h)
    rw [endBellTransaction_sampled, bellSampled_marked]
    exact if_pos (by simpa [bellLost] using hl)

/-! ## The frames received -/

theorem badFrame_marked (b : Bool) (s : State) : (badFrame s).marked b = badFrame (s.marked b) := by
  simp [badFrame, countBad]

/-- The head with a good frame's count taken (R116). -/
def goodCounted (s : State) : State := { s with line := { s.line with badCount := 0 } }

theorem filterGood_counted {k : FrameKind} {sender target : StationNo} {zone : Option Byte} {act : State → State}
    (s : State) :
    filterGood k sender target zone act s =
      if (goodCounted s).strapsValid then
        if sender = s.line.station then reportF .duplicate (goodCounted s)
        else if (goodCounted s).dispatches k target zone then act (goodCounted s) else goodCounted s
      else goodCounted s := rfl

theorem goodCounted_marked (b : Bool) (s : State) : goodCounted (s.marked b) = (goodCounted s).marked b := rfl

theorem follows_filterGood {k : FrameKind} {sender target : StationNo} {zone : Option Byte} {act : State → State}
    {s : State} (hr : s.cycle.station = .run)
    (hact : ∀ u : State, u.cycle.station = .run → admitted k .run = true → Follows act u) :
    Follows (filterGood k sender target zone act) s := by
  have hv : (goodCounted s).cycle.station = .run := hr
  cases hn : (goodCounted s).strapsValid
  case false =>
    exact .stays (by simp [filterGood_counted, hn, hv]) fun b => by simp [filterGood_counted, goodCounted_marked, hn]
  case true =>
    by_cases hs : sender = s.line.station
    · exact .after (g := reportF .duplicate) (v := goodCounted s) (by simp [filterGood_counted, hn, hs])
        (fun b => by simp [filterGood_counted, goodCounted_marked, hn, hs]) (follows_reportF _ hv)
    · cases hd : (goodCounted s).dispatches k target zone
      case false =>
        exact .stays (by simp [filterGood_counted, hn, hs, hd, hv]) fun b => by
          simp [filterGood_counted, goodCounted_marked, hn, hs, hd]
      case true =>
        have hk : admitted k .run = true := by
          rw [State.dispatches, hv, Bool.and_eq_true, Bool.and_eq_true] at hd
          exact hd.1.2
        exact .after (g := act) (v := goodCounted s) (by simp [filterGood_counted, hn, hs, hd])
          (fun b => by simp [filterGood_counted, goodCounted_marked, hn, hs, hd]) (hact _ hv hk)

theorem follows_receive {k : FrameKind} {sender target : StationNo} {zone : Option Byte} {good : Bool}
    {act : State → State} {s : State} (hr : s.cycle.station = .run)
    (hact : ∀ u : State, u.cycle.station = .run → admitted k .run = true → Follows act u) :
    Follows (receive k sender target zone good act) s := by
  cases good
  case false => exact .stays (by simpa [receive] using hr) fun b => by simp [receive, badFrame_marked]
  case true =>
    refine .after (g := fun u => retest (filterGood k sender target zone act u)) (v := endGoodReception s) rfl
      (fun b => by simp [receive]) ((follows_filterGood (by simpa using hr) hact).comp
        (fun h => .stays (by simpa using h) fun b => by simp) fun h => by simpa using h)

theorem follows_takeStop {s : State} (hr : s.cycle.station = .run) : Follows takeStop s := by
  by_cases hp : s.cycle.phase = .returning ∨ s.cycle.phase = .pass
  · refine .after (g := moveTo .standby)
      (v := { endGrant s with cycle := { (endGrant s).cycle with phase := .returning } })
      (by simp [takeStop, hr, hp, stopNow]) (fun b => ?_) (.inr ⟨by simp, fun b => moveTo_marked ..⟩)
    simp only [takeStop, marked_fields, hr, if_pos hp, stopNow]
    rfl
  · exact .stays (by simp [takeStop, hr, hp]) fun b => by simp [takeStop, hr, hp]

theorem follows_takeStart {s : State} (hr : s.cycle.station = .run) : Follows takeStart s := by
  cases hp : s.cycle.stopPending
  · exact .stays (by simp [takeStart, hr, hp]) fun b => by simp [takeStart, hr, hp]
  · exact .stays (by simp [takeStart, hr, hp]) fun b => by simp [takeStart, hr, hp]

theorem clearCells_marked (cells : Half) (l : List Cell) (b : Bool) (s : State) :
    (l.foldl (clearOne cells) s).marked b = l.foldl (clearOne cells) (s.marked b) := by
  induction l generalizing s with
  | nil => rfl
  | cons c rest ih =>
    rw [List.foldl_cons, List.foldl_cons, ih]
    congr 1
    simp [clearOne]

theorem takeClear_run (cells : Half) {s : State} (hr : s.cycle.station = .run) :
    takeClear cells s = placeStatus (formAlert (allCells.foldl (clearOne cells) s)) := by
  simp [takeClear, hr]

theorem follows_takeClear (cells : Half) {s : State} (hr : s.cycle.station = .run) : Follows (takeClear cells) s := by
  refine .stays (by simpa [takeClear_run cells hr] using hr) fun b => ?_
  rw [takeClear_run cells hr, takeClear_run cells (by simpa using hr), ← clearCells_marked]
  simp

end Sys2Proof.Machine
end

section
/-!
PROOFS. The silence limit (O23): the commands that test for parking, and those that leave a park condition false.
-/

namespace Sys2Proof.Machine

/-! ## The park test -/

theorem slotEmpty_iff {α : Type} (t : Slot α) : slotEmpty t = true ↔ t.body = .empty := by
  cases h : t.body <;> simp [slotEmpty, h]

theorem mayPark_iff (s : State) : s.mayPark = true ↔ ParkConditions s := by
  simp [State.mayPark, ParkConditions, slotEmpty_iff, and_assoc]

theorem moveTo_parked (s : State) : moveTo .parked s = parkedFrom s := by
  simp [moveTo, parkedFrom, holdAtMove, drawAtMove, cycleAtMove, placeStatus, statusPlaced]

/-- `t` is what a head whose silence limit stands reached becomes where a calm head becomes `u` (R20). -/
def ParksAfter (u t : State) : Prop :=
  (u.cycle.station = .run → ParkConditions u → t = parkedFrom u)
    ∧ (u.cycle.station = .run → ¬ParkConditions u → t = u.marked true)
    ∧ (u.cycle.station ≠ .run → t = u)

/-- A command that ends with the park test. -/
theorem parksAfter_parkTest {f : State → State} {s : State} (h : Follows f s) :
    ParksAfter (parkTest (f (s.marked false))) (parkTest (f (s.marked true))) := by
  obtain ⟨hr, hb⟩ | ⟨hr, hb⟩ := h
  · have calm : parkTest ((f s).marked false) = (f s).marked false := parkTest_of_calm rfl
    rw [hb, hb, calm]
    refine ⟨fun _ hp => ?_, fun _ hp => ?_, fun hn => absurd hr hn⟩
    · rw [parkTest, if_pos ⟨hr, rfl, (mayPark_iff _).2 hp⟩, moveTo_parked]
      rfl
    · exact if_neg fun h => hp ((mayPark_iff _).1 h.2.2)
  · have out : parkTest (f s) = f s := if_neg fun h => hr h.1
    rw [hb, hb, out]
    exact ⟨fun h => absurd h hr, fun h => absurd h hr, fun _ => rfl⟩

/-- A command that leaves a park condition false where it leaves the head in RUN. -/
theorem parksAfter_busy {f : State → State} {s : State} (h : Follows f s)
    (hb : (f s).cycle.station = .run → ¬ParkConditions (f s)) :
    ParksAfter (f (s.marked false)) (f (s.marked true)) := by
  obtain ⟨hr, hm⟩ | ⟨hr, hm⟩ := h
  · rw [hm, hm]
    exact ⟨fun _ hp => absurd hp (hb hr), fun _ _ => rfl, fun hn => absurd hr hn⟩
  · rw [hm, hm]
    exact ⟨fun h => absurd h hr, fun h => absurd h hr, fun _ => rfl⟩

/-! ## The commands that leave a park condition false -/

/-- What the park conditions read. -/
def parkView (s : State) :
    Phase × Grant × Option SelfEntry × SlotBody OpenFrame × SlotBody ShutFrame × SlotBody HoldFrame × Bool :=
  (s.cycle.phase, s.cycle.grant, s.draw.self, s.line.openSlot.body, s.line.shutSlot.body, s.line.holdSlot.body,
    s.hold.asserted)

theorem busy_of_view {s t : State} (h : parkView t = parkView s) (hb : ¬ParkConditions s) : ¬ParkConditions t := by
  simp only [parkView, Prod.mk.injEq] at h
  obtain ⟨phase, grant, self, openBody, shutBody, holdBody, asserted⟩ := h
  simpa only [ParkConditions, phase, grant, self, openBody, shutBody, holdBody, asserted] using hb

/-- An operation that leaves grant, SELF, SHUT and HOLD slot and the assertion, and neither returns to RETURN nor
empties the OPEN slot. -/
theorem busy_of_rest {s t : State} (phase : s.cycle.phase ≠ .returning → t.cycle.phase ≠ .returning)
    (openSlot : s.line.openSlot.body ≠ .empty → t.line.openSlot.body ≠ .empty)
    (rest : t.cycle.grant = s.cycle.grant ∧ t.draw.self = s.draw.self ∧ t.line.shutSlot = s.line.shutSlot
      ∧ t.line.holdSlot = s.line.holdSlot ∧ t.hold = s.hold) (hb : ¬ParkConditions s) : ¬ParkConditions t := by
  obtain ⟨grant, self, shut, holdSlot, hold⟩ := rest
  intro ⟨hphase, hgrant, hself, hopen, hshut, hhold, hasserted⟩
  exact hb ⟨Classical.not_not.1 fun h => phase h hphase, grant ▸ hgrant, self ▸ hself,
    Classical.not_not.1 fun h => openSlot h hopen, shut ▸ hshut, holdSlot ▸ hhold, hold ▸ hasserted⟩

theorem busy_of_phase {s : State} (h : s.cycle.phase ≠ .returning) : ¬ParkConditions s := fun hp => h hp.1

theorem busy_of_self {s : State} (h : s.draw.self ≠ none) : ¬ParkConditions s := fun hp => h hp.2.2.1

theorem busy_of_hold {s : State} (h : slotEmpty s.line.holdSlot = false) : ¬ParkConditions s := fun hp =>
  absurd ((slotEmpty_iff _).2 hp.2.2.2.2.2.1) (by simp [h])

theorem busy_of_asserted {s : State} (h : s.hold.asserted = true) : ¬ParkConditions s := fun hp =>
  absurd h (by simp [hp.2.2.2.2.2.2])

/-! ### The phase does not return -/

theorem advancePhase_returning {before after : Phase} {s : State} (ha : after ≠ .returning)
    (h : s.cycle.phase ≠ .returning) : (advancePhase before after s).cycle.phase ≠ .returning := by
  unfold advancePhase
  split
  · exact ha
  · exact h

theorem endGassing_returning {s : State} (h : s.cycle.phase ≠ .returning) : (endGassing s).cycle.phase ≠ .returning :=
  advancePhase_returning nofun (by simpa using h)

theorem doseComplete_returning {s : State} (h : s.cycle.phase ≠ .returning) :
    (doseComplete s).cycle.phase ≠ .returning := by
  unfold doseComplete
  split
  · exact endGassing_returning h
  · exact advancePhase_returning nofun (by simpa using h)

theorem decideInPlan_returning {s : State} (h : s.cycle.phase ≠ .returning) :
    (decideInPlan s).cycle.phase ≠ .returning := by
  unfold decideInPlan
  dsimp only
  (repeat' split)
  · exact doseComplete_returning h
  · exact endGassing_returning (by simpa using h)
  · simpa using h

theorem closeAfter_returning {before : GasStage} {s : State} (hs : s.gas.stage ≠ .settle)
    (h : s.cycle.phase ≠ .returning) : (closeAfter before s).cycle.phase ≠ .returning := by
  unfold closeAfter closeIfShut
  (repeat' split)
  · exact h
  · rw [valveClosed, startSettle_of_ne (by simpa using hs)]
    simpa using h
  · exact h

theorem abandonGas_returning {s : State} (h : s.cycle.phase ≠ .returning) :
    (abandonGas s).cycle.phase ≠ .returning := by
  unfold abandonGas
  split
  · exact h
  · exact closeAfter_returning (by simp) (by simpa using h)

theorem enterGas_returning (s : State) : (enterGas s).cycle.phase ≠ .returning := by
  refine decideInPlan_returning (abandonGas_returning ?_)
  exact nofun

/-! ### The marks -/

theorem busy_takeGasOpen {s : State} (hb : ¬ParkConditions s) : ¬ParkConditions (takeGasOpen s) := by
  cases hp : s.cycle.phase <;> simp only [takeGasOpen, hp]
  case crimp => exact busy_of_phase (by simp [hp])
  case waitWindow => exact busy_of_phase (enterGas_returning s)
  all_goals exact hb

theorem busy_takeGasClose {s : State} (hb : ¬ParkConditions s) : ¬ParkConditions (takeGasClose s) := by
  cases hp : s.cycle.phase <;> simp only [takeGasClose, hp]
  case crimp => exact busy_of_phase (by simp [hp])
  case waitWindow => exact busy_of_phase nofun
  case gas => exact busy_of_phase nofun
  case check => exact busy_of_phase nofun
  all_goals exact hb

/-! ### The crimp -/

theorem busy_crimpVerdict {good : Bool} {s : State} (hb : ¬ParkConditions s) :
    ¬ParkConditions (crimpVerdict good s) := by
  unfold crimpVerdict
  split
  · (repeat' split)
    · exact busy_of_phase (enterGas_returning s)
    all_goals exact busy_of_phase nofun
  · exact hb

theorem busy_enterDone {s : State} (hb : ¬ParkConditions s) : ¬ParkConditions (enterDone s) := by
  unfold enterDone
  dsimp only
  (repeat' split) <;> exact busy_crimpVerdict (busy_of_view (by simp [parkView]) hb)

theorem busy_takeCrimpSample {force depth : Nat} {s : State} (hb : ¬ParkConditions s) :
    ¬ParkConditions (takeCrimpSample force depth s) := by
  cases hs : s.crimp.state <;> simp only [takeCrimpSample, hs]
  case seat => split <;> exact hb
  case form => exact busy_of_view (by simp [parkView]) hb
  case dwell => exact hb
  case release =>
    split
    · exact busy_enterDone hb
    · exact hb
  all_goals exact hb

/-! ### The gas sequencer and the line -/

/-- An OPEN slot that holds a frame still holds one once a claim is requested. -/
theorem requestClaim_openSlot {s : State} (h : s.line.openSlot.body ≠ .empty) :
    (requestClaim s).line.openSlot.body ≠ .empty := by
  have placed : (slotPlace { zone := s.zoneByte } s.line.openSlot).body ≠ .empty := by
    unfold slotPlace
    split <;> simp_all
  cases hc : s.draw.claim <;> simp only [requestClaim, hc]
  case none =>
    split
    · simpa [placeOpen] using placed
    · simpa using h
  all_goals exact h

theorem decideInPlan_openSlot {s : State} (h : s.line.openSlot.body ≠ .empty) :
    (decideInPlan s).line.openSlot.body ≠ .empty := by
  have acted (a : PlanAnswer) (u : State) (hu : u.line.openSlot.body ≠ .empty) :
      (actOnAnswer a u).line.openSlot.body ≠ .empty := by
    cases a <;> simp only [actOnAnswer]
    case noReading => exact hu
    case pulse n =>
      split
      · exact requestClaim_openSlot hu
      · simpa using hu
    all_goals split <;> simpa using hu
  unfold decideInPlan
  dsimp only
  (repeat' split)
  · simpa using h
  · simpa using h
  · exact acted _ _ (by simpa using h)

theorem busy_enterPlan {s : State} (hb : ¬ParkConditions s) : ¬ParkConditions (enterPlan s) := by
  exact busy_of_rest decideInPlan_returning decideInPlan_openSlot (by simp) hb

theorem busy_judgeSeal {s : State} (hb : ¬ParkConditions s) : ¬ParkConditions (judgeSeal s) := by
  refine busy_of_rest (fun hp => advancePhase_returning nofun ?_) (by simp) (by simp) hb
  split <;> simpa using hp

theorem busy_retest {s : State} (hc : s.gas.stage = .claim → s.cycle.phase ≠ .returning) (hb : ¬ParkConditions s) :
    ¬ParkConditions (retest s) := by
  by_cases hs : s.gas.stage = .claim
  · exact busy_of_phase (by simpa using hc hs)
  · rwa [retest, if_neg hs]

theorem slotStart_empty {α : Type} (t : Slot α) : (slotStart t).body = .empty ↔ t.body = .empty := by
  cases h : t.body <;> simp [slotStart, h]

theorem busy_beginAttempt (k : SlotKind) {s : State} (hb : ¬ParkConditions s) : ¬ParkConditions (beginAttempt k s) := by
  cases k <;> simpa [ParkConditions, beginAttempt, onSlot, slotStart_empty] using hb

theorem busy_offerSlots (l : List SlotKind) {s : State} (hc : s.gas.stage = .claim → s.cycle.phase ≠ .returning)
    (hb : ¬ParkConditions s) : ¬ParkConditions (offerSlots l s) := by
  by_cases hs : s.gas.stage = .claim
  · exact busy_of_phase (by simpa using hc hs)
  · have offered : offerOpen s = (false, s) := by simp [offerOpen, State.admits, retest, hs]
    induction l with
    | nil => exact hb
    | cons k rest ih =>
      simp only [offerSlots, offered]
      (repeat' split)
      · exact ih
      · exact busy_beginAttempt k hb
      · exact ih

/-! ### The hold unit and the frames received -/

theorem holdSlot_placeHold (q : Nat) (s : State) : slotEmpty (placeHold q s).line.holdSlot = false := by
  cases h : s.line.holdSlot.body <;> simp [placeHold, slotPlace, slotEmpty, h]

theorem busy_testAssertion {s : State} (hb : ¬ParkConditions s) : ¬ParkConditions (testAssertion s) := by
  unfold testAssertion
  split
  · exact busy_of_asserted (by simp [setAsserted])
  · exact hb

theorem busy_peerHolds {sender : StationNo} {q : Nat} {s : State} (hb : ¬ParkConditions s) :
    ¬ParkConditions (peerHolds sender q s) := by
  unfold peerHolds suppressHold
  dsimp only
  (repeat' split)
  · exact busy_of_hold (holdSlot_placeHold 0 _)
  · exact busy_of_hold (holdSlot_placeHold 0 _)
  · exact hb

theorem busy_peerReleases {sender : StationNo} {s : State} (hb : ¬ParkConditions s) :
    ¬ParkConditions (peerReleases sender s) := by
  cases hg : tableGet sender.toNat s.hold.table <;> simp only [peerReleases, hg]
  case none => exact hb
  case some q =>
    split
    · exact busy_testAssertion hb
    · exact hb

theorem busy_resendHold (s : State) : ¬ParkConditions (resendHold s) := by
  refine busy_of_hold ?_
  simpa [resendHold] using holdSlot_placeHold s.params.holdTime s

/-! ### The reports of faults -/

/-- A report that leaves the head in RUN found its cell latched. -/
theorem busy_reportF {c : Cell} {s : State} (hr : s.cycle.station = .run) (hb : ¬ParkConditions s)
    (ht : (reportF c s).cycle.station = .run) : ¬ParkConditions (reportF c s) := by
  cases hc : s.latched c
  case false => simp [reportF_run hc hr] at ht
  case true =>
    rw [reportF_latched hc]
    split
    · exact hb
    · exact hb

theorem busy_jamCrimp {s : State} (hr : s.cycle.station = .run) (hb : ¬ParkConditions s)
    (ht : (jamCrimp s).cycle.station = .run) : ¬ParkConditions (jamCrimp s) :=
  busy_reportF (by simpa using hr) (busy_of_view (by simp [parkView]) hb) ht

theorem busy_findStuckValve {s : State} (hr : s.cycle.station = .run) (hb : ¬ParkConditions s)
    (ht : (findStuckValve s).cycle.station = .run) : ¬ParkConditions (findStuckValve s) := by
  cases he : s.gas.stuckEpisode
  case true => simpa [findStuckValve, he] using hb
  case false =>
    have found : findStuckValve s =
        reportF .valveStuck (drawTakesStuck { s with gas := { s.gas with stuckEpisode := true } }) := by
      simp [findStuckValve, he]
    rw [found] at ht ⊢
    refine busy_reportF (by simpa using hr) (busy_of_self ?_) ht
    cases hd : s.draw.self <;> simp [drawTakesStuck, hd, hr]

theorem busy_badFrame {s : State} (hc : s.gas.stage = .claim → s.cycle.phase ≠ .returning) (hb : ¬ParkConditions s) :
    ¬ParkConditions (badFrame s) := by
  have counted : ¬ParkConditions (phantomForBadFrame (countBad s)) := by
    refine busy_of_view ?_ hb
    unfold countBad
    dsimp only
    (repeat' split) <;> simp [parkView]
  have same : (countBad s).gas = s.gas ∧ (countBad s).cycle = s.cycle := by
    unfold countBad
    dsimp only
    (repeat' split) <;> simp
  exact busy_retest (by simpa [same] using hc) counted

theorem filterGood_busy {k : FrameKind} {sender target : StationNo} {zone : Option Byte} {act : State → State}
    {s : State} (hr : (goodCounted s).cycle.station = .run) (hb : ¬ParkConditions (goodCounted s))
    (hact : admitted k .run = true → (act (goodCounted s)).cycle.station = .run →
      ¬ParkConditions (act (goodCounted s)) ∧ (act (goodCounted s)).cycle.phase = (goodCounted s).cycle.phase
        ∧ (act (goodCounted s)).gas.stage = (goodCounted s).gas.stage)
    (ht : (filterGood k sender target zone act s).cycle.station = .run) :
    ¬ParkConditions (filterGood k sender target zone act s)
      ∧ (filterGood k sender target zone act s).cycle.phase = (goodCounted s).cycle.phase
      ∧ (filterGood k sender target zone act s).gas.stage = (goodCounted s).gas.stage := by
  cases hn : (goodCounted s).strapsValid
  case false => simpa [filterGood_counted, hn] using hb
  case true =>
    by_cases hs : sender = s.line.station
    · simp only [filterGood_counted, hn, hs, if_true] at ht ⊢
      cases hc : (goodCounted s).latched .duplicate
      case false => simp [reportF_run hc hr] at ht
      case true => simpa [reportF_latched hc] using hb
    · cases hd : (goodCounted s).dispatches k target zone
      case false => simpa [filterGood_counted, hn, hs, hd] using hb
      case true =>
        have hk : admitted k .run = true := by
          rw [State.dispatches, hr, Bool.and_eq_true, Bool.and_eq_true] at hd
          exact hd.1.2
        simp only [filterGood_counted, hn, hs, hd, if_true, if_false] at ht ⊢
        exact hact hk ht

theorem endGoodReception_view (s : State) : parkView (endGoodReception s) = parkView s := by
  unfold endGoodReception
  dsimp only
  split <;> rfl

/-- What a frame's reception leaves to its owner. -/
theorem busy_receive {k : FrameKind} {sender target : StationNo} {zone : Option Byte} {good : Bool}
    {act : State → State} {s : State} (hr : s.cycle.station = .run)
    (hc : s.gas.stage = .claim → s.cycle.phase ≠ .returning) (hb : ¬ParkConditions s)
    (hact : ∀ u : State, u.cycle = s.cycle → u.gas = s.gas → ¬ParkConditions u → admitted k .run = true →
      (act u).cycle.station = .run →
        ¬ParkConditions (act u) ∧ (act u).cycle.phase = u.cycle.phase ∧ (act u).gas.stage = u.gas.stage)
    (ht : (receive k sender target zone good act s).cycle.station = .run) :
    ¬ParkConditions (receive k sender target zone good act s) := by
  cases good
  case false => exact busy_badFrame hc (busy_of_view rfl hb)
  case true =>
    have hv : (goodCounted (endGoodReception s)).cycle = s.cycle := by simp [goodCounted]
    have hg : (goodCounted (endGoodReception s)).gas = s.gas := by simp [goodCounted]
    have hbv : ¬ParkConditions (goodCounted (endGoodReception s)) :=
      busy_of_view (endGoodReception_view s) hb
    have ht' : (filterGood k sender target zone act (endGoodReception s)).cycle.station = .run := by
      simpa [receive] using ht
    have judged := filterGood_busy (sender := sender) (target := target) (zone := zone) (s := endGoodReception s)
      (by simpa [hv] using hr) hbv (fun hk => hact _ hv hg hbv hk) ht'
    obtain ⟨hbt, phase, stage⟩ := judged
    refine busy_retest ?_ hbt
    rw [phase, stage, hv, hg]
    exact hc

theorem parksAfter_receive {k : FrameKind} {sender target : StationNo} {zone : Option Byte} {good : Bool}
    {act : State → State} {s : State} (hr : s.cycle.station = .run)
    (hc : s.gas.stage = .claim → s.cycle.phase ≠ .returning) (hb : ¬ParkConditions s)
    (hfollow : ∀ u : State, u.cycle.station = .run → admitted k .run = true → Follows act u)
    (hact : ∀ u : State, u.cycle.station = .run → ¬ParkConditions u → admitted k .run = true →
      (act u).cycle.station = .run →
        ¬ParkConditions (act u) ∧ (act u).cycle.phase = u.cycle.phase ∧ (act u).gas.stage = u.gas.stage) :
    ParksAfter (receive k sender target zone good act (s.marked false))
      (receive k sender target zone good act (s.marked true)) :=
  parksAfter_busy (follows_receive hr hfollow) fun ht =>
    busy_receive hr hc hb (fun u hu _ hbu hk ha => hact u (by rw [hu]; exact hr) hbu hk ha) ht

/-- A frame whose owner changes nothing that the park conditions or the sequencer's stage read. -/
theorem parksAfter_receive_plain {k : FrameKind} {sender target : StationNo} {zone : Option Byte} {good : Bool}
    {act : State → State} {s : State} (hr : s.cycle.station = .run)
    (hc : s.gas.stage = .claim → s.cycle.phase ≠ .returning) (hb : ¬ParkConditions s)
    (hmark : ∀ u b, (act u).marked b = act (u.marked b)) (hview : ∀ u, parkView (act u) = parkView u)
    (hkeep : ∀ u, (act u).cycle.station = u.cycle.station ∧ (act u).gas.stage = u.gas.stage) :
    ParksAfter (receive k sender target zone good act (s.marked false))
      (receive k sender target zone good act (s.marked true)) :=
  parksAfter_receive hr hc hb (fun u hu _ => .stays ((hkeep u).1.trans hu) (hmark u)) fun u _ hbu _ _ =>
    ⟨busy_of_view (hview u) hbu, congrArg (·.1) (hview u), (hkeep u).2⟩

end Sys2Proof.Machine
end

section
/-!
PROOFS. The silence limit (O23): what each command leaves where the limit stands reached.
-/

namespace Sys2Proof.Machine

/-- A command is the park test after `f`. -/
theorem parksAfter_tested {c : Instr} {f : State → State} {s : State}
    (h : ∀ b, effect c (s.marked b) = parkTest (f (s.marked b))) (hf : Follows f s) :
    ParksAfter (effect c (s.marked false)) (effect c (s.marked true)) := by
  rw [h, h]
  exact parksAfter_parkTest hf

/-- A command is `f`, after which a park condition is false. -/
theorem parksAfter_untested {c : Instr} {f : State → State} {s : State}
    (h : ∀ b, effect c (s.marked b) = f (s.marked b)) (hf : Follows f s)
    (hb : (f s).cycle.station = .run → ¬ParkConditions (f s)) :
    ParksAfter (effect c (s.marked false)) (effect c (s.marked true)) := by
  rw [h, h]
  exact parksAfter_busy hf hb

/-- A command without effect. -/
theorem parksAfter_none {c : Instr} {s : State} (hr : s.cycle.station = .run) (hb : ¬ParkConditions s)
    (h : ∀ b, effect c (s.marked b) = s.marked b) :
    ParksAfter (effect c (s.marked false)) (effect c (s.marked true)) :=
  parksAfter_untested (f := id) h (.stays hr fun _ => rfl) fun _ => hb

/-- A command that tests for parking after `f` where it is due, and else has no effect. -/
theorem parksAfter_tested_if {c : Instr} {p : Prop} [Decidable p] {f : State → State} {s : State}
    (hr : s.cycle.station = .run) (hb : ¬ParkConditions s)
    (h : ∀ b, effect c (s.marked b) = if p then parkTest (f (s.marked b)) else s.marked b) (hf : Follows f s) :
    ParksAfter (effect c (s.marked false)) (effect c (s.marked true)) := by
  by_cases hp : p
  · exact parksAfter_tested (fun b => (h b).trans (if_pos hp)) hf
  · exact parksAfter_none hr hb fun b => (h b).trans (if_neg hp)

/-- A command that is `f` where it is due, a park condition false after it, and else has no effect. -/
theorem parksAfter_untested_if {c : Instr} {p : Prop} [Decidable p] {f : State → State} {s : State}
    (hr : s.cycle.station = .run) (hb : ¬ParkConditions s)
    (h : ∀ b, effect c (s.marked b) = if p then f (s.marked b) else s.marked b) (hf : Follows f s)
    (hbf : (f s).cycle.station = .run → ¬ParkConditions (f s)) :
    ParksAfter (effect c (s.marked false)) (effect c (s.marked true)) := by
  by_cases hp : p
  · exact parksAfter_untested (fun b => (h b).trans (if_pos hp)) hf hbf
  · exact parksAfter_none hr hb fun b => (h b).trans (if_neg hp)

/-- The head with the transaction in progress taken as ended. -/
def transactionEnded (s : State) : State := { s with sensor := { s.sensor with transaction := none } }

theorem parksAfter_sensorTransactionEnd {channel : Channel} {r : SensorReply} {s : State} (hr : s.cycle.station = .run)
    (hb : ¬ParkConditions s) :
    ParksAfter (effect (.sensorTransactionEnd channel r) (s.marked false))
      (effect (.sensorTransactionEnd channel r) (s.marked true)) := by
  cases ht : s.sensor.transaction
  case none => exact parksAfter_none hr hb fun b => by simp [endTransaction, ht]
  case some x =>
    by_cases hx : x.channel = channel
    · cases channel
      case header =>
        refine parksAfter_untested (f := fun u => endHeaderTransaction (takenReply x.startMade r) (transactionEnded u))
          (fun b => by simp [endTransaction, ht, hx, transactionEnded]) (.stays (by simpa [transactionEnded] using hr)
            fun b => by simp [transactionEnded])
          fun _ => busy_of_view ?_ hb
        simp [parkView, transactionEnded]
      case bell =>
        exact parksAfter_tested (f := fun u => endBellTransaction (takenReply x.startMade r) (transactionEnded u))
          (fun b => by simp [endTransaction, ht, hx, transactionEnded])
          (.after (g := endBellTransaction (takenReply x.startMade r)) (v := transactionEnded s) rfl (fun _ => rfl)
            (follows_endBellTransaction _ hr))
    · exact parksAfter_none hr hb fun b => by simp [endTransaction, ht, hx]

theorem parksAfter_zeroingTest {s : State} (hr : s.cycle.station = .run) (hb : ¬ParkConditions s) :
    ParksAfter (effect .zeroingTest (s.marked false)) (effect .zeroingTest (s.marked true)) := by
  cases hz : s.cycle.zeroTest
  case none => exact parksAfter_none hr hb fun b => by simp [hz]
  case some d =>
    refine parksAfter_untested_if (p := reached s.clock d Config.ventTime = true) (f := makeZeroTest d) hr hb
      (fun b => by simp [hz]) (.stays (by simpa using hr) fun b => by simp) fun _ => ?_
    unfold makeZeroTest
    dsimp only
    split
    · exact fun h => nomatch h.2.1
    · exact hb

/-- The head with the valve shown open. -/
def pinOpened (s : State) : State := { s with gasFb := true }

theorem parksAfter_gasFbOpens {s : State} (hr : s.cycle.station = .run) (hb : ¬ParkConditions s) :
    ParksAfter (effect .gasFbOpens (s.marked false)) (effect .gasFbOpens (s.marked true)) := by
  cases hg : s.gasOn
  case true =>
    exact parksAfter_untested (f := fun u => seeFeedback (pinOpened u)) (fun b => by simp [hg, pinOpened])
      (.stays (by simpa [pinOpened] using hr) fun b => by simp [pinOpened]) fun _ => busy_of_view
        (by simp [parkView, pinOpened]) hb
  case false =>
    cases hw : s.gas.closeWindow.isSome
    case true =>
      exact parksAfter_untested (f := pinOpened) (fun b => by simp [hg, hw, pinOpened]) (.stays hr fun b => rfl)
        fun _ => hb
    case false =>
      exact parksAfter_untested (f := fun u => findStuckValve (pinOpened u)) (fun b => by simp [hg, hw, pinOpened])
        (.after (g := findStuckValve) (v := pinOpened s) rfl (fun _ => rfl) (follows_findStuckValve hr))
        (busy_findStuckValve (s := pinOpened s) hr hb)

/-- The head with its close window ended. -/
def windowEnded (s : State) : State := { s with gas := { s.gas with closeWindow := none } }

theorem parksAfter_closeWindowExpiry {s : State} (hr : s.cycle.station = .run) (hb : ¬ParkConditions s) :
    ParksAfter (effect .closeWindowExpiry (s.marked false)) (effect .closeWindowExpiry (s.marked true)) := by
  by_cases he : hasExpired s.clock s.gas.closeWindow Config.closeWindow = true
  · cases ho : s.gasFb && !s.gasOn
    case true =>
      exact parksAfter_untested (f := fun u => findStuckValve (windowEnded u))
        (fun b => by simp [he, endCloseWindow, ho, windowEnded])
        (.after (g := findStuckValve) (v := windowEnded s) rfl (fun _ => rfl) (follows_findStuckValve hr))
        (busy_findStuckValve (s := windowEnded s) hr hb)
    case false =>
      exact parksAfter_untested (f := windowEnded) (fun b => by simp [he, endCloseWindow, ho, windowEnded])
        (.stays hr fun b => rfl)
        fun _ => hb
  · exact parksAfter_none hr hb fun b => by simp [he]

/-- The head with the line found idle. -/
def lineFoundIdle (s : State) : State := { s with line := { s.line with condition := .idle } }

theorem parksAfter_lineIdle {s : State} (hr : s.cycle.station = .run) (hb : ¬ParkConditions s)
    (hc : s.gas.stage = .claim → s.cycle.phase ≠ .returning) :
    ParksAfter (effect .lineIdle (s.marked false)) (effect .lineIdle (s.marked true)) := by
  cases hs : s.strapsValid
  case true =>
    exact parksAfter_untested_if (p := s.lineQuiet = true) (f := fun u => offerSlots offerOrder (lineFoundIdle u)) hr hb
      (fun b => by simp [hs, lineFoundIdle])
        (.stays (by simpa [lineFoundIdle] using hr) fun b => by simp [lineFoundIdle])
      fun _ => busy_offerSlots _ hc hb
  case false =>
    exact parksAfter_untested_if (p := s.lineQuiet = true) (f := lineFoundIdle) hr hb
      (fun b => by simp [hs, lineFoundIdle])
      (.stays hr fun b => rfl) fun _ => hb

theorem parksAfter_arbitrationLoss {claim : ClaimField} {s : State} (hr : s.cycle.station = .run)
    (hb : ¬ParkConditions s) :
    ParksAfter (effect (.arbitrationLoss claim) (s.marked false))
      (effect (.arbitrationLoss claim) (s.marked true)) := by
  cases ha : s.line.attempt
  case none => exact parksAfter_none hr hb fun b => by simp [ha]
  case some a =>
    cases hm : s.line.abort
    case none =>
      exact parksAfter_tested_if (p := 2 ≤ s.position a ∧ s.position a ≤ 8) (f := fun u => slotReturns a.slot { u with
          line := { u.line with attempt := none, receiving := some ((claimRead claim).take (s.position a)) } }) hr hb
        (fun b => by simp [ha, hm]) (.stays (by simpa using hr) fun b => by simp)
    all_goals exact parksAfter_none hr hb fun b => by simp [ha, hm]

/-- The head with a bit error noted (R113, R106). -/
def errorNoted (k : SlotKind) (s : State) : State :=
  { noteLineWait k s with dose := { (noteLineWait k s).dose with attemptLength := none } }

theorem errorNoted_marked (k : SlotKind) (b : Bool) (s : State) :
    (errorNoted k s).marked b = errorNoted k (s.marked b) := by
  simp [errorNoted, ← noteLineWait_marked]

/-- The head with an abort mark begun (R106, R109). -/
def shortMarked (s : State) : State := { s with line := { s.line with abort := .short } }

/-- The head with the abort mark of a fourth failure begun (R109). -/
def fourthMarked (s : State) : State := { s with line := { s.line with abort := .fourth } }

theorem fourthMarked_marked (b : Bool) (s : State) : (fourthMarked s).marked b = fourthMarked (s.marked b) := rfl

theorem shortMarked_marked (b : Bool) (s : State) : (shortMarked s).marked b = shortMarked (s.marked b) := rfl

theorem parksAfter_bitError {s : State} (hr : s.cycle.station = .run) (hb : ¬ParkConditions s) :
    ParksAfter (effect .bitError (s.marked false)) (effect .bitError (s.marked true)) := by
  cases ha : s.line.attempt
  case none => exact parksAfter_none hr hb fun b => by simp [ha]
  case some a =>
    cases hm : s.line.abort
    case none =>
      by_cases hp : 1 ≤ s.position a ∧ s.position a ≤ a.lastPosition
      · by_cases hf : s.slotFailures a.slot < 3
        · exact parksAfter_tested (f := fun u => shortMarked (onSlot a.slot slotFail slotFail (errorNoted a.slot u)))
            (fun b => by simp [ha, hm, hp, hf, shortMarked, errorNoted])
              (.stays (by simpa [shortMarked, errorNoted] using hr)
              fun b => by simp [shortMarked_marked, errorNoted_marked])
        · exact parksAfter_tested (f := fun u => fourthMarked (errorNoted a.slot u))
            (fun b => by simp [ha, hm, hp, hf, fourthMarked, errorNoted])
              (.stays (by simpa [fourthMarked, errorNoted] using hr)
              fun b => by simp [fourthMarked_marked, errorNoted_marked])
      · exact parksAfter_none hr hb fun b => by simp [ha, hm, hp]
    all_goals exact parksAfter_none hr hb fun b => by simp [ha, hm]

/-- The line after the last end mark bit of a frame sent, its slot's frame completed (R108). -/
def frameSent (k : SlotKind) (s : State) : State :=
  { onSlot k slotComplete slotComplete s with
    line :=
      { (onSlot k slotComplete slotComplete s).line with
        attempt := none, recessiveRun := 0, dominantRun := 0, condition := .busy } }

theorem frameSent_marked (k : SlotKind) (b : Bool) (s : State) :
    (frameSent k s).marked b = frameSent k (s.marked b) := by
  cases k <;> rfl

theorem ownerCompleted_before (k : SlotKind) (before s : State) (b : Bool) :
    ownerCompleted k (before.marked b) s = ownerCompleted k before s := by
  cases k <;> rfl

theorem parksAfter_frameCompletion {s : State} (hr : s.cycle.station = .run) (hb : ¬ParkConditions s) :
    ParksAfter (effect .frameCompletion (s.marked false)) (effect .frameCompletion (s.marked true)) := by
  cases ha : s.line.attempt
  case none => exact parksAfter_none hr hb fun b => by simp [ha]
  case some a =>
    cases hm : s.line.abort
    case none =>
      exact parksAfter_tested_if (p := a.lastPosition ≤ s.position a)
        (f := fun u => ownerCompleted a.slot u (frameSent a.slot u)) hr hb (fun b => by simp [ha, hm, frameSent])
        (.stays (by simpa [frameSent] using hr) fun b => by simp [ownerCompleted_before, frameSent_marked])
    all_goals exact parksAfter_none hr hb fun b => by simp [ha, hm]

theorem releaseLine_marked (b : Bool) (s : State) : (releaseLine s).marked b = releaseLine (s.marked b) := rfl

theorem parksAfter_abortMarkEnd {s : State} (hr : s.cycle.station = .run) (hb : ¬ParkConditions s) :
    ParksAfter (effect .abortMarkEnd (s.marked false)) (effect .abortMarkEnd (s.marked true)) := by
  cases ha : s.line.attempt
  case none => exact parksAfter_none hr hb fun b => by simp [ha]
  case some a =>
    cases hm : s.line.abort
    case none => exact parksAfter_none hr hb fun b => by simp [ha, hm]
    case short =>
      exact parksAfter_tested_if (p := Config.abortPosition ≤ s.position a)
        (f := fun u => slotReturns a.slot (releaseLine u)) hr hb (fun b => by simp [ha, hm])
        (.stays (by simpa using hr) fun b => by simp [releaseLine_marked])
    case fourth =>
      exact parksAfter_tested_if (p := Config.abortPosition ≤ s.position a)
        (f := fun u => fourthFailure a.slot (releaseLine u)) hr hb (fun b => by simp [ha, hm])
        (.after (g := fourthFailure a.slot) (v := releaseLine s) rfl (fun _ => rfl)
          (follows_fourthFailure _ (by simpa using hr)))

theorem parksAfter_stuckTimeout {s : State} (hr : s.cycle.station = .run) (hb : ¬ParkConditions s) :
    ParksAfter (effect .stuckTimeout (s.marked false)) (effect .stuckTimeout (s.marked true)) := by
  have hf : Follows (fun u => reportF .lineDead { u with line := { u.line with stuckReported := true } }) s :=
    .after (g := reportF .lineDead) (v := { s with line := { s.line with stuckReported := true } }) rfl (fun _ => rfl)
      (follows_reportF _ hr)
  exact parksAfter_untested_if (p := s.line.condition = .stuck ∧ s.line.stuckReported = false
      ∧ hasExpired s.clock s.line.stuckSince Config.stuckLimit) hr hb (fun b => by simp) hf
    (busy_reportF (s := { s with line := { s.line with stuckReported := true } }) hr hb)

theorem parksAfter_startBit {s : State} (hr : s.cycle.station = .run) (hb : ¬ParkConditions s) :
    ParksAfter (effect .startBit (s.marked false)) (effect .startBit (s.marked true)) := by
  cases hl : s.line.condition
  case idle =>
    exact parksAfter_untested (f := fun u => { u with
        line := { u.line with condition := .busy, recessiveRun := 0, dominantRun := 1, receiving := some [false] } })
      (fun b => by simp [hl]) (.stays hr fun b => rfl) fun _ => hb
  case busy =>
    exact parksAfter_untested (f := fun u => { u with
        line := { u.line with recessiveRun := 0, dominantRun := max 1 u.line.dominantRun } })
      (fun b => by simp [hl]) (.stays hr fun b => rfl) fun _ => hb
  case stuck => exact parksAfter_none hr hb fun b => by simp [hl]

theorem parksAfter_drawCountdown {s : State} (hr : s.cycle.station = .run) (hb : ¬ParkConditions s)
    (hc : s.gas.stage = .claim → s.cycle.phase ≠ .returning) :
    ParksAfter (effect .drawCountdown (s.marked false)) (effect .drawCountdown (s.marked true)) := by
  refine parksAfter_untested (f := countDrawTable) (fun b => by simp [hr]) (.stays (by simpa using hr) fun b => by simp)
    fun _ => ?_
  have counted : ¬ParkConditions { s with draw := countDraw s.draw } := by
    simpa [ParkConditions, countDraw] using hb
  unfold countDrawTable
  dsimp only
  split
  · exact busy_retest hc counted
  · exact counted

theorem parksAfter_effect {c : Instr} {s : State} (hr : s.cycle.station = .run) (hb : ¬ParkConditions s)
    (hc : s.gas.stage = .claim → s.cycle.phase ≠ .returning) (hreset : ∀ straps, c ≠ .reset straps)
    (hinfeed : ∀ b, c ≠ .mkInfeed b) (hsilence : c ≠ .silenceLimit) :
    ParksAfter (effect c (s.marked false)) (effect c (s.marked true)) := by
  cases c
  case reset straps => exact absurd rfl (hreset straps)
  case mkInfeed b => exact absurd rfl (hinfeed b)
  case silenceLimit => exact absurd rfl hsilence
  case mkGasopen =>
    exact parksAfter_untested (f := takeGasOpen) (fun b => by simp [hr]) (.stays (by simpa using hr) fun b => by simp)
      fun _ => busy_takeGasOpen hb
  case mkGasclose =>
    exact parksAfter_untested (f := takeGasClose) (fun b => by simp [hr]) (.stays (by simpa using hr) fun b => by simp)
      fun _ => busy_takeGasClose hb
  case mkDischarge =>
    exact parksAfter_tested (f := takeDischarge) (fun b => by simp [hr]) (follows_takeDischarge hr)
  case crimpSample force depth =>
    exact parksAfter_untested (f := takeCrimpSample (forceReading force) (depthReading depth)) (fun b => by simp)
      (.stays (by simpa using hr) fun b => by simp) fun _ => busy_takeCrimpSample hb
  case tSeatExpiry =>
    by_cases he : s.crimpExpires .seat = true
    · exact parksAfter_untested (f := failCrimp .noSeat) (fun b => by simp [he])
        (.stays (by simpa using hr) fun b => by simp) fun _ => busy_of_view (by simp [parkView]) hb
    · exact parksAfter_none hr hb fun b => by simp [he]
  case tFormExpiry =>
    by_cases he : s.crimpExpires .form = true
    · exact parksAfter_untested (f := failCrimp .timeout) (fun b => by simp [he])
        (.stays (by simpa using hr) fun b => by simp) fun _ => busy_of_view (by simp [parkView]) hb
    · exact parksAfter_none hr hb fun b => by simp [he]
  case tDwellExpiry =>
    by_cases he : s.crimpExpires .dwell = true
    · exact parksAfter_untested (f := enterRelease) (fun b => by simp [he])
        (.stays (by simpa using hr) fun b => by simp) fun _ => busy_of_view (by simp [parkView]) hb
    · exact parksAfter_none hr hb fun b => by simp [he]
  case tRelExpiry =>
    by_cases he : s.crimpExpires .release = true
    · exact parksAfter_untested (f := jamCrimp) (fun b => by simp [he]) (follows_jamCrimp hr) (busy_jamCrimp hr hb)
    · exact parksAfter_none hr hb fun b => by simp [he]
  case sensorTransactionEnd channel r => exact parksAfter_sensorTransactionEnd hr hb
  case zeroingTimerExpiry =>
    by_cases he : s.zeroingExpires = true
    · exact parksAfter_tested (f := endZeroing) (fun b => by simp [he]) (.stays (by simpa using hr) fun b => by simp)
    · exact parksAfter_none hr hb fun b => by simp [he]
  case zeroingTest => exact parksAfter_zeroingTest hr hb
  case grantVentWaitExpiry =>
    exact parksAfter_untested_if (p := s.cycle.grant = .waitingForVent ∧ s.ventOn
        ∧ reached s.clock s.gas.ventSince Config.ventTime) (f := startZeroing) hr hb (fun b => by simp)
      (.stays hr fun b => by simp) fun _ h => nomatch h.2.1
  case loadingStatusTimer =>
    exact parksAfter_none hr hb fun b => by simp [State.loadingStatusDue, hr]
  case feedbackWindowLapse =>
    exact parksAfter_untested_if (p := hasExpired s.clock s.gas.feedbackWindow Config.feedbackWindow)
      (f := fun u => { u with gas := { u.gas with feedbackWindow := none } }) hr hb (fun b => by simp)
      (.stays hr fun b => rfl) fun _ => hb
  case gasFbOpens => exact parksAfter_gasFbOpens hr hb
  case gasFbCloses =>
    exact parksAfter_tested (f := fun u => takeValveClosed { u with gasFb := false }) (fun b => by simp)
      (.stays (by simpa using hr) fun b => by simp)
  case closeWindowExpiry => exact parksAfter_closeWindowExpiry hr hb
  case settleTimerExpiry =>
    exact parksAfter_untested_if (p := s.gas.stage = .settle ∧ hasExpired s.clock s.gas.settleTimer s.params.settleTime)
      (f := enterPlan) hr hb (fun b => by simp) (.stays (by simpa using hr) fun b => by simp) fun _ => busy_enterPlan hb
  case checkTimerExpiry =>
    exact parksAfter_untested_if
      (p := s.gas.stage = .check ∧ hasExpired s.clock s.gas.checkTimer s.params.checkInterval)
      (f := judgeSeal) hr hb (fun b => by simp) (.stays (by simpa using hr) fun b => by simp) fun _ => busy_judgeSeal hb
  case lineIdle => exact parksAfter_lineIdle hr hb hc
  case arbitrationLoss claim => exact parksAfter_arbitrationLoss hr hb
  case bitError => exact parksAfter_bitError hr hb
  case frameCompletion => exact parksAfter_frameCompletion hr hb
  case abortMarkEnd => exact parksAfter_abortMarkEnd hr hb
  case badFrame =>
    exact parksAfter_untested (f := fun u => badFrame (endReception u)) (fun b => by simp)
      (.stays (by simpa [badFrame] using hr) fun b => by simp [badFrame_marked]) fun _ => busy_badFrame hc
        (busy_of_view rfl hb)
  case lineStuck =>
    exact parksAfter_untested_if (p := s.line.condition ≠ .stuck ∧ Config.stuckRun ≤ s.line.dominantRun)
      (f := fun u => { u with
        line :=
          { u.line with
            condition := .stuck, recessiveRun := 0, stuckSince := some u.clock, stuckReported := false } }) hr hb
      (fun b => by simp) (.stays hr fun b => rfl) fun _ => hb
  case stuckTimeout => exact parksAfter_stuckTimeout hr hb
  case stuckEnd =>
    exact parksAfter_untested_if (p := s.line.condition = .stuck)
      (f := fun u => { u with
        line :=
          { u.line with
            condition := .busy, dominantRun := 0, recessiveRun := 1, stuckSince := none
            stuckReported := false } }) hr hb
      (fun b => by simp) (.stays hr fun b => rfl) fun _ => hb
  case startBit => exact parksAfter_startBit hr hb
  case receivedOpen sender target zone length =>
    exact parksAfter_receive_plain hr hc hb (fun u b => by simp) (fun u => by simp [parkView]) fun u => by simp
  case receivedShut sender target zone samples =>
    exact parksAfter_receive_plain hr hc hb (fun u b => by simp) (fun u => by simp [parkView]) fun u => by simp
  case receivedFault sender target code zone valve =>
    exact parksAfter_receive_plain hr hc hb (fun u b => by simp) (fun u => by simp [parkView]) fun u => by simp
  case receivedStatus sender target payload =>
    exact parksAfter_receive_plain hr hc hb (fun u b => by simp) (fun u => by simp [parkView]) fun u => by simp
  case receivedHold sender target zone q =>
    refine parksAfter_receive hr hc hb (fun u hu _ => .stays ?_ fun b => ?_) fun u hu hbu _ _ => ?_
    · split <;> simpa using hu
    · simp
    · split
      · exact ⟨busy_peerHolds hbu, by simp, by simp⟩
      · exact ⟨busy_peerReleases hbu, by simp, by simp⟩
  case receivedResult sender target payload =>
    exact parksAfter_receive_plain hr hc hb (fun u b => rfl) (fun u => rfl) fun u => ⟨rfl, rfl⟩
  case load sender target offset data =>
    exact parksAfter_receive hr hc hb (fun u _ h => nomatch h) fun u _ _ h _ => nomatch h
  case loadEnd sender target length =>
    exact parksAfter_receive hr hc hb (fun u _ h => nomatch h) fun u _ _ h _ => nomatch h
  case start sender target =>
    refine parksAfter_receive hr hc hb (fun u hu _ => follows_takeStart hu) fun u hu hbu _ _ => ?_
    cases hp : u.cycle.stopPending <;> simp only [takeStart, hu, hp]
    all_goals exact ⟨hbu, rfl, rfl⟩
  case stop sender target =>
    refine parksAfter_receive hr hc hb (fun u hu _ => follows_takeStop hu) fun u hu hbu _ ht => ?_
    by_cases hp : u.cycle.phase = .returning ∨ u.cycle.phase = .pass
    · simp [takeStop, hu, hp, stopNow] at ht
    · simp only [takeStop, hu, if_neg hp]
      exact ⟨busy_of_view (by simp [parkView]) hbu, by simp, by simp⟩
  case clear sender target cells =>
    refine parksAfter_receive hr hc hb (fun u hu _ => follows_takeClear cells hu) fun u hu hbu _ _ => ?_
    rw [takeClear_run cells hu]
    exact ⟨busy_of_view (by simp [parkView]) hbu, by simp, by simp⟩
  case unknownKindFrame sender target kind payload =>
    exact parksAfter_receive_plain hr hc hb (fun u b => rfl) (fun u => rfl) fun u => ⟨rfl, rfl⟩
  case drawCountdown => exact parksAfter_drawCountdown hr hb hc
  case holdCountdown =>
    exact parksAfter_tested (f := countHoldTable) (fun b => by simp [hr]) (.stays (by simpa using hr) fun b => by simp)
  case holdResend =>
    exact parksAfter_untested_if (p := s.hold.asserted ∧ hasExpired s.clock s.hold.resend (resendInterval s.params))
      (f := resendHold) hr hb (fun b => by simp) (.stays (by simpa using hr) fun b => by simp)
        fun _ => busy_resendHold s

/-! ## The limit itself -/

theorem effect_silenceLimit_early {s : State} (h : s.cycle.station ≠ .run
    ∨ hasExpired s.clock s.cycle.silence (silenceLimit s.cycle) = false) : effect .silenceLimit s = s := by
  rw [effect_silenceLimit]
  exact if_neg fun hn => by obtain h | h := h <;> simp_all

theorem effect_silenceLimit_due {s : State} (hr : s.cycle.station = .run)
    (h : hasExpired s.clock s.cycle.silence (silenceLimit s.cycle) = true) :
    effect .silenceLimit s =
      if s.mayPark then parkedFrom s else { s with cycle := { s.cycle with silenceOver := true } } := by
  rw [effect_silenceLimit, if_pos ⟨hr, h⟩]
  exact (if_congr (by simp [hr, State.mayPark]) (moveTo_parked _) rfl)

/-- The silence timer at its limit, in clock ticks. -/
theorem hasExpired_silence {s : State} {since : Nat}
    (h : s.cycle.silence = some since ∧ since + silenceLimit s.cycle * 500 ≤ s.clock) :
    hasExpired s.clock s.cycle.silence (silenceLimit s.cycle) = true := by
  rw [h.1, hasExpired_some]
  exact (reached_iff ..).2 h.2

theorem loadingStatusDue_iff (s : State) :
    s.loadingStatusDue = true ↔ s.cycle.station = .loading ∧ s.cycle.loadingSince < s.clock
      ∧ (s.clock - s.cycle.loadingSince) % (500 * 500) = 0 := by
  simp [State.loadingStatusDue, Config.loadingStatusInterval, Config.ticksPerMs, and_assoc]

/-- Settles O23: the silence limit, and what every command leaves where it stands reached. -/
theorem silenceParksAnIdleHead : Obligations.SilenceParksAnIdleHead := by
  unfold Obligations.SilenceParksAnIdleHead
  refine ⟨fun s since => ⟨fun h => ?_, fun hs h => ?_, fun h hp => ?_, fun h hp => ?_, fun h => ?_, fun h => ?_⟩,
    fun c s hr ho hb hc hreset hinfeed hsilence u hu => ?_⟩
  · rw [exec_eq_effect, effect_silenceLimit_early (h.imp_right fun hs => by simp [hs])]
  · rw [exec_eq_effect, effect_silenceLimit_early (.inr ?_)]
    rw [hs, hasExpired_some]
    exact decide_eq_false (Nat.not_le.2 h)
  · rw [exec_eq_effect, effect_silenceLimit_due h.1 (hasExpired_silence h.2), if_pos ((mayPark_iff s).2 hp)]
  · rw [exec_eq_effect, effect_silenceLimit_due h.1 (hasExpired_silence h.2), if_neg (mt (mayPark_iff s).1 hp)]
  · rw [exec_eq_effect, effect_loadingStatusTimer, if_pos ((loadingStatusDue_iff s).2 h)]
    rfl
  · rw [exec_eq_effect, effect_loadingStatusTimer, if_neg (mt (loadingStatusDue_iff s).1 h)]
  · have parks := parksAfter_effect hr hb hc hreset hinfeed hsilence
    have marked : s.marked true = s := by rw [State.marked, ← ho]
    have calm : effect c (s.marked false) = u := effect_of_exec hu
    rw [marked, calm] at parks
    obtain ⟨park, mark, out⟩ := parks
    rw [exec_eq_effect]
    exact ⟨fun h hp => congrArg _ (park h hp), fun h hp => congrArg _ (mark h hp), fun h => congrArg _ (out h)⟩

end Sys2Proof.Machine
end

section
/-!
PROOFS. The Crimp Sequencer outside RELEASE (O14) and its four timers (O16).
-/

namespace Sys2Proof.Machine

/-! ## A failure and the entry to RELEASE -/

theorem forceReading_eq (v : Int) : forceReading v = (max 0 (min 20000 v)).toNat := by
  unfold forceReading clampReading clampTo
  (repeat' split) <;> omega

theorem depthReading_eq (v : Int) : depthReading v = (max 0 (min 8000 v)).toNat := by
  unfold depthReading clampReading clampTo
  (repeat' split) <;> omega

/-- The condition set once the condition of a failure is in it (R29). -/
def failureFlags (f : CrimpFailure) (old : BitVec 16) : BitVec 16 :=
  match f with
  | .none => old
  | .noSeat => setCondition .crimpNoSeat old
  | .overforce => setCondition .crimpOverforce old
  | .timeout => setCondition .crimpTimeout old

theorem addFailureCondition_eq (f : CrimpFailure) (s : State) :
    addFailureCondition f s =
      onContext (fun c => { c with conditions := failureFlags f c.conditions }) s := by
  cases f
  case none => simp [addFailureCondition, onContext, failureFlags]
  all_goals rfl

theorem enterRelease_eq (s : State) :
    enterRelease s =
      { s with
        crimp :=
          { s.crimp with state := .release, finalDepth := s.crimp.lastDepth, timer := .release s.clock }
        context :=
          s.context.map
            (fun c => { c with crimp := c.crimp.map (fun p => { p with depth := s.crimp.lastDepth }) }) } := rfl

/-- A failure writes itself, its outcome and condition and CRIMP_BAD, and enters RELEASE (R29). -/
theorem failCrimp_eq (f : CrimpFailure) (s : State) :
    failCrimp f s =
      { s with
        crimp :=
          { s.crimp with
            state := .release, finalDepth := s.crimp.lastDepth, failure := f, timer := .release s.clock }
        context :=
          s.context.map
            (fun c =>
              { c with
                crimp := c.crimp.map (fun p => { p with outcome := failureOutcome f, depth := s.crimp.lastDepth })
                reasons := insertReason .crimpBad c.reasons
                conditions := failureFlags f c.conditions }) } := by
  simp [failCrimp, enterRelease_eq, addFailureCondition_eq, addReason, onCrimpPart, onContext, Function.comp_def]

/-! ## A sample in FORM -/

/-- The context of a sample read in FORM: the peak enters the crimp part (R26). -/
theorem readCrimpSample_eq {s : State} {c : CanContext} {p : CrimpPart} (hc : s.context = some c)
    (hp : c.crimp = some p) (force depth : Nat) :
    readCrimpSample force depth s =
      { s with
        crimp := { s.crimp with peak := max s.crimp.peak force, lastDepth := depth }
        context := some { c with crimp := some { p with peak := max s.crimp.peak force } } } := by
  simp [readCrimpSample, onCrimpPart, onContext, hc, hp]

/-- A sample in FORM judged by F_max, then D_target, then a T_dwell of 0 (R26, R28). -/
theorem sampleInForm_eq (force depth : Nat) (s : State) :
    sampleInForm force depth s =
      if s.params.maxForce ≤ force then failCrimp .overforce (readCrimpSample force depth s)
      else if s.params.targetDepth ≤ depth then
        if s.params.dwellTime = 0 then enterRelease (readCrimpSample force depth s)
        else setCrimp .dwell (.dwell s.clock) (readCrimpSample force depth s)
      else readCrimpSample force depth s := rfl

theorem takeCrimpSample_seat {s : State} (hs : s.crimp.state = .seat) (force depth : Nat) :
    takeCrimpSample force depth s =
      if s.params.seatForce ≤ force then setCrimp .form (.form s.clock) s else s := by
  simp only [takeCrimpSample, hs]

theorem takeCrimpSample_form {s : State} (hs : s.crimp.state = .form) (force depth : Nat) :
    takeCrimpSample force depth s = sampleInForm force depth s := by
  simp only [takeCrimpSample, hs]

theorem takeCrimpSample_dwell {s : State} (hs : s.crimp.state = .dwell) (force depth : Nat) :
    takeCrimpSample force depth s = readCrimpSample force depth s := by
  simp only [takeCrimpSample, hs]

/-- Settles O14: the sample by crimp state, and in FORM by F_max, D_target and a T_dwell of 0, in that order. -/
theorem crimpSampleSeatsAndForms : Obligations.CrimpSampleSeatsAndForms := by
  unfold Obligations.CrimpSampleSeatsAndForms
  refine ⟨fun force depth s => ⟨fun hs => ?_, fun hs => ?_, fun hs => ?_⟩, fun force depth s c p hs hc hp => ?_⟩
  · obtain hs | hs := hs <;> simp [exec_eq_effect, takeCrimpSample, hs]
  · have seats : (s.params.seatForce : Int) ≤ max 0 (min 20000 force) ↔ s.params.seatForce ≤ forceReading force := by
      rw [forceReading_eq]
      omega
    rw [exec_eq_effect, effect_crimpSample, takeCrimpSample_seat hs]
    simp only [seats]
    rfl
  · rw [exec_eq_effect, effect_crimpSample, takeCrimpSample_dwell hs, forceReading_eq, depthReading_eq]
    rfl
  · rw [exec_eq_effect, effect_crimpSample, takeCrimpSample_form hs, sampleInForm_eq, readCrimpSample_eq hc hp]
    simp only [failCrimp_eq, enterRelease_eq, forceReading_eq, depthReading_eq]
    rfl

/-! ## The four timers -/

/-- The timer that runs in a crimp state, started at `since` (R37). -/
def timerIn (c : CrimpState) (since : Nat) : CrimpTimer :=
  match c with
  | .seat => .seat since
  | .form => .form since
  | .dwell => .dwell since
  | .release => .release since
  | .idle | .done => .stopped

/-- The limit of the timer of a crimp state (R25, R27, R28, R30). -/
def timeIn (c : CrimpState) (p : Recipe) : Nat :=
  match c with
  | .seat => p.seatTime
  | .form => p.formTime
  | .dwell => p.dwellTime
  | .release => p.releaseTime
  | .idle | .done => 0

theorem crimpExpires_iff {c : CrimpState} (hc : c ≠ .idle ∧ c ≠ .done) (s : State) :
    s.crimpExpires c = true ↔
      s.crimp.state = c ∧ ∃ since, s.crimp.timer = timerIn c since ∧ since + timeIn c s.params * 500 ≤ s.clock := by
  cases c
  case idle => exact absurd rfl hc.1
  case done => exact absurd rfl hc.2
  all_goals cases ht : s.crimp.timer <;> simp [State.crimpExpires, timerIn, timeIn, ht]

theorem crimpExpires_due {c : CrimpState} {s : State} {since : Nat} (hc : c ≠ .idle ∧ c ≠ .done)
    (hs : s.crimp.state = c) (ht : s.crimp.timer = timerIn c since)
    (hd : since + timeIn c s.params * 500 ≤ s.clock) : s.crimpExpires c = true :=
  (crimpExpires_iff hc s).2 ⟨hs, since, ht, hd⟩

theorem crimpExpires_early {c : CrimpState} {s : State} (hc : c ≠ .idle ∧ c ≠ .done)
    (h : s.crimp.state ≠ c ∨ ∀ t, s.crimp.timer = timerIn c t → s.clock < t + timeIn c s.params * 500) :
    ¬s.crimpExpires c = true := by
  rw [crimpExpires_iff hc]
  rintro ⟨hs, since, ht, hd⟩
  exact h.elim (· hs) fun early => absurd hd (Nat.not_le.2 (early since ht))

/-! ## The jam -/

/-- The head with a jammed collet, before CRIMP_JAM is reported (R30). -/
def jammed (s : State) : State :=
  { s with
    crimp := { s.crimp with timer := .stopped }
    context :=
      s.context.map
        (fun c =>
          { c with
            crimp := c.crimp.map (fun _ => { outcome := .jam, peak := s.crimp.peak, depth := s.crimp.finalDepth })
            reasons := insertReason .crimpBad c.reasons
            conditions := failureFlags s.crimp.failure c.conditions }) }

theorem jamCrimp_eq (s : State) : jamCrimp s = reportF .crimpJam (jammed s) := by
  simp only [jamCrimp, addFailureCondition_eq, addReason, onCrimpPart, onContext, Option.map_map]
  rfl

/-! ## What the abandonment of a can leaves of its crimp -/

/-- The conditions and the crimp part of the open context. -/
def State.crimpTrace (s : State) : Option (BitVec 16 × Option CrimpPart) :=
  s.context.map (fun c => (c.conditions, c.crimp))

theorem crimpTrace_of_context {s t : State} (h : t.context = s.context) : t.crimpTrace = s.crimpTrace :=
  congrArg (Option.map _) h

theorem crimpTrace_onContext {f : CanContext → CanContext}
    (hf : ∀ c, (f c).conditions = c.conditions ∧ (f c).crimp = c.crimp) (s : State) :
    (onContext f s).crimpTrace = s.crimpTrace := by
  cases h : s.context <;> simp [State.crimpTrace, onContext, h, hf]

@[simp] theorem crimpTrace_addReason (r : Reason) (s : State) : (addReason r s).crimpTrace = s.crimpTrace :=
  crimpTrace_onContext (f := fun c => { c with reasons := insertReason r c.reasons }) (fun _ => ⟨rfl, rfl⟩) s

theorem crimpTrace_compareDose (s : State) : (compareDose s).crimpTrace = s.crimpTrace := by
  unfold compareDose
  (repeat' split) <;> simp

theorem crimpTrace_stopStage (s : State) : (stopStage s).crimpTrace = s.crimpTrace := by
  unfold stopStage
  split
  · exact crimpTrace_onContext (f := fun c => { c with gas := c.gas.map _ }) (fun _ => ⟨rfl, rfl⟩) s
  · exact crimpTrace_of_context (by simp)
  · exact crimpTrace_onContext (f := fun c => { c with check := c.check.map _ }) (fun _ => ⟨rfl, rfl⟩) s
  · rfl

theorem closeAfter_context {b : GasStage} {s : State} (hs : s.gas.stage ≠ .settle) :
    (closeAfter b s).context = s.context := by
  unfold closeAfter closeIfShut
  (repeat' split)
  · rfl
  · rw [valveClosed, startSettle_of_ne (by simpa using hs)]
    simp
  · rfl

/-- Gas abandoned in whatever stage writes no condition and leaves the crimp part (R95). -/
theorem crimpTrace_abandonGas (s : State) : (abandonGas s).crimpTrace = s.crimpTrace := by
  unfold abandonGas
  split
  · rfl
  · rw [crimpTrace_of_context (closeAfter_context (by simp))]
    exact (crimpTrace_compareDose _).trans (crimpTrace_stopStage s)

/-- A crimp abandoned in RELEASE holds the peak and the final depth (R33). -/
theorem crimpTrace_abandonCrimp {s : State} {c : CanContext} {p : CrimpPart} (hs : s.crimp.state = .release)
    (hc : s.context = some c) (hp : c.crimp = some p) :
    (abandonCrimp s).crimpTrace =
      some
        (c.conditions,
          some
            { outcome := if p.outcome = .jam then .jam else .abandoned
              peak := s.crimp.peak, depth := s.crimp.finalDepth }) := by
  simp [State.crimpTrace, abandonCrimp, hs, onCrimpPart, onContext, hc, hp]

/-! ## The entry to FAULTED of a head in RELEASE -/

theorem enterFaulted_cycle (s : State) :
    (enterFaulted s).cycle.silence = none ∧ (enterFaulted s).cycle.stopPending = false := by
  have abandoned (u : State) : (abandonContext u).cycle.silence = u.cycle.silence := by
    have kept := congrArg (·.silence) ((workKept_abandonCrimp u).trans (workKept_abandonGas _)).station
    unfold abandonContext
    split
    · simpa using kept
    · rfl
  have moved : (moveTo .faulted s).cycle.silence = none := by simp [moveTo, cycleAtMove]
  exact ⟨(abandoned _).trans moved, rfl⟩

/-- A head with a context leaves both sequencers in IDLE when it enters FAULTED (R6, R33, R95). -/
theorem enterFaulted_sequencers {s : State} {c : CanContext} (hc : s.context = some c)
    (hs : s.crimp.state = .release) :
    (enterFaulted s).crimp.state = .idle ∧ (enterFaulted s).crimp.timer = .stopped
      ∧ (enterFaulted s).gas.stage = .idle := by
  have hm : (moveTo .faulted s).context = some c := (moveTo_faulted_slots s).1.trans hc
  have timer : (abandonCrimp (moveTo .faulted s)).crimp.timer = .stopped := by simp [abandonCrimp, hs]
  simp [enterFaulted, abandonContext, hm, abandonGas_stage, timer]

/-- The record of a head that enters FAULTED in RELEASE holds the peak, the final depth and the conditions. -/
theorem enterFaulted_releaseRecord {s : State} {c : CanContext} {p : CrimpPart} (hc : s.context = some c)
    (hp : c.crimp = some p) (hs : s.crimp.state = .release) (hroom : s.result.queue.length < 8) :
    ∃ r, (enterFaulted s).result.queue = s.result.queue ++ [r]
      ∧ (r.reason, r.cycle, r.conditions, r.peak, r.depth) =
        (Reason.headFaulted, c.cycle, c.conditions, s.crimp.peak, s.crimp.finalDepth) := by
  have hm : (moveTo .faulted s).context = some c := (moveTo_faulted_slots s).1.trans hc
  obtain ⟨d, hd, cycle, reason⟩ := abandonContext_uncounted hm
  have trace := ((crimpTrace_addReason .headFaulted _).trans (crimpTrace_abandonGas _)).trans
    (crimpTrace_abandonCrimp (by simpa using hs) hm hp)
  have queue := (recordJoins_closeContext hd).appended (by simpa using hroom)
  refine ⟨_, by simpa [enterFaulted, abandonContext, hm] using queue, ?_⟩
  simp only [State.crimpTrace, hd, Option.map_some, Option.some.injEq, Prod.mk.injEq] at trace
  obtain ⟨conditions, part⟩ := trace
  simp [buildRecord, reason, cycle, conditions, part]

/-! ## CRIMP_JAM reported -/

/-- The head that enters FAULTED at a jam: CRIMP_JAM latched and its FAULT placed (R187, R188). -/
def jamPlaced (s : State) : State := placeFault .crimpJam (latch .crimpJam (jammed s))

theorem jamCrimp_run {s : State} (hr : s.cycle.station = .run) (hl : s.latched .crimpJam = false) :
    jamCrimp s = placeStatus (formAlert (enterFaulted (jamPlaced s))) := by
  rw [jamCrimp_eq, reportF_clear (c := .crimpJam) (by exact hl) nofun, if_pos]
  · rfl
  · exact congrArg movesToFaulted hr

theorem framed_jamCrimp (s : State) : (jamCrimp s).framed = s.framed := by
  rw [jamCrimp_eq, framed_reportF]
  rfl

theorem jamCrimp_fault {s : State} (hl : s.latched .crimpJam = false) :
    (jamCrimp s).latched .crimpJam = true ∧ (jamCrimp s).fault.alert = true := by
  have latched : isLatched .crimpJam (latchCell .crimpJam s.fault.latched) = true :=
    (isLatched_latchCell ..).trans (Bool.or_true _)
  have clear : (jammed s).latched .crimpJam = false := hl
  rw [State.latched, jamCrimp_eq, reportF_fault clear nofun]
  exact ⟨latched, Bool.or_eq_true_iff.2 (.inl (classF_cell_any rfl latched))⟩

/-- Settles O16: each timer in its own state at its limit, and the jam that T_rel finds in RELEASE. -/
theorem crimpTimersEndTheirStates : Obligations.CrimpTimersEndTheirStates := by
  unfold Obligations.CrimpTimersEndTheirStates
  refine ⟨fun s since => ⟨fun hs ht hd => ?_, fun hs ht hd => ?_, fun hs ht hd => ?_, fun h => ?_, fun h => ?_,
    fun h => ?_⟩, fun s c since => ⟨fun h => ?_, fun hs ht hd => ⟨fun hl => ?_, fun hc hr hl hp hroom => ?_⟩⟩⟩
  all_goals rw [exec_eq_effect]
  · rw [effect_tSeatExpiry, if_pos (crimpExpires_due (c := .seat) (by decide) hs ht hd), failCrimp_eq]
    rfl
  · rw [effect_tFormExpiry, if_pos (crimpExpires_due (c := .form) (by decide) hs ht hd), failCrimp_eq]
    rfl
  · rw [effect_tDwellExpiry, if_pos (crimpExpires_due (c := .dwell) (by decide) hs ht hd), enterRelease_eq]
  · rw [effect_tSeatExpiry, if_neg (crimpExpires_early (c := .seat) (by decide) h)]
  · rw [effect_tFormExpiry, if_neg (crimpExpires_early (c := .form) (by decide) h)]
  · rw [effect_tDwellExpiry, if_neg (crimpExpires_early (c := .dwell) (by decide) h)]
  · rw [effect_tRelExpiry, if_neg (crimpExpires_early (c := .release) (by decide) h)]
  · rw [effect_tRelExpiry, if_pos (crimpExpires_due (c := .release) (by decide) hs ht hd), jamCrimp_eq,
      reportF_latched (by exact hl)]
    rfl
  · rw [effect_tRelExpiry, if_pos (crimpExpires_due (c := .release) (by decide) hs ht hd)]
    obtain ⟨p, hp⟩ := Option.isSome_iff_exists.1 hp
    have context : (jamPlaced s).context = (jammed s).context := rfl
    have part : (jammed s).context = some
        { c with
          crimp := some { outcome := .jam, peak := s.crimp.peak, depth := s.crimp.finalDepth }
          reasons := insertReason .crimpBad c.reasons
          conditions := failureFlags s.crimp.failure c.conditions } := by simp [jammed, hc, hp]
    obtain ⟨latched, alert⟩ := jamCrimp_fault hl
    obtain ⟨silence, stop⟩ := enterFaulted_cycle (jamPlaced s)
    obtain ⟨crimp, timer, gas⟩ := enterFaulted_sequencers (context.trans part) hs
    obtain ⟨r, queue, figures⟩ := enterFaulted_releaseRecord (context.trans part) rfl hs hroom
    have rejectRun := (enterFaulted_fault (jamPlaced s)).2
    refine ⟨_, rfl, latched, alert, ?_, ?_, ?_, ?_, ?_, ?_, ?_, ?_, ?_, ?_, fun hempty => ?_,
      headFrame_of_framed (framed_jamCrimp s) ?_⟩
    all_goals simp only [jamCrimp_run hr hl, placeStatus_keeps, formAlert_keeps]
    · simp
    · simp
    · simp
    · exact stop
    · exact silence
    · exact crimp
    · exact timer
    · exact gas
    · rw [queue, List.getLast?_concat]
      rfl
    · rw [queue, List.getLast?_concat]
      exact congrArg some figures
    · simp [jamPlaced, placeFault, faultPlace, latch, jammed, hempty, State.zoneByte]
    · exact rejectRun

end Sys2Proof.Machine
end

section
/-!
PROOFS. The scan of the two transducers (O3) and the bits of the sensor link (O4).
-/

namespace Sys2Proof.Machine

/-! ## The scan -/

theorem periodStarts_iff (s : State) : s.periodStarts = true ↔ s.clock % 250 = 0 := by
  simp [State.periodStarts, Config.ticksPerSample]

/-- A pair begins at the start of a period, in PARKED only 8 ms after the last one (R40, R41). -/
theorem pairBegins_iff (s : State) :
    s.pairBegins = true ↔
      250 ∣ s.clock
        ∧ (s.cycle.station = .parked → ∀ p, s.sensor.lastPair = some p → p + 16 * 250 ≤ s.clock) := by
  rw [State.pairBegins, Bool.and_eq_true, periodStarts_iff, Nat.dvd_iff_mod_eq_zero]
  refine and_congr_right fun _ => ?_
  rw [Bool.or_eq_true, or_iff_not_imp_left]
  cases hp : s.sensor.lastPair with
  | none => simp
  | some t =>
    simp only [Option.some.injEq, forall_eq', bne_iff_ne, ne_eq, not_not, decide_eq_true_iff]
    rfl

/-- The bell transaction begins 0.25 ms after the start of its pair (R40). -/
theorem bellBegins_iff (s : State) :
    s.bellBegins = true ↔ ∃ p, s.sensor.lastPair = some p ∧ s.clock = p + 125 := by
  cases hp : s.sensor.lastPair <;> simp [State.bellBegins, hp, Config.bellDelay]

theorem startScan_scan (s : State) : (startScan s).sensor.scan = s.rateNow := by
  obtain ⟨-, h⟩ | ⟨-, -, h⟩ | ⟨-, -, h⟩ := startScan_cases s <;> rw [h]

/-- RESET begins the clock afresh, with no transaction in progress and no pair made (R38). -/
theorem effect_reset_scan (straps : StationNo) (s : State) :
    (effect (.reset straps) s).clock = 0 ∧ (effect (.reset straps) s).sensor.transaction = none
      ∧ (effect (.reset straps) s).sensor.lastPair = none := by
  rw [effect_reset]
  dsimp only
  split <;> simp [State.reset]

/-- A channel's SENSOR_TRANSACTION_END ends the transaction in progress, and the last pair's start stays. -/
theorem endTransaction_ends {s : State} {ch : Channel} {b : Nat} {made : Bool} (r : SensorReply)
    (h : s.sensor.transaction = some { channel := ch, since := b, startMade := made }) :
    (endTransaction ch r s).sensor.transaction = none := by
  rw [endTransaction_of_some r s ch b made h]
  cases ch <;> simp

/-- Settles O3: what the scan begins at a tick, case by case, and what drops or ends a transaction. -/
theorem scanMakesItsPairs : Obligations.ScanMakesItsPairs := by
  unfold Obligations.ScanMakesItsPairs
  intro s
  refine ⟨⟨_, rfl, ?_⟩, fun straps => ⟨_, exec_eq_effect .., effect_reset_scan straps s⟩,
    fun ch b made r h => ⟨_, exec_eq_effect .., endTransaction_ends r h, by simp⟩⟩
  have scanned : (tick { s with pending := [] }).sensor = (startScan s).sensor := rfl
  rw [scanned, startScan_scan, ← pairBegins_iff]
  refine ⟨fun hp => ?_, fun hp => ?_, fun hp p hl hc => ?_, fun hp hc => ?_, fun hs => ?_, fun hs => ?_⟩
  · obtain ⟨-, h⟩ | ⟨hn, -⟩ | ⟨hn, -⟩ := startScan_cases s
    · rw [h]
      exact ⟨rfl, rfl⟩
    · simp [hn] at hp
    · simp [hn] at hp
  · obtain ⟨hb, -⟩ | ⟨-, -, h⟩ | ⟨-, -, h⟩ := startScan_cases s
    · exact absurd hb hp
    · rw [h]
    · rw [h]
  · have hb : s.bellBegins = true := (bellBegins_iff s).2 ⟨p, hl, hc⟩
    obtain ⟨hb', -⟩ | ⟨-, -, h⟩ | ⟨-, hn, -⟩ := startScan_cases s
    · exact absurd hb' hp
    · rw [h]
      rfl
    · simp [hn] at hb
  · obtain ⟨hb', -⟩ | ⟨-, hb, -⟩ | ⟨-, -, h⟩ := startScan_cases s
    · exact absurd hb' hp
    · obtain ⟨p, hl, hp'⟩ := (bellBegins_iff s).1 hb
      exact absurd hp' (hc p hl)
    · rw [h]
  · exact if_pos hs
  · rw [State.rateNow, if_neg hs]
    exact if_congr (periodStarts_iff s) rfl rfl

/-! ## The bits of the link -/

theorem numberOf_append (a b : List Bool) : numberOf (a ++ b) = numberOf a * 2 ^ b.length + numberOf b := by
  have fold (l : List Bool) : ∀ n, l.foldl (fun n b => 2 * n + b.toNat) n = n * 2 ^ l.length + numberOf l := by
    induction l with
    | nil => simp [numberOf]
    | cons x l ih =>
      intro n
      have first : numberOf (x :: l) = (2 * 0 + x.toNat) * 2 ^ l.length + numberOf l := ih _
      rw [List.foldl_cons, ih, first, List.length_cons]
      ring
  rw [numberOf, List.foldl_append, fold]
  rfl

/-- A number's low bits, read back from their list. -/
theorem numberOf_bitsOf (v w : Nat) : numberOf (bitsOf v w) = v % 2 ^ w := by
  induction w with
  | zero => simp [bitsOf, numberOf, Nat.mod_one]
  | succ w ih =>
    have h : bitsOf v (w + 1) = [v.testBit w] ++ bitsOf v w := rfl
    rw [h, numberOf_append, ih, length_bitsOf, Nat.mod_pow_succ]
    simp [numberOf, Nat.toNat_testBit, Nat.add_comm, Nat.mul_comm]

theorem linkLevels_length (ch : Channel) (word : BitVec 16) :
    (linkLevels (portBits ch) (transducerBits word)).length = 27 := by
  cases ch <;> rfl

/-- The ninth clock, released by the port, shows the transducer's acknowledgement (R39). -/
theorem linkLevels_acknowledge (ch : Channel) (word : BitVec 16) :
    (linkLevels (portBits ch) (transducerBits word)).getD 8 true = false := by
  cases ch <;> rfl

/-- The clocks of the two reply bytes, released by the port, show the reply's bits (R39). -/
theorem linkLevels_bytes (ch : Channel) (word : BitVec 16) :
    ((linkLevels (portBits ch) (transducerBits word)).drop 9).take 8
        ++ ((linkLevels (portBits ch) (transducerBits word)).drop 18).take 8 = bitsOf word.toNat 16 := by
  cases ch <;> rfl

/-- A transducer's reply of any word reads back. -/
theorem readLink_reply (ch : Channel) (word : BitVec 16) :
    readLink true (linkLevels (portBits ch) (transducerBits word)) true =
      { startMade := true, acknowledged := true, complete := true, stopMade := true, word := word } := by
  have low : BitVec.ofNat 16 (word.toNat % 2 ^ 16) = word :=
    BitVec.eq_of_toNat_eq (by rw [BitVec.toNat_ofNat, Nat.mod_mod, Nat.mod_eq_of_lt word.isLt])
  simp only [readLink, linkLevels_length, linkLevels_acknowledge, linkLevels_bytes, numberOf_bitsOf, low]
  rfl

/-- The port's phases: the start, two for each of the 27 clocks, and the stop (R39). -/
theorem portPhases_clock (ch : Channel) (i : Nat) (hi : i < 27) :
    (portPhases ch)[2 * i + 1]? = ((portBits ch)[i]?).map (fun b => { scl := false, sda := b })
      ∧ (portPhases ch)[2 * i + 2]? = ((portBits ch)[i]?).map (fun b => { scl := true, sda := b }) := by
  have clocks : ∀ (l : List Bool) (i : Nat) (rest : List LinkPhase), i < l.length →
      (l.flatMap clockPhases ++ rest)[2 * i]? = l[i]?.map (fun b => { scl := false, sda := b })
        ∧ (l.flatMap clockPhases ++ rest)[2 * i + 1]? = l[i]?.map (fun b => { scl := true, sda := b }) := by
    intro l
    induction l with
    | nil => intro i rest h; simp at h
    | cons b l ih =>
      intro i rest h
      cases i with
      | zero => simp [clockPhases]
      | succ i => simpa [clockPhases, Nat.mul_succ] using ih i rest (by simpa using h)
  simpa [portPhases] using clocks (portBits ch) i (clockPhases false) (by simpa using hi)

/-- In a transaction whose start was made the port drives the phase of the 2.5 µs grid that the clock has reached. -/
theorem linkDrive_of_made {s : State} {ch : Channel} {b d : Nat}
    (h : s.sensor.transaction = some { channel := ch, since := b, startMade := true }) (hc : s.clock = b + d) :
    s.linkDrive = ((portPhases ch)[4 * d / 5]?).getD { scl := true, sda := true } := by
  simp [State.linkDrive, h, hc, linkIdle, Nat.mul_comm]

/-- A link without its start, acknowledgement, clocks in time or stop is a miss (R42). -/
theorem replyGood_readLink_missed {before after : Bool} {levels : List Bool}
    (h : before = false ∨ levels.getD 8 true = true ∨ levels.length < 27 ∨ after = false) :
    replyGood (readLink before levels after) = false := by
  obtain h | h | h | h := h <;> simp [replyGood, readLink, -List.getD_eq_getElem?_getD, h]

/-- A missed transaction keeps the reading and counts a miss up to 3 (R42, R43). -/
theorem channelAfter_missed {r : SensorReply} (h : replyGood r = false) (c : ChannelState) :
    (channelAfter r c).reading = c.reading ∧ (channelAfter r c).misses = min 3 (c.misses + 1) := by
  rw [channelAfter, if_neg (by simp [h])]
  refine ⟨rfl, ?_⟩
  dsimp only
  split <;> omega

theorem endHeaderTransaction_header (r : SensorReply) (s : State) :
    (endHeaderTransaction r s).sensor.header = channelAfter r s.sensor.header := by
  simp [endHeaderTransaction]

theorem endBellTransaction_bell (r : SensorReply) (s : State) :
    (endBellTransaction r s).sensor.bell = channelAfter r s.sensor.bell := by
  unfold endBellTransaction
  dsimp only
  split <;> simp

/-- Settles O4: the port's bits and phases, the reply read back, and the misses. -/
theorem linkBitsReadBack : Obligations.LinkBitsReadBack := by
  unfold Obligations.LinkBitsReadBack
  refine ⟨fun ch => ⟨?_, ?_, ?_, ?_, portPhases_clock ch⟩, readLink_reply,
    fun _ _ _ => replyGood_readLink_missed, fun s => ⟨linkDrive_of_none s, fun _ _ _ => linkDrive_of_made,
      fun _ _ h => linkDrive_of_not_made s _ h rfl, fun ch b reply h => ?_, fun straps => ?_⟩⟩
  · cases ch <;> decide
  · cases ch <;> rfl
  · rfl
  · cases ch <;> rfl
  · refine ⟨_, exec_eq_effect .., ?_⟩
    have missed : replyGood (takenReply false reply) = false := by simp
    rw [effect_sensorTransactionEnd, endTransaction_of_some reply s ch b false h]
    cases ch with
    | header => simpa [endHeaderTransaction_header] using channelAfter_missed missed s.sensor.header
    | bell => simpa [endBellTransaction_bell] using channelAfter_missed missed s.sensor.bell
  · exact ⟨_, exec_eq_effect .., linkDrive_of_none _ (effect_reset_scan straps s).2.1⟩

end Sys2Proof.Machine
end

section
/-!
PROOFS. A sensor transaction taken by the port (O17): its channel, the sample a bell transaction completes, and what the
sample's readers and the losses reported after it leave.
-/

namespace Sys2Proof.Machine

/-! ## The reply -/

theorem onesBelow_eq (x : Nat) : ∀ n, onesBelow x n = (List.range n).countP (fun i => x.testBit i)
  | 0 => rfl
  | n + 1 => by
    rw [onesBelow, onesBelow_eq x n, List.range_succ, List.countP_append, List.countP_singleton]

/-- The parity of a reply is that of its top thirteen bits (R42). -/
theorem parityEven_eq (w : BitVec 16) :
    parityEven w = decide (((List.range 13).countP (fun i => w.getLsbD (i + 3))) % 2 = 0) := by
  have bit (i : Nat) : (w.toNat / 8).testBit i = w.getLsbD (i + 3) := by
    rw [show 8 = 2 ^ 3 from rfl, Nat.testBit_div_two_pow]
    rfl
  rw [parityEven, onesBelow_eq]
  simp only [bit, beq_eq_decide]

theorem replyGood_eq (r : SensorReply) :
    replyGood r =
      (r.startMade && r.stopMade && r.acknowledged && r.complete
        && decide (((List.range 13).countP (fun i => r.word.getLsbD (i + 3))) % 2 = 0)) := by
  rw [replyGood, parityEven_eq]
  cases r.stopMade <;> simp

theorem replyReading_eq (r : SensorReply) : replyReading r = r.word.extractLsb' 4 12 :=
  BitVec.eq_of_toNat_eq (by simp [replyReading, BitVec.extractLsb'_toNat, Nat.shiftRight_eq_div_pow])

/-- A channel after its transaction (R42, R43). -/
theorem channelAfter_eq (r : SensorReply) (c : ChannelState) :
    channelAfter r c =
      if replyGood r then { reading := r.word.extractLsb' 4 12, validity := .valid, misses := 0 }
      else
        { reading := c.reading, validity := if 2 ≤ c.misses then .stale else c.validity
          misses := min 3 (c.misses + 1) } := by
  have misses : (if c.misses < 3 then c.misses + 1 else 3) = min 3 (c.misses + 1) := by split <;> omega
  have third : min 3 (c.misses + 1) = 3 ↔ 2 ≤ c.misses := by omega
  simp only [channelAfter, replyReading_eq, misses, third]

theorem reading_of_good {r : SensorReply} (h : replyGood r = true) (c : ChannelState) :
    (channelAfter r c).reading = r.word.extractLsb' 4 12 := by
  rw [channelAfter_eq, if_pos h]

/-! ## The sample -/

theorem clampReading_eq (high : Nat) (v : Int) : clampReading high v = (max 0 (min (high : Int) v)).toNat := by
  unfold clampReading clampTo
  (repeat' split) <;> omega

theorem correctedPh_eq (reading : BitVec 12) : correctedPh reading = min 4095 (reading.toNat + 101) := by
  unfold correctedPh clampTo Config.maxPressure Config.atmosphere
  (repeat' split) <;> omega

/-- The sample formed from the readings held (R46). -/
theorem formSample_eq (p : SensorUnit) :
    formSample p =
      { ph := min 4095 (p.header.reading.toNat + 101)
        pc := (max 0 (min 4095 ((p.bell.reading.toNat : Int) - p.zeroOffset + 101))).toNat
        header := p.header.validity, bell := p.bell.validity
        pcClamped :=
          if (p.bell.reading.toNat : Int) - p.zeroOffset + 101 < 0 then .low
          else if 4095 < (p.bell.reading.toNat : Int) - p.zeroOffset + 101 then .high
          else .no } := by
  simp only [formSample, correctedPh_eq, correctedPc, clampReading_eq, pcClampMark]
  rfl

theorem sampleUsable_formSample (p : SensorUnit) :
    sampleUsable (formSample p) = true ↔ p.header.validity = .valid ∧ p.bell.validity = .valid := by
  simp [sampleUsable, formSample]

/-! ## A bell transaction up to its sample -/

/-- The head with the bell's channel set and a zeroing's reading kept, before the sample is formed (R42, R49). -/
def bellSet (r : SensorReply) (s : State) : State :=
  { s with
    sensor :=
      { s.sensor with
        bell := channelAfter r s.sensor.bell
        zeroSamples :=
          if s.sensor.zeroing = .idle ∨ replyGood r = false then s.sensor.zeroSamples
          else (s.sensor.zeroSamples ++ [r.word.extractLsb' 4 12]).drop (s.sensor.zeroSamples.length - 15) }
    line :=
      if s.sensor.bell.validity = (channelAfter r s.sensor.bell).validity then s.line else statusPlaced s.line }

theorem statusIfChanged_eq (a b : Validity) (s : State) :
    statusIfChanged a b s = { s with line := if a = b then s.line else statusPlaced s.line } := by
  unfold statusIfChanged
  split <;> rfl

theorem keepReadings_eq (samples : List (BitVec 12)) (reading : BitVec 12) :
    keepReadings samples reading = (samples ++ [reading]).drop (samples.length - 15) := by
  simp [keepReadings, Config.zeroingReadings]

theorem collectReading_eq (r : SensorReply) (s : State) :
    collectReading r s =
      { s with
        sensor :=
          { s.sensor with
            zeroSamples :=
              if s.sensor.zeroing = .idle ∨ replyGood r = false then s.sensor.zeroSamples
              else
                (s.sensor.zeroSamples ++ [r.word.extractLsb' 4 12]).drop (s.sensor.zeroSamples.length - 15) } } := by
  unfold collectReading
  split
  · next hz => rw [if_pos (.inl hz)]
  · next hz =>
    cases hg : replyGood r with
    | true => simp [hz, keepReadings_eq, replyReading_eq]
    | false => rw [if_neg Bool.false_ne_true, if_pos (.inr rfl)]

theorem bellSampled_eq (r : SensorReply) (s : State) : bellSampled r s = handSample (bellSet r s) := by
  rw [bellSampled, statusIfChanged_eq, collectReading_eq]
  rfl

/-- The head with the sample formed from the readings held (R46). -/
def withSample (s : State) : State := { s with sensor := { s.sensor with sample := formSample s.sensor } }

/-- The head once the Dose Unit has formed the sample's drive term (R48, R56, R68). -/
def sampleFormed (s : State) : State := formDrive (noteClamped (withSample s))

theorem handSample_eq (s : State) : handSample s = watermarkTest (gasTakesSample (countSample (sampleFormed s))) := rfl

@[simp] theorem sampleFormed_keeps (s : State) :
    (sampleFormed s).sensor = { s.sensor with sample := formSample s.sensor }
      ∧ (sampleFormed s).pending = s.pending ∧ (sampleFormed s).clock = s.clock
      ∧ (sampleFormed s).gasFb = s.gasFb ∧ (sampleFormed s).cycle = s.cycle
      ∧ (sampleFormed s).crimp = s.crimp ∧ (sampleFormed s).gas = s.gas ∧ (sampleFormed s).line = s.line
      ∧ (sampleFormed s).draw = s.draw ∧ (sampleFormed s).hold = s.hold ∧ (sampleFormed s).result = s.result
      ∧ (sampleFormed s).recipe = s.recipe ∧ (sampleFormed s).fault = s.fault := by
  simp [sampleFormed, withSample]

/-- Without a usable sample there is neither drive term nor rate (R56). -/
theorem formDrive_unusable {s : State} (h : sampleUsable s.sensor.sample = false) :
    formDrive s = { s with dose := { s.dose with drive := none, rate := none } } := by
  simp [formDrive, h]

/-- The drive term and the rate of a usable sample outside LOADING (R56, R68). -/
theorem formDrive_usable {s : State} (h : sampleUsable s.sensor.sample = true) (hl : s.cycle.station ≠ .loading) :
    formDrive s =
      { s with
        dose :=
          { s.dose with
            drive := some (driveTerm s.sensor.sample.ph s.sensor.sample.pc)
            rate := some (s.params.coefficient * driveTerm s.sensor.sample.ph s.sensor.sample.pc / 4096) } } := by
  simp [formDrive, h, hl, predictedRate, Config.remainderUnits]

theorem formDrive_drive {s : State} (h : sampleUsable s.sensor.sample = true) :
    (formDrive s).dose.drive = some (driveTerm s.sensor.sample.ph s.sensor.sample.pc) := by
  simp only [formDrive, if_pos h]
  split <;> rfl

section
variable {s : State}

theorem sampleFormed_drive (h : s.sensor.header.validity = .valid ∧ s.sensor.bell.validity = .valid) :
    (sampleFormed s).dose.drive = some (driveTerm (formSample s.sensor).ph (formSample s.sensor).pc) := by
  rw [sampleFormed, formDrive_drive (by simpa [withSample] using (sampleUsable_formSample s.sensor).2 h)]
  simp [withSample]

/-- The dose figures of a usable sample outside LOADING. -/
theorem sampleFormed_usable (h : s.sensor.header.validity = .valid ∧ s.sensor.bell.validity = .valid)
    (hl : s.cycle.station ≠ .loading) :
    (sampleFormed s).dose =
        { s.dose with
          drive := some (driveTerm (formSample s.sensor).ph (formSample s.sensor).pc)
          rate :=
            some (s.params.coefficient * driveTerm (formSample s.sensor).ph (formSample s.sensor).pc / 4096) }
      ∧ (sampleFormed s).freeCount = s.freeCount := by
  rw [sampleFormed, formDrive_usable (by simpa [withSample] using (sampleUsable_formSample s.sensor).2 h)
    (by simpa [withSample] using hl)]
  simp [withSample, State.params]

/-- The dose figures of a sample without a usable channel. -/
theorem sampleFormed_unusable (h : ¬(s.sensor.header.validity = .valid ∧ s.sensor.bell.validity = .valid)) :
    (sampleFormed s).dose = { s.dose with drive := none, rate := none }
      ∧ (sampleFormed s).freeCount = s.freeCount := by
  have unusable : sampleUsable (formSample s.sensor) = false :=
    Bool.eq_false_iff.2 fun hu => h ((sampleUsable_formSample _).1 hu)
  rw [sampleFormed, formDrive_unusable (by simpa [withSample] using unusable)]
  simp [withSample]

end

/-! ## What the readers of a sample leave -/

theorem workKept_setStage (g : GasStage) (s : State) : WorkKept s (setStage g s) := .of_context rfl rfl rfl rfl rfl

theorem workKept_takeBack (s : State) : WorkKept s (takeBack s) := workKept_onGasPart ..

theorem workKept_deadPulse (s : State) : WorkKept s (deadPulse s) := by
  have struck : WorkKept s (addCondition .strike
      (onGasPart (fun g => { g with strikes := g.strikes - 1 }) (takeBack (endPulse .dead s)))) :=
    (((workKept_endPulse .dead s).trans (workKept_takeBack _)).trans (workKept_onGasPart ..)).trans
      (workKept_addCondition ..)
  unfold deadPulse
  dsimp only
  split
  · exact (struck.trans (workKept_setStage ..)).trans (workKept_closeIfShut _)
  · refine ((struck.trans (workKept_addReason ?_ _)).trans (workKept_endGassing _)).trans (workKept_closeIfShut _)
    split <;> decide

theorem workKept_judgePulse (s : State) : WorkKept s (judgePulse s) := by
  unfold judgePulse
  split
  · exact workKept_deadPulse s
  · exact ((workKept_endPulse .good s).trans (workKept_setStage ..)).trans (workKept_closeIfShut _)

theorem workKept_stopStage (s : State) : WorkKept s (stopStage s) := by
  unfold stopStage
  split
  · exact workKept_endPulse ..
  · exact workKept_cancelClaim s
  · exact workKept_cutCheckPart s
  · exact .refl s

theorem workKept_loseSensor (s : State) : WorkKept s (loseSensor s) := by
  have closed (b : GasStage) (u : State) : WorkKept u (closeAfter b u) := by
    unfold closeAfter
    split
    · exact workKept_closeIfShut u
    · exact .refl u
  exact (((workKept_stopStage s).trans (workKept_addReason (by decide) _)).trans (workKept_enterEnded _)).trans
    (closed ..)

theorem workKept_noteHold (s : State) : WorkKept s (noteHold s) := by
  unfold noteHold
  split
  · exact .refl s
  · exact workKept_addCondition ..

theorem workKept_gasTakesSample (s : State) : WorkKept s (gasTakesSample s) := by
  have lost (p : Prop) [Decidable p] {t : State} (h : WorkKept s t) : WorkKept s (if p then t else loseSensor t) := by
    split
    · exact h
    · exact h.trans (workKept_loseSensor t)
  unfold gasTakesSample
  dsimp only
  split
  · split
    · exact workKept_decideInPlan s
    · exact workKept_loseSensor s
  · exact lost _ (workKept_noteHold s)
  · split
    · split
      · exact workKept_judgePulse s
      · exact .refl s
    · exact workKept_loseSensor s
  · exact lost _ (.refl s)
  · exact lost _ (.refl s)
  · exact .refl s

@[simp] theorem framed_gasTakesSample (s : State) : (gasTakesSample s).framed = s.framed :=
  (workKept_gasTakesSample s).frame

@[simp] theorem framed_testAssertion (s : State) : (testAssertion s).framed = s.framed := by
  unfold testAssertion
  split
  · rw [framed_retest]
    rfl
  · rfl

@[simp] theorem framed_watermarkTest (s : State) : (watermarkTest s).framed = s.framed := by
  unfold watermarkTest
  dsimp only
  (repeat' split) <;> simp

/-- A frame without what the end of a bell transaction sets: the transaction, the bell channel, the sample, the
header's loss, the drive term and rate, the counts of a pulse and the free counter. -/
def State.apartFromSample (s : State) : State :=
  { s.framed with
    freeCount := 0
    sensor :=
      { s.framed.sensor with
        transaction := none, bell := State.reset.sensor.bell, sample := State.reset.sensor.sample
        headerLostDue := false }
    dose := { s.framed.dose with drive := none, rate := none, elapsed := 0, credited := 0 } }

theorem apartFromSample_of_framed {s t : State} (h : t.framed = s.framed) :
    t.apartFromSample = s.apartFromSample := by
  simp only [State.apartFromSample, h]

theorem apartFromSample_countSample (s : State) : (countSample s).apartFromSample = s.apartFromSample := by
  have credited (f : Nat) (u : State) : (creditSample f u).framed = u.framed := by
    unfold creditSample
    dsimp only
    (repeat' split) <;> rfl
  unfold countSample
  dsimp only
  (repeat' split)
  · rw [apartFromSample_of_framed (credited _ _)]
    rfl
  · rfl
  · rfl

theorem apartFromSample_sampleFormed (s : State) : (sampleFormed s).apartFromSample = s.apartFromSample := by
  have clamped (u : State) : (noteClamped u).framed = u.framed := by
    unfold noteClamped
    split <;> rfl
  have formed (u : State) : (formDrive u).apartFromSample = u.apartFromSample := by
    unfold formDrive
    dsimp only
    (repeat' split) <;> rfl
  rw [sampleFormed, formed, apartFromSample_of_framed (clamped _)]
  rfl

theorem apartFromSample_bellSampled (r : SensorReply) (s : State) :
    (bellSampled r s).apartFromSample = s.apartFromSample := by
  have set : (bellSet r s).apartFromSample = s.apartFromSample := by
    simp only [State.apartFromSample, State.framed, bellSet]
    split <;> rfl
  rw [bellSampled_eq, handSample_eq, apartFromSample_of_framed (framed_watermarkTest _),
    apartFromSample_of_framed (framed_gasTakesSample _), apartFromSample_countSample, apartFromSample_sampleFormed, set]

/-! ## The losses reported after the sample -/

/-- What the sample's readers leave, and the reports of the channels' losses keep, holds once the transaction has
ended. -/
theorem endBellTransaction_of {P : State → Prop} {r : SensorReply} {s : State} (sampled : P (bellSampled r s))
    (reported : ∀ c u, c ≠ .lineDead → P u → P (reportF c u))
    (taken : ∀ u : State, P u → P { u with sensor := { u.sensor with headerLostDue := false } }) :
    P (endBellTransaction r s) := by
  have header : P (reportHeaderLost (bellSampled r s)) := by
    unfold reportHeaderLost
    split
    · exact reported _ _ nofun (taken _ sampled)
    · exact sampled
  rw [endBellTransaction_sampled]
  split
  · exact reported _ _ nofun header
  · exact header

theorem reportF_rejectRun {c : Cell} (hc : c ≠ .lineDead) (s : State) :
    (reportF c s).result.rejectRun = s.result.rejectRun := by
  cases hl : s.latched c with
  | true =>
    rw [reportF_latched hl]
    split <;> rfl
  | false =>
    rw [reportF_clear hl hc]
    split
    · exact (enterFaulted_fault (placeFault c (latch c s))).2
    · rfl

theorem enterFaulted_zeroing (s : State) : (enterFaulted s).sensor.zeroing = .idle := by
  unfold enterFaulted endGrant
  dsimp only
  split
  · assumption
  · rfl

/-- A zeroing that goes on through a report keeps its readings. -/
theorem reportF_zeroing {c : Cell} (hc : c ≠ .lineDead) {s : State} (hz : (reportF c s).sensor.zeroing ≠ .idle) :
    (reportF c s).sensor = s.sensor := by
  cases hl : s.latched c with
  | true =>
    rw [reportF_latched hl]
    split <;> rfl
  | false =>
    rw [reportF_clear hl hc] at hz ⊢
    cases hm : movesToFaulted s.cycle.station with
    | true => exact absurd (by simpa [hm] using enterFaulted_zeroing (placeFault c (latch c s))) hz
    | false => rfl

theorem reportHeaderLost_due (s : State) : (reportHeaderLost s).sensor.headerLostDue = false := by
  have frame (c : Cell) (u : State) : (reportF c u).sensor.headerLostDue = u.sensor.headerLostDue :=
    congrArg (·.sensor.headerLostDue) (framed_reportF c u)
  unfold reportHeaderLost
  split
  · rw [frame]
  · next h => simpa using h

/-! ## The end of a transaction -/

/-- The head after the end of a bell transaction whose start was made or not. -/
def bellEnded (made : Bool) (reply : SensorReply) (s : State) : State :=
  parkTest (endBellTransaction (takenReply made reply) (transactionEnded s))

theorem effect_bellEnd {made : Bool} {begun : Nat} {s : State} (reply : SensorReply)
    (h : s.sensor.transaction = some { channel := .bell, since := begun, startMade := made }) :
    effect (.sensorTransactionEnd .bell reply) s = bellEnded made reply s :=
  endTransaction_of_some reply s .bell begun made h

theorem headFrame_of_apartFromSample {s t : State} (h : t.apartFromSample = s.apartFromSample)
    (hr : t.result.rejectRun = s.result.rejectRun) :
    HeadFrame
      { s with
        freeCount := t.freeCount
        sensor :=
          { s.sensor with
            transaction := t.sensor.transaction, bell := t.sensor.bell, sample := t.sensor.sample
            headerLostDue := t.sensor.headerLostDue }
        dose :=
          { s.dose with
            drive := t.dose.drive, rate := t.dose.rate, elapsed := t.dose.elapsed
            credited := t.dose.credited } } t := by
  simp only [State.apartFromSample, State.framed, State.mk.injEq, CycleUnit.mk.injEq, CrimpUnit.mk.injEq,
    SensorUnit.mk.injEq, DoseUnit.mk.injEq, GasUnit.mk.injEq, LineUnit.mk.injEq, DrawUnit.mk.injEq,
    ResultUnit.mk.injEq, FaultUnit.mk.injEq] at h
  constructor <;> simp_all

/-- The channels, the sample, its drive term and rate and the free counter: what is settled once the sample is formed. -/
def State.figures (s : State) : ChannelState × ChannelState × Sample × Option Nat × Option Nat × Nat :=
  (s.sensor.header, s.sensor.bell, s.sensor.sample, s.dose.drive, s.dose.rate, s.freeCount)

theorem figures_of_framed {s t : State} (h : t.framed = s.framed) : t.figures = s.figures :=
  show t.framed.figures = s.framed.figures from by rw [h]

theorem figures_bellEnded (made : Bool) (reply : SensorReply) (s : State) :
    (bellEnded made reply s).figures =
      (sampleFormed (bellSet (takenReply made reply) (transactionEnded s))).figures := by
  have counted (u : State) : (countSample u).figures = u.figures := by
    have credited (f : Nat) (v : State) : (creditSample f v).figures = v.figures := by simp [State.figures]
    unfold countSample
    dsimp only
    (repeat' split)
    · exact credited ..
    · rfl
    · rfl
  rw [bellEnded, figures_of_framed (framed_parkTest _)]
  refine endBellTransaction_of (P := fun u => u.figures = _) ?_
    (fun c u _ h => (figures_of_framed (framed_reportF c u)).trans h) (fun _ h => h)
  rw [bellSampled_eq, handSample_eq, figures_of_framed (framed_watermarkTest _),
    figures_of_framed (framed_gasTakesSample _), counted]

theorem bellEnded_channels (made : Bool) (reply : SensorReply) (s : State) :
    (bellEnded made reply s).sensor.header = s.sensor.header
      ∧ (bellEnded made reply s).sensor.bell = channelAfter (takenReply made reply) s.sensor.bell
      ∧ (bellEnded made reply s).sensor.sample =
        formSample { s.sensor with bell := channelAfter (takenReply made reply) s.sensor.bell } := by
  have h := figures_bellEnded made reply s
  simp only [State.figures, Prod.mk.injEq, sampleFormed_keeps] at h
  obtain ⟨header, bell, sample, -⟩ := h
  exact ⟨header, bell, sample⟩

theorem bellEnded_drive (made : Bool) (reply : SensorReply) (s : State) :
    let u := sampleFormed (bellSet (takenReply made reply) (transactionEnded s))
    (bellEnded made reply s).dose.drive = u.dose.drive ∧ (bellEnded made reply s).dose.rate = u.dose.rate
      ∧ (bellEnded made reply s).freeCount = u.freeCount := by
  have h := figures_bellEnded made reply s
  simp only [State.figures, Prod.mk.injEq] at h
  obtain ⟨-, -, -, drive, rate, free⟩ := h
  exact ⟨drive, rate, free⟩

theorem bellEnded_due (made : Bool) (reply : SensorReply) (s : State) :
    (bellEnded made reply s).sensor.headerLostDue = false := by
  have frame {u v : State} (h : u.framed = v.framed) : u.sensor.headerLostDue = v.sensor.headerLostDue :=
    congrArg (·.sensor.headerLostDue) h
  rw [bellEnded, frame (framed_parkTest _), endBellTransaction_sampled]
  split
  · rw [frame (framed_reportF ..), reportHeaderLost_due]
  · exact reportHeaderLost_due _

theorem bellEnded_rejectRun (made : Bool) (reply : SensorReply) (s : State) :
    (bellEnded made reply s).result.rejectRun = s.result.rejectRun := by
  have set : (bellSet (takenReply made reply) (transactionEnded s)).result = s.result := rfl
  simp only [bellEnded, parkTest_keeps]
  refine endBellTransaction_of (P := fun u => u.result.rejectRun = s.result.rejectRun) ?_
    (fun c u hc h => (reportF_rejectRun hc u).trans h) (fun _ h => h)
  rw [bellSampled_eq]
  simp [set]

/-- What HeadFrame names stays, the figures that a bell transaction sets apart. -/
theorem headFrame_bellEnded (made : Bool) (reply : SensorReply) (s : State) :
    HeadFrame
      { s with
        freeCount := (bellEnded made reply s).freeCount
        sensor :=
          { s.sensor with
            transaction := none, bell := channelAfter (takenReply made reply) s.sensor.bell
            sample := (bellEnded made reply s).sensor.sample, headerLostDue := false }
        dose :=
          { s.dose with
            drive := (bellEnded made reply s).dose.drive, rate := (bellEnded made reply s).dose.rate
            elapsed := (bellEnded made reply s).dose.elapsed
            credited := (bellEnded made reply s).dose.credited } }
      (bellEnded made reply s) := by
  have apart : (bellEnded made reply s).apartFromSample = s.apartFromSample := by
    rw [bellEnded, apartFromSample_of_framed (framed_parkTest _)]
    refine endBellTransaction_of (P := fun u => u.apartFromSample = s.apartFromSample)
      (apartFromSample_bellSampled _ _)
      (fun c u _ h => (apartFromSample_of_framed (framed_reportF c u)).trans h) (fun _ h => h)
  have ended : (bellEnded made reply s).sensor.transaction = none := by simp [bellEnded, transactionEnded]
  obtain ⟨-, bell, -⟩ := bellEnded_channels made reply s
  have frame := headFrame_of_apartFromSample apart (bellEnded_rejectRun made reply s)
  rwa [ended, bell, bellEnded_due] at frame

/-! ## The statement -/

/-- The bell is newly STALE. -/
theorem bellLost_iff (r : SensorReply) (s : State) :
    bellLost r s = true ↔
      s.sensor.bell.validity ≠ .stale ∧ (channelAfter r s.sensor.bell).validity = .stale := by
  simp [bellLost]

theorem bellSampled_fault (r : SensorReply) (s : State) : (bellSampled r s).fault = s.fault := by
  simp [bellSampled]

theorem bellSampled_due (r : SensorReply) (s : State) :
    (bellSampled r s).sensor.headerLostDue = s.sensor.headerLostDue := by
  simp [bellSampled_eq, handSample_eq, bellSet]

theorem reportHeaderLost_of_none {s : State} (h : s.sensor.headerLostDue = false) : reportHeaderLost s = s := by
  simp [reportHeaderLost, h]

theorem latched_reportHeaderLost {s : State} (h : s.sensor.headerLostDue = true) :
    (reportHeaderLost s).latched .headerLost = true := by
  rw [reportHeaderLost, if_pos h]
  exact latched_reportF ..

/-- Without a lost channel the transaction ends at its sample. -/
theorem endBellTransaction_unlost {r : SensorReply} {s : State} (hl : bellLost r s = false)
    (hd : s.sensor.headerLostDue = false) : endBellTransaction r s = bellSampled r s := by
  rw [endBellTransaction_sampled, hl, reportHeaderLost_of_none (by rw [bellSampled_due, hd])]
  rfl

theorem bellEnded_unlost {made : Bool} {reply : SensorReply} {s : State}
    (hl : bellLost (takenReply made reply) s = false) (hd : s.sensor.headerLostDue = false) :
    bellEnded made reply s = parkTest (handSample (bellSet (takenReply made reply) (transactionEnded s))) := by
  have unlost : bellLost (takenReply made reply) (transactionEnded s) = false := hl
  rw [bellEnded, endBellTransaction_unlost unlost hd, bellSampled_eq]

/-- A newly STALE bell latches BELL_LOST, and a header's loss due HEADER_LOST (R44). -/
theorem latched_bellEnded (made : Bool) (reply : SensorReply) (s : State) :
    (bellLost (takenReply made reply) s = true → (bellEnded made reply s).latched .bellLost = true)
      ∧ (s.sensor.headerLostDue = true → (bellEnded made reply s).latched .headerLost = true) := by
  have parked : CellsStay (endBellTransaction (takenReply made reply) (transactionEnded s)) (bellEnded made reply s) :=
    .of_same (by simp [bellEnded])
  have same : bellLost (takenReply made reply) (transactionEnded s) = bellLost (takenReply made reply) s := rfl
  refine ⟨fun h => parked.stay _ ?_, fun h => parked.stay _ ?_⟩
  · rw [endBellTransaction_sampled, same, if_pos h]
    exact latched_reportF ..
  · have header : (reportHeaderLost (bellSampled (takenReply made reply) (transactionEnded s))).latched .headerLost
        = true := latched_reportHeaderLost (by rw [bellSampled_due]; exact h)
    rw [endBellTransaction_sampled]
    split
    · exact (cellsStay_reportF _ _).stay _ header
    · exact header

/-- A zeroing that goes on keeps its readings, the transaction's among them where it is good (R49). -/
theorem bellEnded_zeroing {made : Bool} {reply : SensorReply} {s : State}
    (hz : (bellEnded made reply s).sensor.zeroing ≠ .idle) :
    (bellEnded made reply s).sensor.zeroing = s.sensor.zeroing
      ∧ (bellEnded made reply s).sensor.zeroSamples =
        (bellSet (takenReply made reply) s).sensor.zeroSamples := by
  simp only [bellEnded, parkTest_keeps] at hz ⊢
  revert hz
  refine endBellTransaction_of (P := fun u => u.sensor.zeroing ≠ .idle → u.sensor.zeroing = s.sensor.zeroing
    ∧ u.sensor.zeroSamples = (bellSet (takenReply made reply) s).sensor.zeroSamples) (fun _ => ?_)
    (fun c u hc h hz => ?_) (fun _ h => h)
  · rw [bellSampled_eq]
    simp only [handSample_keeps]
    exact ⟨rfl, rfl⟩
  · have same := reportF_zeroing hc hz
    rw [same] at hz ⊢
    exact h hz

/-- The head after the end of a header transaction (R42 to R45). -/
theorem effect_headerEnd {made : Bool} {begun : Nat} {s : State} (reply : SensorReply)
    (h : s.sensor.transaction = some { channel := .header, since := begun, startMade := made }) :
    effect (.sensorTransactionEnd .header reply) s =
      (let after := channelAfter (takenReply made reply) s.sensor.header
      { s with
        sensor :=
          { s.sensor with
            transaction := none, header := after
            headerLostDue :=
              s.sensor.headerLostDue || decide (s.sensor.header.validity ≠ .stale ∧ after.validity = .stale) }
        line := if s.sensor.header.validity = after.validity then s.line else statusPlaced s.line }) := by
  have lost (a b : Validity) : (a != .stale && b == .stale) = decide (a ≠ .stale ∧ b = .stale) := by
    cases a <;> cases b <;> rfl
  rw [effect_sensorTransactionEnd, endTransaction_of_some reply s .header begun made h]
  simp only [endHeaderTransaction, statusIfChanged_eq, lost]

/-- Settles O17: the header's transaction field by field, the bell's by what its sample and its reports leave. -/
theorem transactionsSetChannelsAndSamples : Obligations.TransactionsSetChannelsAndSamples := by
  unfold Obligations.TransactionsSetChannelsAndSamples
  refine ⟨fun reply s begun made => ⟨fun ch h => ?_, fun h => ?_⟩, fun reply s begun made h => ?_⟩
  · rw [exec_eq_effect, effect_sensorTransactionEnd]
    cases hx : s.sensor.transaction with
    | none => rw [endTransaction_of_none _ _ _ hx]
    | some x => rw [endTransaction_of_ne ch reply s x hx fun hc => h (by simp [hx, hc])]
  · rw [exec_eq_effect, effect_headerEnd reply h]
    simp only [channelAfter_eq, replyGood_eq]
    rfl
  · rw [exec_eq_effect, effect_bellEnd reply h]
    obtain ⟨header, bell, sample⟩ := bellEnded_channels made reply s
    obtain ⟨drive, rate, -⟩ := bellEnded_drive made reply s
    obtain ⟨bellLatched, headerLatched⟩ := latched_bellEnded made reply s
    refine ⟨_, rfl, bell, header, ?_, fun hv => ⟨?_, fun hl => ?_⟩, fun hv => ?_,
      fun hl => bellLatched ((bellLost_iff ..).2 hl), headerLatched, bellEnded_due .., fun hl hd => ?_,
      fun hz => ?_, headFrame_bellEnded made reply s⟩
    · rw [sample, formSample_eq]
      rfl
    · rw [drive, sample, sampleFormed_drive (by exact hv)]
      rfl
    · rw [rate, sample, (sampleFormed_usable (s := bellSet (takenReply made reply) (transactionEnded s)) hv hl).1]
      rfl
    · rw [drive, rate, (sampleFormed_unusable (s := bellSet (takenReply made reply) (transactionEnded s)) hv).1]
      exact ⟨rfl, rfl⟩
    · have unlost : bellLost (takenReply made reply) (transactionEnded s) = false :=
        Bool.eq_false_iff.2 fun h => hl ((bellLost_iff ..).1 h)
      simp only [bellEnded, parkTest_keeps, endBellTransaction_unlost unlost hd, bellSampled_fault]
      rfl
    · obtain ⟨zeroing, samples⟩ := bellEnded_zeroing hz
      have running : s.sensor.zeroing ≠ .idle := zeroing ▸ hz
      refine ⟨zeroing.symm, samples.trans ?_⟩
      change _ = if replyGood (takenReply made reply) = true then _ else _
      cases hg : replyGood (takenReply made reply) with
      | true =>
        rw [bellSet, if_neg (by simp [running, hg]), if_pos rfl]
        exact congrArg (fun x => (s.sensor.zeroSamples ++ [x]).drop (s.sensor.zeroSamples.length - 15))
          (reading_of_good hg s.sensor.bell).symm
      | false =>
        rw [bellSet, if_pos (.inr hg), if_neg Bool.false_ne_true]

end Sys2Proof.Machine
end

section
/-!
PROOFS. A sample of a running pulse that ends no pulse (O18): counted, and credited while GAS_FB shows the valve open.
-/

namespace Sys2Proof.Machine

/-- The flags of a context once a sample's clamp is noted (R48). -/
def clampFlags (p : Sample) (flags : BitVec 16) : BitVec 16 :=
  if p.pcClamped = .no then flags else setCondition .pcClamped flags

/-- The head with a usable sample formed in an open context outside LOADING (R46, R48, R56, R68). -/
def sampleFormedIn (c : CanContext) (s : State) : State :=
  let p := formSample s.sensor
  let f := driveTerm p.ph p.pc
  { s with
    context := some { c with conditions := clampFlags p c.conditions }
    sensor := { s.sensor with sample := p }
    dose := { s.dose with drive := some f, rate := some (s.params.coefficient * f / 4096) } }

/-- A gas part credited with `sum`, the drive term's share and the remainder held (R59, R60). -/
def creditPart (sum : Nat) (g : GasPart) : GasPart :=
  { g with mass := min 50000000 (g.mass + sum / 4096), remainder := sum % 4096 }

/-- The flags of a context once SAT is noted at a credit (R60). -/
def creditFlags (sum : Nat) (g : GasPart) (flags : BitVec 16) : BitVec 16 :=
  if 50000000 ≤ g.mass + sum / 4096 then setCondition .sat flags else flags

/-- The head whose running pulse takes a sample, both channels VALID, before the Gas Sequencer judges it (R58 to R63). -/
def sampleCredited (c : CanContext) (g : GasPart) (s : State) : State :=
  let p := formSample s.sensor
  let f := driveTerm p.ph p.pc
  let sum := s.params.coefficient * f + g.remainder
  let flags := clampFlags p c.conditions
  { s with
    context :=
      some
        { c with
          gas := some (if s.gasFb then creditPart sum g else g)
          conditions := if s.gasFb then creditFlags sum g flags else flags }
    sensor := { s.sensor with sample := p }
    dose :=
      { s.dose with
        drive := some f, rate := some (s.params.coefficient * f / 4096)
        elapsed := s.dose.elapsed + 1
        credited := if s.gasFb then s.dose.credited + 1 else s.dose.credited } }

section
variable {s : State} {c : CanContext} {g : GasPart}

theorem gasPart_of_context (hc : s.context = some c) (hg : c.gas = some g) : s.gasPart = some g := by
  simp [State.gasPart, hc, hg]

theorem noteClamped_eq (hc : s.context = some c) (hg : c.gas = some g) (hb : s.sensor.sample.bell = .valid) :
    noteClamped s =
      { s with context := some { c with conditions := clampFlags s.sensor.sample c.conditions } } := by
  by_cases hp : s.sensor.sample.pcClamped = .no
  · rw [noteClamped, if_neg fun h => h.2.2 hp, clampFlags, if_pos hp, ← hc]
  · rw [noteClamped, if_pos ⟨by rw [gasPart_of_context hc hg]; rfl, hb, hp⟩, clampFlags, if_neg hp]
    simp [addCondition, onContext, hc]

theorem creditSample_eq (f : Nat) (hc : s.context = some c) (hg : c.gas = some g) :
    creditSample f s =
      { s with
        context :=
          some
            { c with
              gas := some (creditPart (s.params.coefficient * f + g.remainder) g)
              conditions := creditFlags (s.params.coefficient * f + g.remainder) g c.conditions } } := by
  have credited : onGasPart
      (fun h =>
        { h with
          mass := massAfter h.mass (creditOf s.params.coefficient f g.remainder)
          remainder := remainderAfter s.params.coefficient f h.remainder }) s =
      { s with
        context := some { c with gas := some (creditPart (s.params.coefficient * f + g.remainder) g) } } := by
    simp only [onGasPart, onContext, hc, Option.map_some, hg]
    rfl
  simp only [creditSample, gasPart_of_context hc hg, credited]
  exact (apply_ite (fun flags : BitVec 16 => ({ s with
    context :=
      some
        { c with
          gas := some (creditPart (s.params.coefficient * f + g.remainder) g), conditions := flags } } : State))
    _ _ _).symm

/-- A sample of a running pulse is counted, and credited just with GAS_FB open (R58, R63). -/
theorem countSample_running (hr : s.dose.running = true) (hs : s.gas.stage = .pulse) (hp : s.gasPart = some g)
    (hu : sampleUsable s.sensor.sample = true) :
    countSample s =
      if s.gasFb then
        creditSample (s.dose.drive.getD 0)
          { s with dose := { s.dose with elapsed := s.dose.elapsed + 1, credited := s.dose.credited + 1 } }
      else { s with dose := { s.dose with elapsed := s.dose.elapsed + 1 } } := by
  have credits : s.credits = s.gasFb := by simp [State.credits, hp, State.gasOn, hs, hu]
  rw [countSample, if_pos hr, credits]

theorem sampleFormed_eq (hc : s.context = some c) (hg : c.gas = some g)
    (hv : s.sensor.header.validity = .valid ∧ s.sensor.bell.validity = .valid) (hl : s.cycle.station ≠ .loading) :
    sampleFormed s = sampleFormedIn c s := by
  rw [sampleFormed, noteClamped_eq (s := withSample s) hc hg hv.2]
  exact formDrive_usable ((sampleUsable_formSample s.sensor).2 hv) hl

/-- The sample of a running pulse, formed, counted and credited. -/
theorem countSample_sampleFormed (hr : s.dose.running = true) (hs : s.gas.stage = .pulse) (hc : s.context = some c)
    (hg : c.gas = some g) (hv : s.sensor.header.validity = .valid ∧ s.sensor.bell.validity = .valid)
    (hl : s.cycle.station ≠ .loading) : countSample (sampleFormed s) = sampleCredited c g s := by
  have feedback : (sampleFormedIn c s).gasFb = s.gasFb := rfl
  rw [sampleFormed_eq hc hg hv hl, countSample_running (s := sampleFormedIn c s) hr hs
    (gasPart_of_context rfl hg) ((sampleUsable_formSample s.sensor).2 hv), feedback]
  cases hf : s.gasFb with
  | false =>
    rw [if_neg Bool.false_ne_true]
    simp only [sampleCredited, hf, Bool.false_eq_true, if_false, ← hg]
    rfl
  | true =>
    rw [if_pos rfl,
      creditSample_eq (c := { c with conditions := clampFlags (formSample s.sensor) c.conditions }) _ rfl hg]
    simp only [sampleCredited, hf, if_true]
    rfl

/-- A sample of a running pulse short of its length and of the target mass leaves the pulse running (R64). -/
theorem gasTakesSample_runs (hs : s.gas.stage = .pulse) (hu : sampleUsable s.sensor.sample = true)
    (hl : s.dose.elapsed ≠ s.dose.planned) (hm : s.mass < s.params.targetMass) : gasTakesSample s = s := by
  have reports : s.pulseReports = false := by simp [State.pulseReports, hl, hm]
  simp [gasTakesSample, hs, hu, reports]

end

/-- A bell that is VALID after its transaction is not newly STALE. -/
theorem bellLost_of_valid {r : SensorReply} {s : State} (h : (channelAfter r s.sensor.bell).validity = .valid) :
    bellLost r s = false := by
  simp [bellLost, h]

/-- Settles O18: the sample formed, counted and credited, and then the watermark test alone. -/
theorem pressureSampleCreditsTheRunningPulse : Obligations.PressureSampleCreditsTheRunningPulse := by
  unfold Obligations.PressureSampleCreditsTheRunningPulse
  intro reply s c g begun made r ht hs hr hd hc hg hv hdue hq hb p f sum mass hl hm
  let u := bellSet (takenReply made reply) (transactionEnded s)
  have counted : countSample (sampleFormed u) = sampleCredited c g u :=
    countSample_sampleFormed hd hs hc hg ⟨hv, hb⟩ (by simp [u, bellSet, transactionEnded, hr])
  have part : (sampleCredited c g u).mass = mass := by
    change (if s.gasFb then creditPart sum g else g).mass = mass
    exact apply_ite GasPart.mass ..
  have runs : gasTakesSample (sampleCredited c g u) = sampleCredited c g u :=
    gasTakesSample_runs hs ((sampleUsable_formSample _).2 ⟨hv, hb⟩) hl (by rw [part]; exact hm)
  have ended : bellEnded made reply s = watermarkTest (sampleCredited c g u) := by
    rw [bellEnded_unlost (bellLost_of_valid hb) hdue, handSample_eq, counted, runs,
      parkTest_of_calm (by simp only [watermarkTest_keeps]; exact hq)]
  have line : u.line = if s.sensor.bell.validity = .valid then s.line else statusPlaced s.line := by
    rw [← hb]
    rfl
  rw [exec_eq_effect, effect_bellEnd reply ht, ended, sampleCredited, line]
  have feedback : u.gasFb = s.gasFb := rfl
  cases hf : s.gasFb with
  | false =>
    simp only [feedback, hf, mass, Bool.false_eq_true, if_false, false_and]
    rfl
  | true =>
    simp only [feedback, hf, mass, if_true, true_and]
    rfl

end Sys2Proof.Machine
end

section
/-!
PROOFS. The marks that a sample leaves in the open context (O21): what each operation does to one condition flag, in the
context or in the record that a lost channel closes it into.
-/

namespace Sys2Proof.Machine

/-! ## One flag of the open context -/

theorem conditionBit_inj {k j : Condition} (h : conditionBit k = conditionBit j) : k = j := by
  cases k <;> cases j <;> simp_all [conditionBit]

theorem conditionBit_lt (k : Condition) : conditionBit k < 16 := by cases k <;> decide

theorem hasCondition_setCondition (k j : Condition) (flags : BitVec 16) :
    hasCondition k (setCondition j flags) = (hasCondition k flags || decide (k = j)) := by
  have bit : decide (conditionBit j = conditionBit k) = decide (k = j) :=
    decide_eq_decide.2 ⟨fun h => (conditionBit_inj h).symm, fun h => by rw [h]⟩
  simp only [hasCondition, setCondition, conditionMask, BitVec.getLsbD_or, BitVec.getLsbD_twoPow, conditionBit_lt,
    decide_true, Bool.true_and, bit]

/-- Whether a condition is set in the open context. -/
def State.flag (k : Condition) (s : State) : Option Bool := s.context.map (fun c => hasCondition k c.conditions)

/-- The conditions that plans and the judgement of pulses set. -/
def gassingFlags : List Condition := [.noDrive, .maxPulses, .holdWait, .drawWait, .strike]

theorem ne_of_not_mem_gassingFlags {k j : Condition} (hk : k ∉ gassingFlags) (hj : j ∈ gassingFlags) : k ≠ j :=
  fun h => hk (h ▸ hj)

section
variable {k : Condition} {s : State}

theorem flag_of_context {t : State} (h : t.context = s.context) : t.flag k = s.flag k := by
  rw [State.flag, h, State.flag]

theorem flag_of_crimpTrace {t : State} (h : t.crimpTrace = s.crimpTrace) : t.flag k = s.flag k := by
  have read (u : State) : u.flag k = u.crimpTrace.map (fun p => hasCondition k p.1) := by
    simp [State.flag, State.crimpTrace, Function.comp_def]
  rw [read, h, read]

theorem flag_onContext {f : CanContext → CanContext} (hf : ∀ c, (f c).conditions = c.conditions) :
    (onContext f s).flag k = s.flag k := by
  cases h : s.context <;> simp [State.flag, onContext, h, hf]

@[simp] theorem flag_addReason (r : Reason) : (addReason r s).flag k = s.flag k :=
  flag_onContext (f := fun c => { c with reasons := insertReason r c.reasons }) fun _ => rfl

@[simp] theorem flag_onGasPart (f : GasPart → GasPart) : (onGasPart f s).flag k = s.flag k :=
  flag_onContext (f := fun c => { c with gas := c.gas.map f }) fun _ => rfl

theorem flag_addCondition (j : Condition) :
    (addCondition j s).flag k = s.context.map (fun c => hasCondition k c.conditions || decide (k = j)) := by
  simp [State.flag, addCondition, onContext, hasCondition_setCondition, Function.comp_def]

theorem flag_addCondition_ne {j : Condition} (h : k ≠ j) : (addCondition j s).flag k = s.flag k := by
  rw [flag_addCondition]
  simp [State.flag, h]

@[simp] theorem flag_enterEnded : (enterEnded s).flag k = s.flag k :=
  flag_of_crimpTrace (crimpTrace_compareDose _)

@[simp] theorem flag_advancePhase (p q : Phase) : (advancePhase p q s).flag k = s.flag k := flag_of_context (by simp)

@[simp] theorem flag_endGassing : (endGassing s).flag k = s.flag k := by
  rw [endGassing, flag_advancePhase, flag_enterEnded]

@[simp] theorem flag_doseComplete : (doseComplete s).flag k = s.flag k := by
  have checked (p : Option CheckPart) (u : State) : (onContext (fun c => { c with check := p }) u).flag k = u.flag k :=
    flag_onContext (f := fun c => { c with check := p }) fun _ => rfl
  unfold doseComplete
  split
  · exact flag_endGassing
  · rw [flag_advancePhase]
    exact (checked _ _).trans (flag_of_crimpTrace (crimpTrace_compareDose s))

@[simp] theorem flag_endPulse (o : PulseOutcome) : (endPulse o s).flag k = s.flag k := by
  have pulse (f : Pulse → Pulse) : (onLastPulse f s).flag k = s.flag k := flag_onGasPart _
  exact pulse _

theorem flag_loseSensor : (loseSensor s).flag k = s.flag k := by
  rw [loseSensor, flag_of_context (closeAfter_context (by simp)), flag_enterEnded, flag_addReason]
  exact flag_of_crimpTrace (crimpTrace_stopStage s)

section
variable (hk : k ∉ gassingFlags)
include hk

theorem flag_requestClaim : (requestClaim s).flag k = s.flag k := by
  have waits (u : State) : (addCondition .drawWait u).flag k = u.flag k :=
    flag_addCondition_ne (ne_of_not_mem_gassingFlags hk (by decide))
  unfold requestClaim
  (repeat' split)
  · rfl
  · exact waits _
  · rfl
  · rfl

theorem flag_actOnAnswer (a : PlanAnswer) : (actOnAnswer a s).flag k = s.flag k := by
  have held : (addCondition .holdWait s).flag k = s.flag k :=
    flag_addCondition_ne (ne_of_not_mem_gassingFlags hk (by decide))
  unfold actOnAnswer
  (repeat' split)
  · rfl
  · exact flag_requestClaim hk
  · exact held
  · rfl
  · exact held

theorem flag_decideInPlan : (decideInPlan s).flag k = s.flag k := by
  have noted (a : PlanAnswer) : (noteNoDrive a s).flag k = s.flag k := by
    unfold noteNoDrive
    split
    · exact flag_addCondition_ne (ne_of_not_mem_gassingFlags hk (by decide))
    · rfl
  have limited (u : State) : (addCondition .maxPulses u).flag k = u.flag k :=
    flag_addCondition_ne (ne_of_not_mem_gassingFlags hk (by decide))
  unfold decideInPlan
  dsimp only
  (repeat' split)
  · exact flag_doseComplete
  · rw [flag_endGassing, limited, flag_addReason, noted]
  · rw [flag_actOnAnswer hk, noted]

theorem flag_closeIfShut : (closeIfShut s).flag k = s.flag k := by
  have settled (u : State) : (startSettle u).flag k = u.flag k := by
    unfold startSettle
    (repeat' split)
    · exact flag_decideInPlan hk
    · rfl
    · rfl
  unfold closeIfShut
  split
  · rfl
  · rw [valveClosed, settled]
    exact flag_of_context (by simp)

theorem flag_judgePulse : (judgePulse s).flag k = s.flag k := by
  have struck (u : State) : (addCondition .strike u).flag k = u.flag k :=
    flag_addCondition_ne (ne_of_not_mem_gassingFlags hk (by decide))
  have set (g : GasStage) (u : State) : (setStage g u).flag k = u.flag k := rfl
  unfold judgePulse deadPulse takeBack
  dsimp only
  (repeat' split) <;> simp only [flag_closeIfShut hk, set, flag_endGassing, flag_addReason, struck, flag_onGasPart,
    flag_endPulse]

/-- The Gas Sequencer's sample writes no condition but those of plans, pulses and holds. -/
theorem flag_gasTakesSample : (gasTakesSample s).flag k = s.flag k := by
  have held : (noteHold s).flag k = s.flag k := by
    unfold noteHold
    split
    · rfl
    · exact flag_addCondition_ne (ne_of_not_mem_gassingFlags hk (by decide))
  unfold gasTakesSample
  dsimp only
  (repeat' split) <;> simp only [flag_decideInPlan hk, flag_judgePulse hk, flag_loseSensor, held]

end

/-- The watermark tests write no condition but DRAW_WAIT. -/
theorem flag_watermarkTest (hk : k ≠ .drawWait) : (watermarkTest s).flag k = s.flag k := by
  have retested (u : State) : (retest u).flag k = u.flag k := by
    unfold retest
    (repeat' split)
    · rfl
    · rfl
    · exact flag_addCondition_ne hk
    all_goals rfl
  have released : (releaseHold s).flag k = s.flag k := retested _
  have tested : (testAssertion s).flag k = s.flag k := by
    unfold testAssertion
    split
    · exact retested _
    · rfl
  have stoodDown : (standDown s).flag k = s.flag k := flag_of_context (by simp)
  unfold watermarkTest
  dsimp only
  split
  · rfl
  · exact stoodDown
  · (repeat' split)
    · exact released
    · rfl
    · exact tested
    · rfl
    · rfl

theorem flag_countSample (hk : k ≠ .sat) : (countSample s).flag k = s.flag k := by
  have credited (f : Nat) (u : State) : (creditSample f u).flag k = u.flag k := by
    unfold creditSample
    dsimp only
    (repeat' split)
    · rfl
    · rw [flag_addCondition_ne hk, flag_onGasPart]
    · exact flag_onGasPart _
  unfold countSample
  dsimp only
  (repeat' split)
  · exact credited _ _
  · rfl
  · rfl

/-- A sample with a clamped Pc sets PC_CLAMPED in a context with a gas part (R48). -/
theorem flag_noteClamped {c : CanContext} (hc : s.context = some c) :
    (noteClamped s).flag .pcClamped =
      some
        (hasCondition .pcClamped c.conditions
          || (c.gas.isSome && decide (s.sensor.sample.bell = .valid) && decide (s.sensor.sample.pcClamped ≠ .no))) := by
  have part : s.gasPart = c.gas := by simp [State.gasPart, hc]
  unfold noteClamped
  rw [part]
  split
  · next h =>
    obtain ⟨gas, bell, clamped⟩ := h
    rw [flag_addCondition, hc, gas, decide_eq_true bell, decide_eq_true clamped]
    rfl
  · next h =>
    have unclamped : (c.gas.isSome && decide (s.sensor.sample.bell = .valid)
        && decide (s.sensor.sample.pcClamped ≠ .no)) = false :=
      Bool.eq_false_iff.2 fun hb => h (by simpa [and_assoc] using hb)
    rw [unclamped, Bool.or_false, State.flag, hc]
    rfl

theorem flag_noteClamped_ne (hk : k ≠ .pcClamped) : (noteClamped s).flag k = s.flag k := by
  unfold noteClamped
  split
  · exact flag_addCondition_ne hk
  · rfl

theorem flag_noteHold :
    (noteHold s).flag .holdWait = (s.flag .holdWait).map (· || !s.hold.table.isEmpty) := by
  unfold noteHold
  split
  · next h => cases hc : s.context <;> simp [State.flag, hc, h]
  · next h =>
    rw [flag_addCondition]
    cases hc : s.context <;> simp [State.flag, hc, h]

/-- In CLAIM every sample notes a hold, one without a usable channel too (R81, R98). -/
theorem flag_gasTakesSample_claim (hs : s.gas.stage = .claim) :
    (gasTakesSample s).flag .holdWait = (noteHold s).flag .holdWait := by
  simp only [gasTakesSample, hs]
  split
  · rfl
  · exact flag_loseSensor

end

/-! ## The record of a context that a report closes -/

/-- The conditions of the open context, and without one those of the newest record. -/
def State.finalFlags (s : State) : Option (BitVec 16) :=
  match s.context with
  | some d => some d.conditions
  | none => s.result.queue.getLast?.map (·.conditions)

theorem finalFlags_some {s : State} {d : CanContext} (h : s.context = some d) : s.finalFlags = some d.conditions := by
  simp [State.finalFlags, h]

theorem finalFlags_none {s : State} (h : s.context = none) :
    s.finalFlags = s.result.queue.getLast?.map (·.conditions) := by
  simp [State.finalFlags, h]

theorem finalFlags_of_eq {s t : State} (hc : t.context = s.context) (hq : t.result = s.result) :
    t.finalFlags = s.finalFlags := by
  rw [State.finalFlags, hc, hq, State.finalFlags]

theorem conditions_abandonCrimp (s : State) :
    (abandonCrimp s).context.map (·.conditions) = s.context.map (·.conditions) := by
  have abandoned (f : CrimpPart → CrimpPart) :
      (onCrimpPart f s).context.map (·.conditions) = s.context.map (·.conditions) := by
    simp [onCrimpPart, onContext, Function.comp_def]
  unfold abandonCrimp
  dsimp only
  split
  · rfl
  · rfl
  · exact abandoned _

/-- A context closed at the entry to FAULTED takes its conditions into its record (R6, R163). -/
theorem finalFlags_enterFaulted (s : State) : (enterFaulted s).finalFlags = s.finalFlags := by
  have moved : (moveTo .faulted s).context = s.context := (moveTo_faulted_slots s).1
  have closed : (enterFaulted s).context = none := by simp
  cases hc : s.context with
  | none => exact finalFlags_of_eq (closed.trans hc.symm) (enterFaulted_idle hc).1
  | some c =>
    have work : (addReason .headFaulted (abandonGas (abandonCrimp (moveTo .faulted s)))).context.map (·.conditions)
        = some c.conditions := by
      have gas := congrArg (Option.map Prod.fst)
        ((crimpTrace_addReason .headFaulted _).trans (crimpTrace_abandonGas (abandonCrimp (moveTo .faulted s))))
      simp only [State.crimpTrace, Option.map_map, Function.comp_def] at gas
      rw [gas, conditions_abandonCrimp, moved, hc]
      rfl
    obtain ⟨d, hd, conditions⟩ := Option.map_eq_some_iff.1 work
    have queue : (enterFaulted s).result.queue.getLast? = some
        (buildRecord (addReason .headFaulted (abandonGas (abandonCrimp (moveTo .faulted s)))) d) := by
      simpa [enterFaulted, abandonContext, moved, hc] using (recordJoins_closeContext hd).last
    rw [finalFlags_none closed, queue, finalFlags_some hc, ← conditions]
    rfl

theorem finalFlags_reportF {c : Cell} (hc : c ≠ .lineDead) (s : State) : (reportF c s).finalFlags = s.finalFlags := by
  cases hl : s.latched c with
  | true =>
    rw [reportF_latched hl]
    split <;> rfl
  | false =>
    rw [reportF_clear hl hc]
    split
    · exact finalFlags_enterFaulted (placeFault c (latch c s))
    · rfl

theorem finalFlags_parkTest (s : State) : (parkTest s).finalFlags = s.finalFlags := by
  unfold parkTest
  split
  · rw [moveTo_parked]
    rfl
  · rfl

/-- After the transaction the flags stand as its sample left them, in the context or its record. -/
theorem finalFlags_bellEnded (k : Condition) {b : Bool} {made : Bool} {reply : SensorReply} {s : State}
    (h : (handSample (bellSet (takenReply made reply) (transactionEnded s))).flag k = some b) :
    (bellEnded made reply s).finalFlags.map (hasCondition k ·) = some b := by
  rw [bellEnded, finalFlags_parkTest]
  refine endBellTransaction_of (P := fun u => u.finalFlags.map (hasCondition k ·) = some b) ?_
    (fun c u hc hu => by rw [finalFlags_reportF hc]; exact hu) (fun _ hu => hu)
  rw [bellSampled_eq]
  obtain ⟨d, hd, hb⟩ := Option.map_eq_some_iff.1 h
  rw [finalFlags_some hd, ← hb]
  rfl

theorem pcClamped_formSample_iff (p : SensorUnit) :
    (formSample p).pcClamped ≠ .no ↔
      (p.bell.reading.toNat : Int) - p.zeroOffset + 101 < 0
        ∨ 4095 < (p.bell.reading.toNat : Int) - p.zeroOffset + 101 := by
  rw [formSample_eq]
  dsimp only
  split
  · next h => simp [h]
  · next h => split <;> simp_all

/-- Settles O21: each flag followed through the sample's readers, and then into the context or its record. -/
theorem samplesMarkTheOpenContext : Obligations.SamplesMarkTheOpenContext := by
  unfold Obligations.SamplesMarkTheOpenContext
  intro reply s c begun made r ht hc after pc clamped
  let u := bellSet (takenReply made reply) (transactionEnded s)
  have formed (k : Condition) : (sampleFormed u).flag k = (noteClamped (withSample u)).flag k :=
    flag_of_context (by simp [sampleFormed])
  rw [exec_eq_effect, effect_bellEnd reply ht]
  refine ⟨_, rfl, finalFlags_bellEnded .pcClamped ?_, fun hs => finalFlags_bellEnded .holdWait ?_⟩
  · have mark : decide ((formSample u.sensor).pcClamped ≠ .no) = (decide (pc < 0) || decide (4095 < pc)) := by
      rw [← Bool.decide_or]
      exact decide_eq_decide.2 (pcClamped_formSample_iff u.sensor)
    rw [handSample_eq, flag_watermarkTest (by decide), flag_gasTakesSample (by decide),
      flag_countSample (by decide), formed, flag_noteClamped (s := withSample u) hc]
    exact congrArg (fun b => some (_ || (_ && b))) mark
  · have gas : (countSample (sampleFormed u)).gas.stage = .claim := by
      simp only [countSample_keeps, sampleFormed_keeps]
      exact hs
    have hold : (countSample (sampleFormed u)).hold = s.hold := by
      simp only [countSample_keeps, sampleFormed_keeps]
      rfl
    rw [handSample_eq, flag_watermarkTest (by decide), flag_gasTakesSample_claim gas, flag_noteHold, hold,
      flag_countSample (by decide), formed, flag_noteClamped_ne (by decide), State.flag,
      show (withSample u).context = some c from hc]
    rfl

end Sys2Proof.Machine
end

section
/-!
PROOFS. A sample without a usable channel (O20): the end of gassing without a report, and the entry to FAULTED that a
newly STALE channel brings.
-/

namespace Sys2Proof.Machine

/-! ## The sample before the Gas Sequencer takes it -/

/-- A condition set in an open context, or none: the rest of the context stays. -/
def OnlyFlags (s t : State) : Prop :=
  ∃ f : CanContext → BitVec 16, t.context = s.context.map (fun c => { c with conditions := f c })

theorem OnlyFlags.of_eq {s t : State} (h : t.context = s.context) : OnlyFlags s t :=
  ⟨(·.conditions), by rw [h]; simp⟩

theorem OnlyFlags.trans {s t u : State} (h : OnlyFlags s t) (k : OnlyFlags t u) : OnlyFlags s u := by
  obtain ⟨f, hf⟩ := h
  obtain ⟨g, hg⟩ := k
  exact ⟨fun c => g { c with conditions := f c }, by simp [hg, hf, Function.comp_def]⟩

theorem onlyFlags_addCondition (k : Condition) (s : State) : OnlyFlags s (addCondition k s) :=
  ⟨fun c => setCondition k c.conditions, rfl⟩

theorem onlyFlags_noteClamped (s : State) : OnlyFlags s (noteClamped s) := by
  unfold noteClamped
  split
  · exact onlyFlags_addCondition ..
  · exact .of_eq rfl

theorem onlyFlags_noteHold (s : State) : OnlyFlags s (noteHold s) := by
  unfold noteHold
  split
  · exact .of_eq rfl
  · exact onlyFlags_addCondition ..

theorem countSample_unusable {s : State} (h : sampleUsable s.sensor.sample = false) :
    (countSample s).context = s.context := by
  have credits : s.credits = false := by simp [State.credits, h]
  unfold countSample
  rw [credits]
  split <;> rfl

/-- A sample without a usable channel is credited nowhere; it can set flags alone. -/
theorem onlyFlags_counted {u : State} (h : ¬(u.sensor.header.validity = .valid ∧ u.sensor.bell.validity = .valid)) :
    OnlyFlags u (countSample (sampleFormed u)) := by
  have unusable : sampleUsable (sampleFormed u).sensor.sample = false := by
    rw [(sampleFormed_keeps u).1]
    exact Bool.eq_false_iff.2 fun hu => h ((sampleUsable_formSample _).1 hu)
  have formed : OnlyFlags (withSample u) (sampleFormed u) :=
    (onlyFlags_noteClamped (withSample u)).trans (.of_eq (by simp [sampleFormed]))
  have same : OnlyFlags u (withSample u) := .of_eq rfl
  exact (same.trans formed).trans (.of_eq (countSample_unusable unusable))

/-! ## Gassing ended by a loss -/

section
variable {s : State}

/-- With no settle timer to start, the valve seen closed leaves the sequencer's stage and timers, and the context. -/
theorem closeAfter_leaves {b : GasStage} (hs : s.gas.stage ≠ .settle) :
    (closeAfter b s).cycle = s.cycle ∧ (closeAfter b s).gas.stage = s.gas.stage
      ∧ (closeAfter b s).gas.settleTimer = s.gas.settleTimer
      ∧ (closeAfter b s).gas.checkTimer = s.gas.checkTimer := by
  unfold closeAfter closeIfShut
  (repeat' split)
  · exact ⟨rfl, rfl, rfl, rfl⟩
  · rw [valveClosed, startSettle_of_ne (by simpa using hs)]
    simp
  · exact ⟨rfl, rfl, rfl, rfl⟩

theorem enterEnded_timers (s : State) :
    (enterEnded s).gas.settleTimer = none ∧ (enterEnded s).gas.checkTimer = none := by
  simp [enterEnded]

/-- The sequencer that a loss ends (R98). -/
theorem loseSensor_ends (s : State) :
    (loseSensor s).gas.stage = .ended ∧ (loseSensor s).gas.settleTimer = none
      ∧ (loseSensor s).gas.checkTimer = none ∧ (loseSensor s).cycle = s.cycle := by
  obtain ⟨settle, check⟩ := enterEnded_timers (addReason .sensorLost (stopStage s))
  obtain ⟨cycle, stage, settle', check'⟩ := closeAfter_leaves (b := s.gas.stage)
    (s := enterEnded (addReason .sensorLost (stopStage s))) (by simp)
  refine ⟨stage.trans (by simp), settle'.trans settle, check'.trans check, cycle.trans ?_⟩
  simp

theorem mem_insertReason_of_mem {r q : Reason} {l : List Reason} (h : r ∈ l) : r ∈ insertReason q l := by
  unfold insertReason
  split
  · exact h
  · exact List.mem_append_left _ h

/-- The candidates after a loss hold SENSOR_LOST; the rest of the context is as the stage's stop leaves it (R98). -/
theorem loseSensor_context (s : State) :
    ∃ f : CanContext → List Reason, (∀ c, .sensorLost ∈ f c)
      ∧ (loseSensor s).context = (stopStage s).context.map (fun c => { c with reasons := f c }) := by
  have ended : (loseSensor s).context = (enterEnded (addReason .sensorLost (stopStage s))).context :=
    closeAfter_context (by simp)
  rw [ended]
  unfold enterEnded compareDose
  (repeat' split)
  · exact ⟨fun c => insertReason .sensorLost c.reasons, fun _ => mem_insertReason_self .., rfl⟩
  · refine ⟨fun c => insertReason .highDose (insertReason .sensorLost c.reasons), fun c => ?_, ?_⟩
    · exact mem_insertReason_of_mem (mem_insertReason_self ..)
    · simp [addReason, onContext, Function.comp_def]
  · exact ⟨fun c => insertReason .sensorLost c.reasons, fun _ => mem_insertReason_self .., rfl⟩

/-- The watermark tests leave the context of a head that is not in CLAIM. -/
theorem watermarkTest_context (hs : s.gas.stage ≠ .claim) : (watermarkTest s).context = s.context := by
  have retested (u : State) (hu : u.gas = s.gas) : (retest u).context = u.context := by
    rw [retest, if_neg (by rw [hu]; exact hs)]
  have released : (releaseHold s).context = s.context := retested _ (by simp)
  have tested : (testAssertion s).context = s.context := by
    unfold testAssertion
    split
    · exact retested _ (by simp)
    · rfl
  unfold watermarkTest
  dsimp only
  split
  · rfl
  · simp
  · (repeat' split)
    · exact released
    · rfl
    · exact tested
    · rfl
    · rfl

theorem pulses_onLastPulse (f : Pulse → Pulse) : (onLastPulse f s).pulses = onLast f s.pulses := by
  cases hc : s.context with
  | none => simp [State.pulses, State.gasPart, onLastPulse, onGasPart, onContext, hc, onLast]
  | some c =>
    cases hg : c.gas <;> simp [State.pulses, State.gasPart, onLastPulse, onGasPart, onContext, hc, hg, onLast]

theorem pulses_of_gas {t : State} (h : t.context.map (·.gas) = s.context.map (·.gas)) : t.pulses = s.pulses := by
  have read (u : State) : u.pulses = ((u.context.map (·.gas)).join.map (·.pulses)).getD [] := by
    simp only [State.pulses, State.gasPart]
    cases u.context <;> rfl
  rw [read, h, read]

/-- What the sequencer stops when a loss ends gassing: the newest pulse is CUT, a check's verdict is CUT (R65, R91). -/
theorem stopStage_context (s : State) :
    (stopStage s).context.map (·.check) =
        s.context.map
          (fun c => if s.gas.stage = .check then c.check.map (fun k => { k with verdict := .cut }) else c.check)
      ∧ (s.gas.stage = .pulse →
        (stopStage s).pulses.getLast?.map (·.outcome) = s.pulses.getLast?.map (fun _ => some PulseOutcome.cut)) := by
  cases hs : s.gas.stage with
  | pulse =>
    have stopped : stopStage s = endPulse .cut s := by simp [stopStage, hs]
    have cut := pulses_onLastPulse (s := s) fun p =>
      { p with
        credited := some s.dose.credited, pcAtEnd := some s.sensor.sample.pc, outcome := some .cut }
    have pulses : (endPulse .cut s).pulses = _ := cut
    rw [stopped]
    refine ⟨?_, fun _ => ?_⟩
    · simp [endPulse, closeSelf, onLastPulse, onGasPart, onContext, Function.comp_def]
    · rw [pulses, getLast?_onLast, Option.map_map]
      rfl
  | check =>
    have stopped : stopStage s = cutCheckPart s := by simp [stopStage, hs]
    rw [stopped]
    refine ⟨?_, nofun⟩
    simp [cutCheckPart, onCheckPart, onContext, Function.comp_def]
  | claim =>
    have stopped : stopStage s = cancelClaim s := by simp [stopStage, hs]
    exact ⟨by simp [stopped], nofun⟩
  | idle | plan | settle | ended =>
    have stopped : stopStage s = s := by simp [stopStage, hs]
    exact ⟨by simp [stopped], nofun⟩

end

/-! ## The entry to FAULTED -/

theorem enterFaulted_stage (s : State) :
    (enterFaulted s).gas.stage = if s.context.isSome then .idle else s.gas.stage := by
  have moved : (moveTo .faulted s).context = s.context := (moveTo_faulted_slots s).1
  cases hc : s.context <;> simp [enterFaulted, abandonContext, moved, hc, abandonGas_stage]

/-- A report leaves GAS off. -/
theorem reportF_undriven {c : Cell} (hc : c ≠ .lineDead) {s : State} (hs : s.gas.stage ≠ .pulse) :
    (reportF c s).gas.stage ≠ .pulse := by
  cases hl : s.latched c with
  | true =>
    rw [reportF_latched hl]
    split <;> exact hs
  | false =>
    have placed : (enterFaulted (placeFault c (latch c s))).gas.stage ≠ .pulse := by
      rw [enterFaulted_stage]
      split
      · decide
      · exact hs
    rw [reportF_clear hl hc]
    split
    · exact placed
    · exact hs

/-- `t` stands where the loss of a channel takes the head `s` with context `c` (R6, R44): FAULTED in RETURN without a
context, the sequencer in IDLE, and the record of `c`, where the queue has room, with HEAD_FAULTED. -/
structure ClosedByLoss (c : CanContext) (s t : State) : Prop where
  station : t.cycle.station = .faulted
  phase : t.cycle.phase = .returning
  context : t.context = none
  stage : t.gas.stage = .idle
  record : s.result.queue.length < 8 →
    t.result.queue.getLast?.map (fun d => (d.reason, d.cycle)) = some (.headFaulted, c.cycle)

theorem closedByLoss_reportF {k : Cell} (hk : k ≠ .lineDead) {c : CanContext} {s v : State}
    (hl : v.latched k = false) (hr : v.cycle.station = .run)
    (hc : v.context.map (·.cycle) = some c.cycle) (hq : v.result = s.result) : ClosedByLoss c s (reportF k v) := by
  obtain ⟨d, hd, cycle⟩ := Option.map_eq_some_iff.1 hc
  have placed : (placeFault k (latch k v)).context = some d := hd
  have moves : movesToFaulted v.cycle.station = true := by rw [hr]; rfl
  rw [reportF_clear hl hk, if_pos moves]
  refine ⟨by simp, by simp, by simp, ?_, fun room => ?_⟩
  · simp [enterFaulted_stage, hd]
  · obtain ⟨⟨r, reason, rcycle, queue⟩, -⟩ := enterFaulted_record placed (by rw [← hq] at room; exact room)
    simp [queue, reason, rcycle, cycle]

/-- A second report finds the head FAULTED. -/
theorem ClosedByLoss.reportF {k : Cell} (hk : k ≠ .lineDead) {c : CanContext} {s v : State} (h : ClosedByLoss c s v) :
    ClosedByLoss c s (reportF k v) := by
  obtain ⟨station, phase, context, stage, record⟩ := h
  cases hl : v.latched k with
  | true =>
    rw [reportF_latched hl]
    split <;> exact ⟨station, phase, context, stage, record⟩
  | false =>
    rw [reportF_clear hl hk, if_neg (by simp [station, movesToFaulted])]
    exact ⟨station, phase, context, stage, record⟩

/-! ## The sample that ends gassing -/

/-- The sample of the head `u` has no channel that its stage needs (R98). -/
def Loses (u : State) : Prop :=
  (gassingStage u.gas.stage ∧ ¬(u.sensor.header.validity = .valid ∧ u.sensor.bell.validity = .valid))
    ∨ (u.gas.stage = .check ∧ u.sensor.bell.validity ≠ .valid)

theorem Loses.unusable {u : State} (h : Loses u) :
    ¬(u.sensor.header.validity = .valid ∧ u.sensor.bell.validity = .valid) := by
  obtain ⟨-, hv⟩ | ⟨-, hb⟩ := h
  · exact hv
  · exact fun hv => hb hv.2

/-- The head as the Gas Sequencer ends gassing at a sample: in CLAIM a hold is noted first (R81). -/
def lossTaken (u : State) : State :=
  if u.gas.stage = .claim then noteHold (countSample (sampleFormed u)) else countSample (sampleFormed u)

theorem handSample_loses {u : State} (h : Loses u) : handSample u = watermarkTest (loseSensor (lossTaken u)) := by
  have stage : (countSample (sampleFormed u)).gas.stage = u.gas.stage := by simp
  have bell : (formSample u.sensor).bell = u.sensor.bell.validity := rfl
  have unusable : sampleUsable (countSample (sampleFormed u)).sensor.sample = false := by
    simp only [countSample_keeps, sampleFormed_keeps]
    exact Bool.eq_false_iff.2 fun hu => h.unusable ((sampleUsable_formSample _).1 hu)
  rw [handSample_eq, gasTakesSample, lossTaken, stage, unusable]
  obtain ⟨hs, -⟩ | ⟨hs, hb⟩ := h
  · obtain hs | hs | hs | hs := hs <;> simp [hs]
  · rw [← bell] at hb
    simp [hs, hb]

theorem lossTaken_keeps (u : State) :
    (lossTaken u).gas = u.gas ∧ (lossTaken u).cycle = u.cycle ∧ (lossTaken u).fault = u.fault := by
  unfold lossTaken
  split <;> simp

theorem onlyFlags_lossTaken {u : State} (h : Loses u) : OnlyFlags u (lossTaken u) := by
  unfold lossTaken
  split
  · exact (onlyFlags_counted h.unusable).trans (onlyFlags_noteHold _)
  · exact onlyFlags_counted h.unusable

/-- A sample sets no WINDOW_CUT. -/
theorem windowCut_handSample (u : State) : (handSample u).flag .windowCut = u.flag .windowCut := by
  have formed : (sampleFormed u).flag .windowCut = (noteClamped (withSample u)).flag .windowCut :=
    flag_of_context (by simp [sampleFormed])
  rw [handSample_eq, flag_watermarkTest (by decide), flag_gasTakesSample (by decide), flag_countSample (by decide),
    formed, flag_noteClamped_ne (by decide)]
  rfl

/-- WINDOW_CUT of an open context after a sample is that of the context before it. -/
theorem windowCut_handSample_of_context {u : State} {c : CanContext} (hc : u.context = some c) :
    (handSample u).context.map (hasCondition .windowCut ·.conditions)
      = some (hasCondition .windowCut c.conditions) := by
  have same := windowCut_handSample u
  simp only [State.flag, hc] at same
  exact same

/-- The context after a sample that ends gassing: its cycle, SENSOR_LOST, and the running pulse or check cut. -/
theorem handSample_loses_context {u : State} (h : Loses u) {c : CanContext} (hc : u.context = some c) :
    ∃ d, (handSample u).context = some d ∧ d.cycle = c.cycle ∧ .sensorLost ∈ d.reasons
      ∧ d.check =
        (if u.gas.stage = .check then c.check.map (fun k => { k with verdict := .cut }) else c.check)
      ∧ (u.gas.stage = .pulse →
        (handSample u).pulses.getLast?.map (·.outcome) = u.pulses.getLast?.map (fun _ => some PulseOutcome.cut)) := by
  obtain ⟨f, hf⟩ := onlyFlags_lossTaken h
  obtain ⟨r, hr, lost⟩ := loseSensor_context (lossTaken u)
  obtain ⟨gas, -, -⟩ := lossTaken_keeps u
  obtain ⟨check, pulses⟩ := stopStage_context (lossTaken u)
  have ended : (handSample u).context = (loseSensor (lossTaken u)).context := by
    rw [handSample_loses h]
    exact watermarkTest_context (by simp [(loseSensor_ends (lossTaken u)).1])
  have taken : (lossTaken u).context = some { c with conditions := f c } := by rw [hf, hc]; rfl
  have cycle := (workKept_loseSensor (lossTaken u)).cycle
  rw [taken, lost] at cycle
  rw [gas, taken] at check
  obtain ⟨e, he, hcheck⟩ := Option.map_eq_some_iff.1 (check.trans rfl)
  rw [lost, he] at ended
  refine ⟨_, ended, ?_, hr e, hcheck, fun hs => ?_⟩
  · rw [he] at cycle
    exact Option.some.inj cycle
  · have after : (handSample u).pulses = (stopStage (lossTaken u)).pulses :=
      pulses_of_gas (by rw [ended, he]; rfl)
    have before : (lossTaken u).pulses = u.pulses := pulses_of_gas (by rw [taken, hc]; rfl)
    rw [after, pulses (by rw [gas]; exact hs), before]

/-- The sequencer after a sample that ends gassing: ENDED with no timer of a stage; station and phase stay. -/
theorem handSample_loses_gas {u : State} (h : Loses u) :
    (handSample u).gas.stage = .ended ∧ (handSample u).gas.settleTimer = none
      ∧ (handSample u).gas.checkTimer = none ∧ (handSample u).cycle = u.cycle := by
  obtain ⟨stage, settle, check, cycle⟩ := loseSensor_ends (lossTaken u)
  obtain ⟨-, kept, -⟩ := lossTaken_keeps u
  rw [handSample_loses h]
  simp [stage, settle, check, cycle, kept]

/-! ## The reports after it -/

/-- The head with the header's loss taken for report. -/
def dueTaken (s : State) : State := { s with sensor := { s.sensor with headerLostDue := false } }

/-- A header's loss that is not due, or whose cell is latched, is reported without effect (R187). -/
theorem reportHeaderLost_again {s : State} (h : s.sensor.headerLostDue = true → s.latched .headerLost = true) :
    reportHeaderLost s = dueTaken s := by
  cases hd : s.sensor.headerLostDue with
  | true =>
    have latched : (dueTaken s).latched .headerLost = true := h hd
    rw [reportHeaderLost, if_pos hd]
    exact (reportF_latched latched).trans (if_neg (by decide))
  | false => rw [reportHeaderLost_of_none hd, dueTaken, ← hd]

/-- The loss of a channel whose cell is clear, reported in RUN after the sample. -/
theorem closedByLoss_reports {c : CanContext} {s v : State} {lost : Bool} (hr : v.cycle.station = .run)
    (hc : v.context.map (·.cycle) = some c.cycle) (hq : v.result = s.result)
    (hl : (lost = true ∧ v.latched .bellLost = false)
      ∨ (v.sensor.headerLostDue = true ∧ v.latched .headerLost = false)) :
    ClosedByLoss c s (if lost then reportF .bellLost (reportHeaderLost v) else reportHeaderLost v) := by
  by_cases header : v.sensor.headerLostDue = true ∧ v.latched .headerLost = false
  · have clear : (dueTaken v).latched .headerLost = false := header.2
    have closed : ClosedByLoss c s (reportHeaderLost v) := by
      rw [reportHeaderLost, if_pos header.1]
      exact closedByLoss_reportF (by decide) clear hr hc hq
    split
    · exact closed.reportF (by decide)
    · exact closed
  · obtain ⟨on, clear⟩ := hl.resolve_right header
    have clear' : (dueTaken v).latched .bellLost = false := clear
    have again : reportHeaderLost v = dueTaken v :=
      reportHeaderLost_again fun hd => by simpa [hd] using header
    rw [if_pos on, again]
    exact closedByLoss_reportF (by decide) clear' hr hc hq

/-- A sample that ends gassing with a loss to report closes the context with HEAD_FAULTED (R6, R44, R98). -/
theorem closedByLoss_bellEnded {made : Bool} {reply : SensorReply} {s : State} {c : CanContext}
    (h : Loses (bellSet (takenReply made reply) (transactionEnded s))) (hr : s.cycle.station = .run)
    (hc : s.context = some c)
    (hl : (bellLost (takenReply made reply) s = true ∧ s.latched .bellLost = false)
      ∨ (s.sensor.headerLostDue = true ∧ s.latched .headerLost = false)) :
    ClosedByLoss c s (bellEnded made reply s) := by
  obtain ⟨d, hd, cycle, -⟩ := handSample_loses_context h hc
  have latched (k : Cell) : (bellSampled (takenReply made reply) (transactionEnded s)).latched k = s.latched k := by
    rw [State.latched, bellSampled_fault]
    rfl
  have ended : ClosedByLoss c s (endBellTransaction (takenReply made reply) (transactionEnded s)) := by
    rw [endBellTransaction_sampled]
    refine closedByLoss_reports ?_ ?_ ?_ ?_
    · rw [bellSampled_eq]
      simp only [handSample_keeps]
      exact hr
    · rw [bellSampled_eq, hd, Option.map_some, cycle]
    · rw [bellSampled_eq]
      simp only [handSample_keeps]
      rfl
    · rw [latched, latched, bellSampled_due]
      exact hl
  have stays : bellEnded made reply s = endBellTransaction (takenReply made reply) (transactionEnded s) :=
    if_neg fun hp => by simp [ended.station] at hp
  rw [stays]
  exact ended

/-- A sample that ends gassing drives GAS off, whatever is reported after it. -/
theorem bellEnded_gasOff {made : Bool} {reply : SensorReply} {s : State}
    (h : Loses (bellSet (takenReply made reply) (transactionEnded s))) : (bellEnded made reply s).gasOn = false := by
  have off : (endBellTransaction (takenReply made reply) (transactionEnded s)).gas.stage ≠ .pulse := by
    refine endBellTransaction_of (P := fun u => u.gas.stage ≠ .pulse) ?_ (fun k u hk hu => reportF_undriven hk hu)
      (fun _ hu => hu)
    rw [bellSampled_eq, (handSample_loses_gas h).1]
    decide
  have parked : (bellEnded made reply s).gas = (endBellTransaction (takenReply made reply) (transactionEnded s)).gas := by
    simp [bellEnded]
  simpa [State.gasOn, parked] using off

/-- The frame of a bell transaction without a usable sample: neither drive term nor rate, and no free value used. -/
theorem headFrame_bellEnded_unusable {made : Bool} {reply : SensorReply} {s : State}
    (h : ¬(s.sensor.header.validity = .valid
      ∧ (channelAfter (takenReply made reply) s.sensor.bell).validity = .valid)) :
    HeadFrame
      { s with
        sensor :=
          { s.sensor with
            transaction := none, bell := channelAfter (takenReply made reply) s.sensor.bell
            sample := (bellEnded made reply s).sensor.sample, headerLostDue := false }
        dose :=
          { s.dose with
            drive := none, rate := none, elapsed := (bellEnded made reply s).dose.elapsed
            credited := (bellEnded made reply s).dose.credited } }
      (bellEnded made reply s) := by
  obtain ⟨drive, rate, free⟩ := bellEnded_drive made reply s
  obtain ⟨dose, count⟩ := sampleFormed_unusable (s := bellSet (takenReply made reply) (transactionEnded s)) h
  have frame := headFrame_bellEnded made reply s
  rw [drive, rate, free, dose, count] at frame
  exact frame

/-- In CHECK a sample with the bell VALID is not the sequencer's to end gassing at (R91). -/
theorem gasTakesSample_checks {s : State} (hs : s.gas.stage = .check) (hb : s.sensor.sample.bell = .valid) :
    gasTakesSample s = s := by
  simp [gasTakesSample, hs, hb]

/-- With no loss to report and the silence limit not reached, the transaction ends at its sample. -/
theorem bellEnded_calm {made : Bool} {reply : SensorReply} {s : State}
    (hl : bellLost (takenReply made reply) s = false) (hd : s.sensor.headerLostDue = false)
    (hc : (handSample (bellSet (takenReply made reply) (transactionEnded s))).cycle = s.cycle)
    (hq : s.cycle.silenceOver = false) :
    bellEnded made reply s = handSample (bellSet (takenReply made reply) (transactionEnded s)) := by
  rw [bellEnded_unlost hl hd, parkTest_of_calm (by rw [hc, hq])]

/-- A check with the bell VALID goes on at a sample whose header is not VALID and whose loss is not due (R91, R65). -/
theorem checkGoesOn {made : Bool} {reply : SensorReply} {s : State} {c : CanContext} (hc : s.context = some c)
    (hq : s.cycle.silenceOver = false) (hs : s.gas.stage = .check) (hd : s.sensor.headerLostDue = false)
    (hv : s.sensor.header.validity ≠ .valid)
    (hb : (channelAfter (takenReply made reply) s.sensor.bell).validity = .valid) :
    let t := bellEnded made reply s
    t.gas = s.gas ∧ t.cycle = s.cycle ∧ t.fault = s.fault ∧ t.dose.drive = none
      ∧ t.context.map (fun d => (d.check, d.reasons)) = some (c.check, c.reasons) := by
  let u := bellSet (takenReply made reply) (transactionEnded s)
  have runs : handSample u = watermarkTest (countSample (sampleFormed u)) := by
    rw [handSample_eq, gasTakesSample_checks]
    · simp only [countSample_keeps, sampleFormed_keeps]
      exact hs
    · simp only [countSample_keeps, sampleFormed_keeps]
      exact hb
  have cycle : (handSample u).cycle = s.cycle := by
    rw [runs]
    simp only [watermarkTest_keeps, countSample_keeps, sampleFormed_keeps]
    rfl
  have unusable : ¬(u.sensor.header.validity = .valid ∧ u.sensor.bell.validity = .valid) := fun hu => hv hu.1
  obtain ⟨f, hf⟩ := onlyFlags_counted unusable
  obtain ⟨drive, -⟩ := bellEnded_drive made reply s
  have context : (handSample u).context = some { c with conditions := f c } := by
    rw [runs, watermarkTest_context, hf, show u.context = some c from hc]
    · rfl
    · simp only [countSample_keeps, sampleFormed_keeps]
      rw [show u.gas.stage = .check from hs]
      decide
  have calm := bellEnded_calm (bellLost_of_valid (r := takenReply made reply) hb) hd cycle hq
  refine ⟨?_, ?_, ?_, ?_, ?_⟩
  · rw [calm, runs]
    simp only [watermarkTest_keeps, countSample_keeps, sampleFormed_keeps]
    rfl
  · rw [calm, cycle]
  · rw [calm]
    simp only [handSample_keeps]
    rfl
  · rw [drive, (sampleFormed_unusable unusable).1]
  · rw [calm, context]
    rfl

/-- Settles O20: by whether a loss is reported after the sample; and the check that a lost header leaves alone. -/
theorem lostChannelEndsGassing : Obligations.LostChannelEndsGassing := by
  unfold Obligations.LostChannelEndsGassing
  refine ⟨fun reply s c begun made ht hr hc hq hlost => ?_, fun reply s c begun made ht _ hc hq hs hd hv hb => ?_⟩
  · have h : Loses (bellSet (takenReply made reply) (transactionEnded s)) := hlost
    obtain ⟨bellLatched, headerLatched⟩ := latched_bellEnded made reply s
    have due {p q r d : Prop} (hl : (p ∧ q ∧ r) ∨ d) : ((p ∧ q) ∧ r) ∨ d := hl.imp_left and_assoc.2
    have closed (hl : _) : ClosedByLoss c s (bellEnded made reply s) :=
      closedByLoss_bellEnded h hr hc (by rw [bellLost_iff]; exact due hl)
    rw [exec_eq_effect, effect_bellEnd reply ht]
    refine ⟨_, rfl, bellEnded_gasOff h, fun hd hl => ?_, fun hl => ?_, fun hl => headerLatched hl.1, fun hl => ?_,
      fun hl hroom => (closed hl).record hroom, headFrame_bellEnded_unusable h.unusable⟩
    · have unlost : bellLost (takenReply made reply) s = false :=
        Bool.eq_false_iff.2 fun hb => hl ((bellLost_iff ..).1 hb)
      obtain ⟨stage, settle, check, cycle⟩ := handSample_loses_gas h
      obtain ⟨d, hctx, -, reason, verdict, pulse⟩ := handSample_loses_context h hc
      have flag := windowCut_handSample_of_context (u := bellSet (takenReply made reply) (transactionEnded s)) hc
      rw [bellEnded_calm unlost hd cycle hq]
      refine ⟨stage, settle, check, cycle, ?_, ?_, ?_, ?_, pulse⟩
      · simp only [handSample_keeps]
        rfl
      · rw [hctx]
        exact congrArg some (decide_eq_true reason)
      · exact flag
      · rw [hctx]
        exact congrArg some verdict
    · obtain ⟨fresh, stale, -⟩ := hl
      exact bellLatched ((bellLost_iff ..).2 ⟨fresh, stale⟩)
    · obtain ⟨station, phase, context, stage, -⟩ := closed hl
      exact ⟨station, phase, context, stage⟩
  · rw [exec_eq_effect, effect_bellEnd reply ht]
    exact ⟨_, rfl, checkGoesOn hc hq hs hd hv hb⟩

end Sys2Proof.Machine
end

section
/-!
PROOFS. The dose arithmetic (O47, O48): the square root of R56, the drive term by its regions, the credits of a list of
samples, the length of a plan, and the drive term that every bell transaction leaves.
-/

namespace Sys2Proof.Machine

/-! ## The square root -/

/-- The search keeps the root between what it has found and what the bits still to come can add. -/
theorem isqrtFrom_bounds (n : Nat) : ∀ k root : Nat, root * root ≤ n → n < (root + 2 ^ k) * (root + 2 ^ k) →
    isqrtFrom n k root * isqrtFrom n k root ≤ n ∧ n < (isqrtFrom n k root + 1) * (isqrtFrom n k root + 1)
  | 0, _, hl, hu => ⟨hl, hu⟩
  | k + 1, root, hl, hu => by
    by_cases ht : (root + 2 ^ k) * (root + 2 ^ k) ≤ n
    · have step : isqrtFrom n (k + 1) root = isqrtFrom n k (root + 2 ^ k) := if_pos ht
      rw [step]
      refine isqrtFrom_bounds n k _ ht ?_
      rwa [Nat.add_assoc, ← Nat.two_mul, ← Nat.pow_succ']
    · have step : isqrtFrom n (k + 1) root = isqrtFrom n k root := if_neg ht
      rw [step]
      exact isqrtFrom_bounds n k root hl (Nat.lt_of_not_le ht)

/-- The search over sixteen bits finds the root of every number below 2^32 (R56). -/
theorem isqrt_eq_sqrt {n : Nat} (h : n < 65536 * 65536) : isqrt n = Nat.sqrt n := by
  obtain ⟨hl, hu⟩ := isqrtFrom_bounds n 16 0 (Nat.zero_le n) h
  exact Nat.eq_sqrt.2 ⟨hl, hu⟩

/-! ## The drive term (R56) -/

theorem driveTerm_choked {ph pc : Nat} (h : pc ≤ ph / 2) : driveTerm ph pc = ph := if_pos h

theorem driveTerm_equalised {ph pc : Nat} (h : ph ≤ pc) : driveTerm ph pc = 0 := by
  unfold driveTerm
  (repeat' split) <;> omega

/-- The product under the root is at most a quarter of the square of Ph. -/
theorem four_product_le (pc d : Nat) : 4 * (pc * d) ≤ (pc + d) * (pc + d) := by
  rw [← Nat.mul_assoc, ← Nat.pow_two]
  exact four_mul_le_sq_add pc d

/-- Between half of Ph and Ph the product of R56 falls as Pc rises. -/
theorem product_antitone {ph pc qc : Nat} (hp : ph / 2 < pc) (hq : pc ≤ qc) (hh : qc ≤ ph) :
    qc * (ph - qc) ≤ pc * (ph - pc) := by
  obtain ⟨d, rfl⟩ := Nat.exists_eq_add_of_le hq
  obtain ⟨e, rfl⟩ := Nat.exists_eq_add_of_le hh
  have past : e ≤ pc := by omega
  rw [Nat.add_sub_cancel_left, show pc + d + e - pc = d + e by omega]
  nlinarith [Nat.mul_le_mul_left d past]

section
variable {ph pc : Nat}

theorem product_lt (h : ph ≤ 4095) (hp : pc < ph) : pc * (ph - pc) < 65536 * 65536 :=
  Nat.mul_lt_mul'' (by omega) (by omega)

theorem driveTerm_between (h : ph ≤ 4095) (hl : ph / 2 < pc) (hu : pc < ph) :
    driveTerm ph pc = 2 * Nat.sqrt (pc * (ph - pc)) := by
  rw [driveTerm, if_neg (by omega), if_pos hu, isqrt_eq_sqrt (product_lt h hu)]

theorem driveTerm_le (h : ph ≤ 4095) : driveTerm ph pc ≤ ph := by
  by_cases hl : pc ≤ ph / 2
  · rw [driveTerm_choked hl]
  by_cases hu : pc < ph
  · have root := Nat.sqrt_le (pc * (ph - pc))
    have quarter := four_product_le pc (ph - pc)
    rw [Nat.add_sub_cancel' hu.le] at quarter
    rw [driveTerm_between h (by omega) hu]
    exact Nat.mul_self_le_mul_self_iff.1 (by nlinarith)
  · rw [driveTerm_equalised (by omega)]
    exact Nat.zero_le ph

theorem driveTerm_antitone {qc : Nat} (h : ph ≤ 4095) (hq : pc ≤ qc) : driveTerm ph qc ≤ driveTerm ph pc := by
  by_cases hl : pc ≤ ph / 2
  · rw [driveTerm_choked hl]
    exact driveTerm_le h
  by_cases hu : qc < ph
  · rw [driveTerm_between h (by omega) hu, driveTerm_between h (by omega) (by omega)]
    exact Nat.mul_le_mul_left 2 (Nat.sqrt_le_sqrt (product_antitone (by omega) hq hu.le))
  · rw [driveTerm_equalised (by omega)]
    exact Nat.zero_le _

end

/-! ## Rate and credit -/

theorem predictedRate_le {k f : Nat} (hk : k ≤ 65535) (hf : f ≤ 4095) : predictedRate k f ≤ 65519 :=
  calc k * f / 4096 ≤ 65535 * 4095 / 4096 := Nat.div_le_div_right (Nat.mul_le_mul hk hf)
    _ ≤ 65519 := by decide

/-- The credit and the new remainder make up the sum of R59. -/
theorem credit_exact (k f remainder : Nat) :
    4096 * creditOf k f remainder + remainderAfter k f remainder = k * f + remainder :=
  Nat.div_add_mod ..

theorem remainderAfter_lt (k f remainder : Nat) : remainderAfter k f remainder < 4096 := Nat.mod_lt _ (by decide)

/-- The sum of the credits with the remainder held, one more drive term credited (R59). -/
def creditStep (k : Nat) (m : Nat × Nat) (f : Nat) : Nat × Nat := (m.1 + creditOf k f m.2, remainderAfter k f m.2)

/-- A list of credits, from any sum and remainder, loses nothing of the K f. -/
theorem foldl_creditStep (k : Nat) : ∀ (terms : List Nat) (m : Nat × Nat), m.2 < 4096 →
    4096 * (terms.foldl (creditStep k) m).1 + (terms.foldl (creditStep k) m).2
        = 4096 * m.1 + m.2 + k * terms.sum
      ∧ (terms.foldl (creditStep k) m).2 < 4096
  | [], _, hm => ⟨rfl, hm⟩
  | f :: rest, m, _ => by
    obtain ⟨total, last⟩ := foldl_creditStep k rest (creditStep k m f) (remainderAfter_lt ..)
    have exact_step := credit_exact k f m.2
    refine ⟨total.trans ?_, last⟩
    rw [List.sum_cons, Nat.mul_add, creditStep]
    omega

/-! ## The length of a plan (R71) -/

section
variable {m r : Nat}

/-- Fewer samples than the quotient rounded up fall short. -/
theorem mul_lt_of_lt_ceilDiv {k : Nat} (h : k < ceilDiv m r) (hr : 1 ≤ r) : k * r < m := by
  have reach := (Nat.le_div_iff_mul_le hr).1 (Nat.succ_le_of_lt h)
  rw [Nat.succ_mul] at reach
  omega

/-- The quotient rounded up, or more, reaches the mass. -/
theorem le_mul_of_ceilDiv_le {k : Nat} (h : ceilDiv m r ≤ k) (hr : 1 ≤ r) : m ≤ k * r := by
  have short := (Nat.div_lt_iff_lt_mul hr).1 (Nat.lt_succ_of_le h)
  rw [Nat.succ_mul] at short
  omega

end

theorem clampTo_cases {low high : Nat} (v : Nat) (h : low ≤ high) :
    low ≤ clampTo low high v ∧ clampTo low high v ≤ high
      ∧ (low < clampTo low high v → clampTo low high v ≤ v) ∧ (clampTo low high v < high → v ≤ clampTo low high v) := by
  unfold clampTo
  (repeat' split) <;> omega

theorem plannedLength_least {p : Recipe} {mass rate : Nat} (hr : 1 ≤ rate) (hp : p.shortest ≤ p.longest) :
    p.shortest ≤ plannedLength p mass rate ∧ plannedLength p mass rate ≤ p.longest
      ∧ (p.shortest < plannedLength p mass rate →
        (plannedLength p mass rate - 1) * rate < p.targetMass - mass)
      ∧ (plannedLength p mass rate < p.longest → p.targetMass - mass ≤ plannedLength p mass rate * rate) := by
  obtain ⟨low, high, least, enough⟩ := clampTo_cases (ceilDiv (p.targetMass - mass) rate) hp
  refine ⟨low, high, fun h => mul_lt_of_lt_ceilDiv ?_ hr, fun h => le_mul_of_ceilDiv_le (enough h) hr⟩
  have above := least h
  unfold plannedLength at h ⊢
  omega

/-- Settles O48: the drive term by its regions, the credits by induction on the list, the length by its clamp. -/
theorem doseArithmeticIsExact : Obligations.DoseArithmeticIsExact := by
  unfold Obligations.DoseArithmeticIsExact
  refine ⟨fun ph pc qc h => ⟨(driveTerm_le h).trans h, driveTerm_antitone h⟩, fun k f => predictedRate_le,
    fun k f remainder => ⟨credit_exact .., remainderAfter_lt ..⟩, fun k terms => ?_,
    fun p mass rate hr hp => plannedLength_least hr hp⟩
  obtain ⟨total, last⟩ := foldl_creditStep k terms (0, 0) (by decide)
  exact ⟨total.trans (Nat.zero_add _), last⟩

/-! ## The drive term of a sample -/

theorem formSample_le (p : SensorUnit) : (formSample p).ph ≤ 4095 ∧ (formSample p).pc ≤ 4095 := by
  rw [formSample_eq]
  dsimp only
  omega

/-- Settles O47: the drive term by its regions, and the one that a bell transaction's sample leaves. -/
theorem driveTermOfEverySample : Obligations.DriveTermOfEverySample := by
  unfold Obligations.DriveTermOfEverySample
  refine ⟨fun ph pc h => ⟨driveTerm_choked, fun hl hu => ?_, driveTerm_equalised, driveTerm_choked (Nat.zero_le _),
    driveTerm_equalised h⟩, fun reply s begun made ht => ?_⟩
  · exact ⟨_, driveTerm_between h hl hu, Nat.sqrt_le _, Nat.lt_succ_sqrt _⟩
  · obtain ⟨-, -, sample⟩ := bellEnded_channels made reply s
    obtain ⟨drive, -⟩ := bellEnded_drive made reply s
    obtain ⟨ph, pc⟩ := formSample_le { s.sensor with bell := channelAfter (takenReply made reply) s.sensor.bell }
    rw [exec_eq_effect, effect_bellEnd reply ht]
    refine ⟨_, rfl, ?_, ?_, fun hv => ?_, fun hv => ?_⟩
    · rw [sample]
      exact ph
    · rw [sample]
      exact pc
    · rw [sample] at hv ⊢
      rw [drive, sampleFormed_drive hv]
      rfl
    · rw [sample] at hv
      rw [drive, (sampleFormed_unusable (not_and_or.2 hv)).1]

end Sys2Proof.Machine
end

section
/-!
PROOFS. The decisions of the Gas Sequencer (O26): a plan in the order of R79's table, at the settle timer and at a bell
sample, and the judgement of the leak check.
-/

namespace Sys2Proof.Machine

/-! ## Plans -/

section
variable {p : Recipe} {mass : Nat} {drive rate : Option Nat}

theorem planFrom_complete (h : p.targetMass ≤ mass + p.tolerance) : planFrom p mass drive rate = .complete := if_pos h

theorem planFrom_noReading (h : ¬p.targetMass ≤ mass + p.tolerance) (hd : drive = none ∨ rate = none) :
    planFrom p mass drive rate = .noReading := by
  cases drive <;> cases rate <;> simp_all [planFrom]

theorem planFrom_rate {f r : Nat} (h : ¬p.targetMass ≤ mass + p.tolerance) :
    planFrom p mass (some f) (some r) = if r = 0 then .noDrive else .pulse (plannedLength p mass r) := by
  rw [planFrom, if_neg h]

theorem planFrom_ne_complete (h : ¬p.targetMass ≤ mass + p.tolerance) : planFrom p mass drive rate ≠ .complete := by
  match drive, rate with
  | none, _ => simp [planFrom_noReading h]
  | some _, none => simp [planFrom_noReading h]
  | some f, some r =>
    rw [planFrom_rate h]
    split <;> nofun

/-- A plan short of its target answers NO_DRIVE just at a rate of 0 (R70). -/
theorem planFrom_noDrive_iff (h : ¬p.targetMass ≤ mass + p.tolerance) :
    planFrom p mass drive rate = .noDrive ↔ drive ≠ none ∧ rate = some 0 := by
  cases drive with
  | none => simp [planFrom_noReading h]
  | some f =>
    cases rate with
    | none => simp [planFrom_noReading h]
    | some r =>
      rw [planFrom_rate h]
      by_cases h0 : r = 0 <;> simp [h0]

end

/-! ## An open context written -/

/-- The head with the can context `c` open. -/
def State.inContext (c : CanContext) (s : State) : State := { s with context := some c }

/-- The candidates once the final M is compared with Mt + Mtol (R74). -/
def doseReasons (p : Recipe) (mass : Nat) (reasons : List Reason) : List Reason :=
  if p.targetMass + p.tolerance < mass then insertReason .highDose reasons else reasons

theorem doseReasons_of_light {p : Recipe} {mass : Nat} {reasons : List Reason}
    (h : ¬p.targetMass ≤ mass + p.tolerance) : doseReasons p mass reasons = reasons := if_neg (by omega)

/-- The conditions once a plan's NO_DRIVE is noted (R70). -/
def driveFlags (a : PlanAnswer) (flags : BitVec 16) : BitVec 16 :=
  if a = .noDrive then setCondition .noDrive flags else flags

/-- The conditions once a hold is noted (R79, R81). -/
def holdFlags (table : Table Nat) (flags : BitVec 16) : BitVec 16 :=
  if table = [] then flags else setCondition .holdWait flags

/-- The sequencer in ENDED, no timer of a stage running. -/
def GasUnit.ended (g : GasUnit) : GasUnit := { g with stage := .ended, settleTimer := none, checkTimer := none }

/-- The pocket moved from one phase to another (R15). -/
def CycleUnit.moved (before after : Phase) (y : CycleUnit) : CycleUnit :=
  { y with phase := if y.phase = before then after else y.phase }

theorem advancePhase_eq (before after : Phase) (s : State) :
    advancePhase before after s = { s with cycle := s.cycle.moved before after } := by
  unfold advancePhase CycleUnit.moved
  split <;> rfl

section
variable {c : CanContext} {g : GasPart}

theorem inContext_of {s : State} (hc : s.context = some c) : s.inContext c = s := by
  rw [State.inContext, ← hc]

variable (c) (s : State)

theorem addReason_inContext (r : Reason) :
    addReason r (s.inContext c) = s.inContext { c with reasons := insertReason r c.reasons } := rfl

theorem addCondition_inContext (k : Condition) :
    addCondition k (s.inContext c) = s.inContext { c with conditions := setCondition k c.conditions } := rfl

theorem noteNoDrive_inContext (a : PlanAnswer) :
    noteNoDrive a (s.inContext c) = s.inContext { c with conditions := driveFlags a c.conditions } := by
  unfold noteNoDrive driveFlags
  split <;> rfl

theorem noteHold_inContext :
    noteHold (s.inContext c) = s.inContext { c with conditions := holdFlags s.hold.table c.conditions } := by
  have table : (s.inContext c).hold.table = s.hold.table := rfl
  rw [noteHold, holdFlags, table]
  cases s.hold.table <;> rfl

variable {c} (hg : c.gas = some g)
include hg

theorem pulses_inContext : (s.inContext c).pulses = g.pulses := by
  rw [State.pulses, gasPart_of_context (s := s.inContext c) rfl hg]
  rfl

/-- The plan made with the gas part of an open context (R70). -/
theorem planAnswer_inContext :
    (s.inContext c).planAnswer = planFrom s.params g.mass s.dose.drive s.dose.rate := by
  rw [State.planAnswer, State.mass, gasPart_of_context (s := s.inContext c) rfl hg]
  rfl

/-! ## The ends of gassing -/

theorem compareDose_inContext :
    compareDose (s.inContext c) = s.inContext { c with reasons := doseReasons s.params g.mass c.reasons } :=
  compareDose_eq (s := s.inContext c) rfl hg

theorem enterEnded_inContext :
    enterEnded (s.inContext c) =
      State.inContext { c with reasons := doseReasons s.params g.mass c.reasons } { s with gas := s.gas.ended } :=
  compareDose_inContext { s with gas := s.gas.ended } hg

theorem endGassing_inContext :
    endGassing (s.inContext c) =
      State.inContext { c with reasons := doseReasons s.params g.mass c.reasons }
        { s with cycle := s.cycle.moved .gas .sealed, gas := s.gas.ended } := by
  rw [endGassing, enterEnded_inContext s hg, advancePhase_eq]
  rfl

/-- A complete dose with a check configured starts the check (R90, R91). -/
theorem doseComplete_checks (h0 : s.params.checkInterval ≠ 0) :
    doseComplete (s.inContext c) =
      State.inContext
        { c with
          reasons := doseReasons s.params g.mass c.reasons
          check := some { pcAtStart := s.sensor.sample.pc, pcAtEnd := none, verdict := .pending } }
        { s with
          cycle := s.cycle.moved .gas .check
          gas := { s.gas with stage := .check, settleTimer := none, checkTimer := some s.clock } } := by
  have interval : (s.inContext c).params.checkInterval ≠ 0 := h0
  rw [doseComplete, if_neg interval, compareDose_inContext s hg, advancePhase_eq]
  rfl

/-! ## The decision in PLAN (R79) -/

theorem decideInPlan_complete (h : s.params.targetMass ≤ g.mass + s.params.tolerance) :
    decideInPlan (s.inContext c) = doseComplete (s.inContext c) :=
  if_pos ((planAnswer_inContext s hg).trans (planFrom_complete h))

section
variable (h : ¬s.params.targetMass ≤ g.mass + s.params.tolerance)
include h

/-- The decision on an incomplete plan, the pulse limit before the answer (R79). -/
theorem decideInPlan_incomplete :
    let a := planFrom s.params g.mass s.dose.drive s.dose.rate
    let noted := s.inContext { c with conditions := driveFlags a c.conditions }
    decideInPlan (s.inContext c) =
      if s.params.maxPulses ≤ g.pulses.length then
        endGassing (addCondition .maxPulses (addReason .lowDose noted))
      else actOnAnswer a noted := by
  intro a noted
  have pulses : noted.pulses = g.pulses := pulses_inContext s hg
  have short : (s.inContext c).planAnswer ≠ .complete := by
    rw [planAnswer_inContext s hg]
    exact planFrom_ne_complete h
  rw [decideInPlan, if_neg short, planAnswer_inContext s hg, noteNoDrive_inContext, ← pulses]
  rfl

theorem decideInPlan_limit (hl : s.params.maxPulses ≤ g.pulses.length) :
    decideInPlan (s.inContext c) =
      State.inContext
        { c with
          reasons := insertReason .lowDose c.reasons
          conditions :=
            setCondition .maxPulses
              (driveFlags (planFrom s.params g.mass s.dose.drive s.dose.rate) c.conditions) }
        { s with cycle := s.cycle.moved .gas .sealed, gas := s.gas.ended } := by
  rw [decideInPlan_incomplete s hg h, if_pos hl, addReason_inContext, addCondition_inContext,
    endGassing_inContext s (by exact hg), doseReasons_of_light h]

variable (hl : ¬s.params.maxPulses ≤ g.pulses.length)
include hl

theorem decideInPlan_noReading (hd : s.dose.drive = none ∨ s.dose.rate = none) :
    decideInPlan (s.inContext c) = s.inContext c := by
  rw [decideInPlan_incomplete s hg h, if_neg hl, planFrom_noReading h hd]
  rfl

variable {f r : Nat} (hd : s.dose.drive = some f) (hr : s.dose.rate = some r)
include hd hr

/-- A hold, or a plan without drive, keeps the sequencer in PLAN with its mark (R79). -/
theorem decideInPlan_waits (hw : s.hold.table ≠ [] ∨ r = 0) :
    decideInPlan (s.inContext c) =
      s.inContext
        { c with
          conditions :=
            holdFlags s.hold.table
              (driveFlags (planFrom s.params g.mass s.dose.drive s.dose.rate) c.conditions) } := by
  have held (u : State) (hu : u.hold = s.hold) :
      actOnAnswer (planFrom s.params g.mass s.dose.drive s.dose.rate) u = noteHold u := by
    rw [hd, hr, planFrom_rate h]
    split
    · rfl
    · next h0 =>
      have table : u.hold.table ≠ [] := by
        rw [hu]
        exact hw.resolve_right h0
      simp [actOnAnswer, noteHold, table]
  rw [decideInPlan_incomplete s hg h, if_neg hl, held (s.inContext _) rfl, noteHold_inContext]

/-- A plan with a length and no hold goes to CLAIM (R79, R129). -/
theorem decideInPlan_claims (ht : s.hold.table = []) (h0 : r ≠ 0) :
    decideInPlan (s.inContext c) =
      requestClaim (State.inContext c { s with gas := { s.gas with stage := .claim } }) := by
  have empty : (s.inContext c).hold.table.isEmpty = true := List.isEmpty_iff.2 ht
  rw [decideInPlan_incomplete s hg h, if_neg hl, hd, hr, planFrom_rate h, if_neg h0]
  exact if_pos empty

end

end

/-! ## The timers -/

/-- The expiry of a timer outside its stage, stopped or before its limit has no effect (log 3). -/
theorem not_expires {p : Prop} {clock limit : Nat} {since : Option Nat}
    (h : ¬p ∨ since = none ∨ ∃ t, since = some t ∧ clock < t + limit * 500) :
    ¬(p ∧ hasExpired clock since limit = true) := by
  rintro ⟨hp, expired⟩
  obtain ⟨t, rfl, due⟩ := (hasExpired_iff ..).1 expired
  obtain h | h | ⟨u, hu, early⟩ := h
  · exact h hp
  · nomatch h
  · obtain rfl := Option.some.inj hu
    omega

/-! ## The leak check (R91) -/

/-- Whether the check finds a leak: the fall, or a Pc at entry that the Pc at end does not exceed. -/
def leaks (p : Recipe) (pcStart pcEnd : Nat) (pcAtEntry : Option Nat) : Bool :=
  decide (pcEnd + p.leakFall < pcStart) || pcAtEntry.any (fun e => decide (pcEnd ≤ e))

theorem leakVerdict_eq (p : Recipe) (pcStart pcEnd : Nat) (pcAtEntry : Option Nat) :
    leakVerdict p pcStart pcEnd pcAtEntry = if leaks p pcStart pcEnd pcAtEntry then .leak else .tight := by
  by_cases hf : pcEnd + p.leakFall < pcStart
  · simp [leakVerdict, leaks, hf]
  · cases pcAtEntry <;> simp [leakVerdict, leaks, hf]

theorem judgeSeal_eq {s : State} {c : CanContext} {g : GasPart} {k : CheckPart} (hc : s.context = some c)
    (hg : c.gas = some g) (hk : c.check = some k) :
    let leak := leaks s.params k.pcAtStart s.sensor.sample.pc g.pcAtEntry
    judgeSeal s =
      { s with
        context :=
          some
            { c with
              check := some { k with pcAtEnd := some s.sensor.sample.pc, verdict := if leak then .leak else .tight }
              reasons :=
                doseReasons s.params g.mass (if leak then insertReason .leak c.reasons else c.reasons) }
        cycle := { s.cycle with phase := if s.cycle.phase = .check then .sealed else s.cycle.phase }
        gas := { s.gas with stage := .ended, settleTimer := none, checkTimer := none } } := by
  intro leak
  have verdict : leakVerdict s.params (((s.context.bind (·.check)).map (·.pcAtStart)).getD 0) s.sensor.sample.pc
      (s.gasPart.bind (·.pcAtEntry)) = if leak then .leak else .tight := by
    rw [gasPart_of_context hc hg, hc]
    simp only [Option.bind_some, hk, Option.map_some, Option.getD_some]
    exact leakVerdict_eq ..
  have written (v : Verdict) :
      onCheckPart (fun k => { k with pcAtEnd := some s.sensor.sample.pc, verdict := v }) s =
        s.inContext { c with check := some { k with pcAtEnd := some s.sensor.sample.pc, verdict := v } } := by
    simp only [onCheckPart, onContext, hc, Option.map_some, hk]
    rfl
  simp only [judgeSeal, verdict, written]
  cases leak with
  | true =>
    simp only [if_true, addReason_inContext]
    rw [enterEnded_inContext _ (by exact hg), advancePhase_eq]
    rfl
  | false =>
    simp only [Bool.false_eq_true, if_false, reduceCtorEq]
    rw [enterEnded_inContext _ (by exact hg), advancePhase_eq]
    rfl

/-! ## A bell sample in PLAN -/

/-- A sample outside a pulse is counted where a pulse is still marked as running, and credited nowhere (R58, R63). -/
theorem countSample_undriven {s : State} (hs : s.gas.stage ≠ .pulse) :
    countSample s =
      { s with
        dose := { s.dose with elapsed := if s.dose.running then s.dose.elapsed + 1 else s.dose.elapsed } } := by
  have credits : s.credits = false := by simp [State.credits, State.gasOn, hs]
  unfold countSample
  rw [credits]
  split <;> rfl

theorem gasTakesSample_plans {s : State} (hs : s.gas.stage = .plan) (hu : sampleUsable s.sensor.sample = true) :
    gasTakesSample s = decideInPlan s := by
  simp [gasTakesSample, hs, hu]

/-- A bell transaction that ends in PLAN with both channels VALID: the sample formed, the plan decided, and then the
watermark test. -/
theorem bellEnded_plans {made : Bool} {reply : SensorReply} {s : State} {c : CanContext} {g : GasPart}
    (hc : s.context = some c) (hg : c.gas = some g) (hs : s.gas.stage = .plan) (hl : s.cycle.station ≠ .loading)
    (hq : s.cycle.silenceOver = false) (hd : s.sensor.headerLostDue = false) (hv : s.sensor.header.validity = .valid)
    (hb : (channelAfter (takenReply made reply) s.sensor.bell).validity = .valid) :
    bellEnded made reply s =
      watermarkTest
        (decideInPlan
          (countSample (sampleFormedIn c (bellSet (takenReply made reply) (transactionEnded s))))) := by
  let u := bellSet (takenReply made reply) (transactionEnded s)
  have handed : handSample u = watermarkTest (decideInPlan (countSample (sampleFormedIn c u))) := by
    rw [handSample_eq, sampleFormed_eq (s := u) hc hg ⟨hv, hb⟩ hl, gasTakesSample_plans]
    · simp only [countSample_keeps]
      exact hs
    · simp only [countSample_keeps]
      exact (sampleUsable_formSample _).2 ⟨hv, hb⟩
  have calm : (handSample u).cycle.silenceOver = false := by
    rw [handed, (watermarkTest_keeps _).2.2.2.2.1, (workKept_decideInPlan _).station]
    simp only [countSample_keeps]
    exact hq
  rw [bellEnded_unlost (bellLost_of_valid hb) hd, parkTest_of_calm calm]
  exact handed

/-- Settles O26: the timers, the decision row by row of R79's table, the bell sample in PLAN, and the leak check. -/
theorem planAndCheckDecideGassing : Obligations.PlanAndCheckDecideGassing := by
  unfold Obligations.PlanAndCheckDecideGassing
  refine ⟨fun s c g hc hg => ?_, fun s c g k since => ⟨fun h => ?_, fun ht hlt => ?_, fun hs ht hle hc hg hk => ?_⟩⟩
  · intro cond high toPhase complete limit noDrive held
    have decided {t : State} (h : decideInPlan (s.inContext c) = t) : decideInPlan s = t := by
      rwa [inContext_of hc] at h
    have flags (h : ¬complete) (x : BitVec 16) :
        driveFlags (planFrom s.params g.mass s.dose.drive s.dose.rate) x = cond .noDrive noDrive x :=
      if_congr ((planFrom_noDrive_iff h).trans decide_eq_true_iff.symm) rfl rfl
    have wait (x : BitVec 16) : holdFlags s.hold.table x = cond .holdWait held x :=
      (ite_not ..).symm.trans (if_congr decide_eq_true_iff.symm rfl rfl)
    refine ⟨fun h => ?_, fun since ht hlt => ?_, fun since hs ht hle => ?_, fun h h0 => decided ?_,
      fun h h0 => decided ?_, fun h hl => decided ?_, fun h hl hd => ?_, fun h hl hd hr hw => decided ?_,
      fun h hl hd hr hheld hdrive => ?_, ?_⟩
    · rw [exec_eq_effect, effect_settleTimerExpiry, if_neg (not_expires (h.imp_right .inl))]
    · rw [exec_eq_effect, effect_settleTimerExpiry, if_neg (not_expires (.inr (.inr ⟨since, ht, hlt⟩)))]
    · rw [exec_eq_effect, effect_settleTimerExpiry, if_pos ⟨hs, (hasExpired_iff ..).2 ⟨since, ht, hle⟩⟩]
      rfl
    · rw [decideInPlan_complete s hg h]
      exact (if_pos h0).trans (endGassing_inContext s hg)
    · rw [decideInPlan_complete s hg h]
      exact doseComplete_checks s hg h0
    · rw [decideInPlan_limit s hg h hl, flags h]
      rfl
    · exact decided ((decideInPlan_noReading s hg h hl hd).trans (inContext_of hc))
    · obtain ⟨f, hf⟩ := Option.ne_none_iff_exists'.1 hd
      obtain ⟨r, hr⟩ := Option.ne_none_iff_exists'.1 hr
      rw [decideInPlan_waits s hg h hl hf hr (by simpa [held, noDrive, hf, hr] using hw), wait, flags h]
      rfl
    · obtain ⟨f, hf⟩ := Option.ne_none_iff_exists'.1 hd
      obtain ⟨r, hr⟩ := Option.ne_none_iff_exists'.1 hr
      rw [decided (decideInPlan_claims s hg h hl hf hr (by simpa [held] using hheld)
        (by simpa [noDrive, hf, hr] using hdrive)), State.inContext, ← hc]
    · intro reply begun made r bell p f ht hs hst hq hdue hv hb
      have clamp : clampFlags p c.conditions = cond .pcClamped (decide (p.pcClamped ≠ .no)) c.conditions :=
        (ite_not ..).symm.trans (if_congr decide_eq_true_iff.symm rfl rfl)
      have undriven : (sampleFormedIn c (bellSet (takenReply made reply) (transactionEnded s))).gas.stage ≠ .pulse :=
        ne_of_eq_of_ne hs nofun
      rw [exec_eq_effect, effect_bellEnd reply ht, bellEnded_plans hc hg hs hst hq hdue hv hb,
        countSample_undriven undriven, ← clamp, ← hb]
      rfl
  · rw [exec_eq_effect, effect_checkTimerExpiry, if_neg (not_expires (h.imp_right .inl))]
  · rw [exec_eq_effect, effect_checkTimerExpiry, if_neg (not_expires (.inr (.inr ⟨since, ht, hlt⟩)))]
  · rw [exec_eq_effect, effect_checkTimerExpiry, if_pos ⟨hs, (hasExpired_iff ..).2 ⟨since, ht, hle⟩⟩,
      judgeSeal_eq hc hg hk]
    rfl

end Sys2Proof.Machine
end

section
/-!
PROOFS. The end of a pulse at its report (O19): the pulse judged at the sample that ends it, the strikes it costs, and
what GAS_FB then shows.
-/

namespace Sys2Proof.Machine

/-! ## The judgement of a pulse (R85, R86) -/

theorem onLast_eq {α : Type} (f : α → α) {a : α} : ∀ {l : List α}, l.getLast? = some a →
    onLast f l = l.dropLast ++ [f a]
  | [], h => nomatch h
  | [_], h => congrArg (fun x => [f x]) (Option.some.inj h)
  | x :: y :: rest, h => by
    have last := onLast_eq f (l := y :: rest) (by rwa [List.getLast?_cons_cons] at h)
    rw [onLast, last]
    rfl

/-- A pulse entry as it is closed at the latest sample (R65). -/
def Pulse.closed (o : PulseOutcome) (s : State) (p : Pulse) : Pulse :=
  { p with credited := some s.dose.credited, pcAtEnd := some s.sensor.sample.pc, outcome := some o }

/-- The head with GAS driven off, the context apart (R65, R87, R136). -/
def pulseOff (s : State) : State :=
  { s with
    dose := { s.dose with running := false }
    gas := { s.gas with feedbackWindow := none, closeWindow := some s.clock, lastOpen := s.dose.elapsed }
    draw := { s.draw with self := if s.draw.self = some .driven then some (.closing 10) else s.draw.self } }

/-- The gas part with its newest pulse closed. -/
def GasPart.ended (o : PulseOutcome) (s : State) (p : Pulse) (g : GasPart) : GasPart :=
  { g with pulses := g.pulses.dropLast ++ [p.closed o s] }

/-- The gas part whose newest pulse has been judged: a dead one is taken back and costs a strike (R66, R86). -/
def GasPart.judged (dead : Bool) (s : State) (p : Pulse) (g : GasPart) : GasPart :=
  { g.ended (if dead then .dead else .good) s p with
    mass := if dead then s.dose.massAtStart else g.mass
    remainder := if dead then s.dose.remainderAtStart else g.remainder
    strikes := if dead then g.strikes - 1 else g.strikes }

/-- The candidates once a can is given up (R74, R86). -/
def blamedReasons (s : State) (reasons : List Reason) : List Reason :=
  doseReasons s.params s.dose.massAtStart
    (insertReason (if s.gas.feedbackSeen then .stemBlocked else .valveFault) reasons)

/-- The head whose pulse `p` has been judged at the latest sample, GAS_FB not yet looked at (R85, R86). -/
def pulseJudged (c : CanContext) (g : GasPart) (p : Pulse) (s : State) : State :=
  let dead := pulseDead s.params p.pcAtStart s.sensor.sample.pc s.gas.feedbackSeen
  let givenUp := dead && decide (g.strikes ≤ 1)
  { pulseOff s with
    context :=
      some
        { c with
          gas := some (g.judged dead s p)
          conditions := if dead then setCondition .strike c.conditions else c.conditions
          reasons := if givenUp then blamedReasons s c.reasons else c.reasons }
    cycle := { s.cycle with phase := if givenUp ∧ s.cycle.phase = .gas then .sealed else s.cycle.phase }
    gas :=
      { (pulseOff s).gas with
        stage := if givenUp then .ended else .settle
        settleTimer := if givenUp then none else s.gas.settleTimer
        checkTimer := if givenUp then none else s.gas.checkTimer } }

section
variable {s : State} {c : CanContext} {g : GasPart} {p : Pulse}

theorem onGasPart_inContext (f : GasPart → GasPart) (s : State) (hg : c.gas = some g) :
    onGasPart f (s.inContext c) = s.inContext { c with gas := some (f g) } := by
  simp only [onGasPart, onContext, State.inContext, Option.map_some, hg]

theorem endPulse_inContext (o : PulseOutcome) (s : State) (hg : c.gas = some g) (hp : g.pulses.getLast? = some p) :
    endPulse o (s.inContext c) = (pulseOff s).inContext { c with gas := some (g.ended o s p) } := by
  rw [endPulse_eq (s := s.inContext c) rfl hg, onLast_eq _ hp]
  rfl

theorem pulseStartPc_inContext (s : State) (hg : c.gas = some g) (hp : g.pulses.getLast? = some p) :
    (s.inContext c).pulseStartPc = p.pcAtStart := by
  rw [State.pulseStartPc, pulses_inContext s hg, hp]
  rfl

/-- A pulse neither too short of its rise nor without feedback is GOOD (R85). -/
theorem judgePulse_good (hg : c.gas = some g) (hp : g.pulses.getLast? = some p)
    (hd : pulseDead s.params p.pcAtStart s.sensor.sample.pc s.gas.feedbackSeen = false) :
    judgePulse (s.inContext c) = closeIfShut (pulseJudged c g p s) := by
  have alive : pulseDead (s.inContext c).params (s.inContext c).pulseStartPc (s.inContext c).sensor.sample.pc
      (s.inContext c).gas.feedbackSeen = false := by
    rw [pulseStartPc_inContext s hg hp]
    exact hd
  rw [judgePulse, if_neg (Bool.eq_false_iff.1 alive), endPulse_inContext .good s hg hp]
  simp only [pulseJudged, GasPart.judged, hd, Bool.false_and, Bool.false_eq_true, false_and, if_false]
  rfl

/-- A DEAD pulse: taken back, a strike spent, and the can given up without one left (R86). -/
theorem judgePulse_dead (hg : c.gas = some g) (hp : g.pulses.getLast? = some p)
    (hd : pulseDead s.params p.pcAtStart s.sensor.sample.pc s.gas.feedbackSeen = true) :
    judgePulse (s.inContext c) = closeIfShut (pulseJudged c g p s) := by
  have dead : pulseDead (s.inContext c).params (s.inContext c).pulseStartPc (s.inContext c).sensor.sample.pc
      (s.inContext c).gas.feedbackSeen = true := by
    rw [pulseStartPc_inContext s hg hp]
    exact hd
  let struck : CanContext :=
    { c with gas := some (g.judged true s p), conditions := setCondition .strike c.conditions }
  have taken : addCondition .strike
      (onGasPart (fun h => { h with strikes := h.strikes - 1 }) (takeBack (endPulse .dead (s.inContext c)))) =
      (pulseOff s).inContext struck := by
    rw [endPulse_inContext .dead s hg hp, takeBack, onGasPart_inContext _ _ rfl, onGasPart_inContext _ _ rfl]
    rfl
  have left : ((((pulseOff s).inContext struck).gasPart.map (·.strikes)).getD 0) = g.strikes - 1 := rfl
  rw [judgePulse, if_pos dead, deadPulse, taken]
  simp only [left]
  by_cases hg1 : g.strikes ≤ 1
  · rw [if_neg (by omega), addReason_inContext, endGassing_inContext _ rfl]
    simp only [pulseJudged, hd, hg1, decide_true, Bool.and_self, true_and, if_true]
    rfl
  · rw [if_pos (by omega)]
    simp only [pulseJudged, hd, hg1, decide_false, Bool.and_false, Bool.false_eq_true, false_and, if_false, if_true]
    rfl

theorem judgePulse_eq (hc : s.context = some c) (hg : c.gas = some g) (hp : g.pulses.getLast? = some p) :
    judgePulse s = closeIfShut (pulseJudged c g p s) := by
  have judged : judgePulse (s.inContext c) = closeIfShut (pulseJudged c g p s) := by
    cases hd : pulseDead s.params p.pcAtStart s.sensor.sample.pc s.gas.feedbackSeen with
    | false => exact judgePulse_good hg hp hd
    | true => exact judgePulse_dead hg hp hd
  rwa [inContext_of hc] at judged

/-- A sample that brings a running pulse to its length or to the target mass ends it (R64, R85). -/
theorem gasTakesSample_ends (hs : s.gas.stage = .pulse) (hu : sampleUsable s.sensor.sample = true)
    (hr : s.dose.running = true) (h : s.dose.elapsed = s.dose.planned ∨ s.params.targetMass ≤ s.mass) :
    gasTakesSample s = judgePulse s := by
  have reports : s.pulseReports = true := by simpa [State.pulseReports, hr] using h
  simp [gasTakesSample, hs, hu, reports]

/-! ## What GAS_FB shows at the end of a pulse (R87, R88) -/

theorem closeIfShut_open (h : s.gasFb = true) : closeIfShut s = s := if_pos h

/-- The head whose valve shows closed as GAS goes off: no close window, and the valve reported closed (R87). -/
def shownShut (s : State) : State := closedOff { s with gas := { s.gas with closeWindow := none } }

theorem closeIfShut_shut (h : s.gasFb = false) : closeIfShut s = startSettle (shownShut s) := by
  rw [closeIfShut, if_neg (by simp [h]), valveClosed, reportClosed_eq]
  rfl

theorem shownShut_eq (hl : s.cycle.station ≠ .loading) :
    shownShut s =
      { s with
        gas := { s.gas with closeWindow := none }
        draw := { s.draw with self := none }
        line :=
          (if s.draw.self = some .stuck then statusPlaced else id)
            { s.line with
              shutSlot := slotPlace { zone := s.zoneByte, samples := s.gas.lastOpen } s.line.shutSlot } } := by
  simp only [shownShut, closedOff, if_neg hl]
  rfl

/-- A stuck SELF entry is the one that GAS going off leaves as it is (R125, R136). -/
theorem closingSelf_stuck_iff (d : Option SelfEntry) :
    (if d = some .driven then some (.closing 10) else d) = some SelfEntry.stuck ↔ d = some .stuck := by
  split <;> simp_all

theorem startSettle_times (hs : s.gas.stage = .settle) (h0 : s.params.settleTime ≠ 0) :
    startSettle s = { s with gas := { s.gas with settleTimer := some s.clock } } := by
  rw [startSettle, if_pos hs, if_neg h0]

theorem startSettle_plans (hs : s.gas.stage = .settle) (h0 : s.params.settleTime = 0) :
    startSettle s = decideInPlan { s with gas := { s.gas with stage := .plan, settleTimer := none } } := by
  rw [startSettle, if_pos hs, if_pos h0]
  rfl

theorem startSettle_off (hs : s.gas.stage = .ended ∨ s.gas.stage = .settle) :
    (startSettle s).gas.stage ≠ .pulse ∧ (startSettle s).gas.lastOpen = s.gas.lastOpen := by
  unfold startSettle
  split
  · split
    · have planned := planned_decideInPlan { s with gas := { s.gas with stage := .plan, settleTimer := none } }
      exact ⟨(planned.working ⟨nofun, nofun⟩).2, congrArg (·.gas.lastOpen) planned.frame⟩
    · exact ⟨by obtain h | h := hs <;> simp [h], rfl⟩
  · exact ⟨by obtain h | h := hs <;> simp [h], rfl⟩

/-- GAS stays off, and the last open count stands, whatever GAS_FB shows at the end of a pulse. -/
theorem closeIfShut_off (hs : s.gas.stage = .ended ∨ s.gas.stage = .settle) :
    (closeIfShut s).gas.stage ≠ .pulse ∧ (closeIfShut s).gas.lastOpen = s.gas.lastOpen := by
  cases h : s.gasFb with
  | true =>
    rw [closeIfShut_open h]
    exact ⟨by obtain h | h := hs <;> simp [h], rfl⟩
  | false =>
    rw [closeIfShut_shut h]
    exact startSettle_off (s := shownShut s) hs

theorem pulseJudged_stage :
    (pulseJudged c g p s).gas.stage = .ended ∨ (pulseJudged c g p s).gas.stage = .settle := by
  unfold pulseJudged
  dsimp only
  split
  · exact .inl rfl
  · exact .inr rfl

end

/-! ## The bell transaction that ends a pulse -/

/-- A bell transaction whose sample ends the running pulse: the sample credited, the pulse judged, GAS_FB looked at, and
then the watermark test. -/
theorem bellEnded_judges {made : Bool} {reply : SensorReply} {s : State} {c : CanContext} {g : GasPart} {p : Pulse}
    (hc : s.context = some c) (hg : c.gas = some g) (hp : g.pulses.getLast? = some p) (hs : s.gas.stage = .pulse)
    (hl : s.cycle.station ≠ .loading) (hr : s.dose.running = true) (hq : s.cycle.silenceOver = false)
    (hd : s.sensor.headerLostDue = false) (hv : s.sensor.header.validity = .valid)
    (hb : (channelAfter (takenReply made reply) s.sensor.bell).validity = .valid) :
    let u := bellSet (takenReply made reply) (transactionEnded s)
    let sum := s.params.coefficient * driveTerm (formSample u.sensor).ph (formSample u.sensor).pc + g.remainder
    let credited := if s.gasFb then creditPart sum g else g
    let flags := clampFlags (formSample u.sensor) c.conditions
    s.dose.elapsed + 1 = s.dose.planned ∨ s.params.targetMass ≤ credited.mass →
    bellEnded made reply s =
      watermarkTest
        (closeIfShut
          (pulseJudged
            { c with gas := some credited, conditions := if s.gasFb then creditFlags sum g flags else flags }
            credited p (sampleCredited c g u))) := by
  intro u sum credited flags hend
  let judged :=
    pulseJudged
      { c with gas := some credited, conditions := if s.gasFb then creditFlags sum g flags else flags }
      credited p (sampleCredited c g u)
  have last : credited.pulses.getLast? = some p := by
    rw [← hp]
    exact congrArg List.getLast? (apply_ite GasPart.pulses ..|>.trans (ite_self _))
  have handed : handSample u = watermarkTest (closeIfShut judged) := by
    rw [handSample_eq, countSample_sampleFormed (s := u) hr hs hc hg ⟨hv, hb⟩ hl,
      gasTakesSample_ends (s := sampleCredited c g u) hs ((sampleUsable_formSample _).2 ⟨hv, hb⟩) hr hend,
      judgePulse_eq rfl rfl last]
    rfl
  have calm : (handSample u).cycle.silenceOver = false := by
    rw [handed, (watermarkTest_keeps _).2.2.2.2.1, (workKept_closeIfShut _).station]
    exact hq
  rw [bellEnded_unlost (bellLost_of_valid hb) hd, parkTest_of_calm calm, handed]

/-- Settles O19: the pulse judged at the sample that ends it, and then by GAS_FB and the settle time. -/
theorem pulseEndsAndIsJudgedAtItsReport : Obligations.PulseEndsAndIsJudgedAtItsReport := by
  unfold Obligations.PulseEndsAndIsJudgedAtItsReport
  intro reply s c g p begun made r ht hs hr hrun hc hg hp hv hdue hq hb q f sum mass credited hend dead givenUp part
    flags reasons ended shut
  let u := bellSet (takenReply made reply) (transactionEnded s)
  let gasPart := if s.gasFb then creditPart sum g else g
  have mass_eq : gasPart.mass = mass := apply_ite GasPart.mass ..
  have line : u.line = if s.sensor.bell.validity = .valid then s.line else statusPlaced s.line := by
    rw [← hb]
    rfl
  have outside : s.cycle.station ≠ .loading := by simp [hr]
  have feedback : u.gasFb = s.gasFb := rfl
  have same :
      pulseJudged
        { c with
          gas := some gasPart
          conditions := if s.gasFb then creditFlags sum g (clampFlags q c.conditions) else clampFlags q c.conditions }
        gasPart p (sampleCredited c g u) = ended := by
    rw [sampleCredited, line]
    cases hf : s.gasFb with
    | false =>
      simp only [ended, part, flags, mass, credited, gasPart, feedback, hf, Bool.false_eq_true, if_false, false_and]
      rfl
    | true =>
      simp only [ended, part, flags, mass, credited, gasPart, feedback, hf, if_true, true_and]
      rfl
  have judged : bellEnded made reply s = watermarkTest (closeIfShut ended) :=
    (bellEnded_judges hc hg hp hs outside hrun hq hdue hv hb (by exact mass_eq ▸ hend)).trans
      (congrArg (fun v => watermarkTest (closeIfShut v)) same)
  have gaveUp (h : givenUp = true) : ended.gas.stage = .ended := if_pos h
  have settles (h : givenUp = false) : ended.gas.stage = .settle := if_neg (by simp [h])
  have stage : ended.gas.stage = .ended ∨ ended.gas.stage = .settle := by
    cases h : givenUp with
    | true => exact .inl (gaveUp h)
    | false => exact .inr (settles h)
  have closed : shownShut ended = shut ended.gas := by
    have stuck : ended.draw.self = some .stuck ↔ s.draw.self = some .stuck := closingSelf_stuck_iff _
    have slot : ended.line.shutSlot = s.line.shutSlot := by
      simp only [ended]
      split <;> rfl
    rw [shownShut_eq (s := ended) outside, slot]
    simp only [stuck]
    rfl
  obtain ⟨off, lastOpen⟩ := closeIfShut_off stage
  rw [exec_eq_effect, effect_bellEnd reply ht, judged]
  refine ⟨_, rfl, ?_, ?_, ?_, fun hf => ?_, fun hf hup => ?_, fun hf hup h0 => ?_, fun hf hup h0 => ?_⟩
  · simpa [State.gasOn] using off
  · simp only [watermarkTest_keeps, closeIfShut_keeps]
    rfl
  · simp only [watermarkTest_keeps, lastOpen]
    rfl
  · rw [closeIfShut_open (s := ended) hf]
  · rw [closeIfShut_shut (s := ended) hf, startSettle_of_ne (s := shownShut ended) (ne_of_eq_of_ne (gaveUp hup) nofun),
      closed]
  · rw [closeIfShut_shut (s := ended) hf, startSettle_times (s := shownShut ended) (settles hup) h0, closed]
  · rw [closeIfShut_shut (s := ended) hf, startSettle_plans (s := shownShut ended) (settles hup) h0, closed]

end Sys2Proof.Machine
end

section
/-!
PROOFS. The own OPEN: at its turn at a line idle (O29), and at its completion, where the pulse starts (O33).
-/

namespace Sys2Proof.Machine

/-! ## The turn of a pending OPEN (R105, R131) -/

/-- The head after the STATUS and RESULT slots have been offered, the last of R112's order. -/
def offeredLast (s : State) : State := offerSlots [.statusSlot, .resultSlot] s

theorem offeredLast_eq (s : State) :
    offeredLast s =
      if slotPending s.line.statusSlot then beginAttempt .statusSlot s
      else if slotPending s.line.resultSlot then beginAttempt .resultSlot s
      else s := rfl

/-- What the offer of the last two slots changes: the line, but for the other slots, and the figure carried. -/
theorem offeredLast_frame (s : State) :
    offeredLast s =
      { s with
        line :=
          { s.line with
            condition := (offeredLast s).line.condition, recessiveRun := (offeredLast s).line.recessiveRun
            statusSlot := (offeredLast s).line.statusSlot, resultSlot := (offeredLast s).line.resultSlot
            attempt := (offeredLast s).line.attempt }
        result := { s.result with carried := (offeredLast s).result.carried } } := by
  rw [offeredLast_eq]
  (repeat' split) <;> rfl

theorem offeredLast_keeps (s : State) :
    (offeredLast s).context = s.context ∧ (offeredLast s).gas = s.gas ∧ (offeredLast s).dose = s.dose
      ∧ (offeredLast s).draw = s.draw ∧ (offeredLast s).line.openSlot = s.line.openSlot := by
  have frame := offeredLast_frame s
  exact ⟨congrArg (·.context) frame, congrArg (·.gas) frame, congrArg (·.dose) frame, congrArg (·.draw) frame,
    congrArg (·.line.openSlot) frame⟩

theorem offeredLast_slot {s : State} (h : s.line.attempt = none) :
    (offeredLast s).line.attempt.map (·.slot) =
      if slotPending s.line.statusSlot then some .statusSlot
      else if slotPending s.line.resultSlot then some .resultSlot
      else none := by
  rw [offeredLast_eq]
  split
  · rfl
  · split
    · rfl
    · rw [h]
      rfl

/-- The admission test of a head in RUN and in CLAIM (R127). -/
theorem admits_iff {s : State} (hr : s.cycle.station = .run) (hs : s.gas.stage = .claim) :
    s.admits = true ↔
      s.hold.table = [] ∧ s.nonSelf < s.params.openLimit ∧ s.latched .lineDead = false := by
  simp [State.admits, hr, hs, and_assoc]

section
variable {s : State} {f : OpenFrame}

/-- With only the OPEN before the last two slots, the offer is the OPEN's own. -/
theorem offerSlots_open (hf : slotPending s.line.faultSlot = false) (hh : slotPending s.line.holdSlot = false)
    (hs : slotPending s.line.shutSlot = false) (ho : s.line.openSlot.body = .pending f) :
    offerSlots offerOrder s =
      if (offerOpen s).1 then beginAttempt .openSlot (offerOpen s).2 else offeredLast (offerOpen s).2 := by
  have waits : slotPending s.line.openSlot = true := by rw [slotPending, ho]
  simp only [offerOrder, offerSlots, State.slotWaits, hf, hh, hs, waits, Bool.false_eq_true, if_false, if_true,
    reduceCtorEq]
  cases h : offerOpen s with
  | mk goes u => cases goes <;> rfl

/-- An OPEN that goes carries the length planned at its turn (R73, R105). -/
theorem beginAttempt_open (n : Nat) (ho : s.line.openSlot.body = .pending f) :
    beginAttempt .openSlot { s with dose := { s.dose with attemptLength := some n } } =
      { s with
        dose := { s.dose with attemptLength := some n }
        line :=
          { s.line with
            condition := .busy, recessiveRun := 0
            attempt :=
              some
                { slot := .openSlot, since := s.clock
                  payload := [f.zone, BitVec.ofNat 8 (n / 256), BitVec.ofNat 8 n] }
            openSlot := { s.line.openSlot with body := .onLine f } } } := by
  simp only [beginAttempt, onSlot, slotPayload, slotStart, slotFrame, ho]
  rfl

theorem offerOpen_goes {n : Nat} (ha : s.admits = true) (hp : s.planAnswer = .pulse n) :
    offerOpen s = (true, { s with dose := { s.dose with attemptLength := some n } }) := by
  rw [offerOpen, if_pos ha, hp]

/-- The head whose OPEN is dropped because its plan answered `a`, without a length (R73, R131, R134). -/
def planReturned (a : PlanAnswer) (c : CanContext) (s : State) : State :=
  { s with
    context := some { c with conditions := driveFlags a c.conditions }
    gas := { s.gas with stage := .plan }
    dose := { s.dose with attemptLength := none }
    line := { s.line with openSlot := Slot.vacant }
    draw := { s.draw with claim := .none, requestHeld := false } }

/-- The head whose OPEN is withdrawn by a failed admission test (R130, R131). -/
def openRefused (c : CanContext) (s : State) : State :=
  { s with
    context := some { c with conditions := setCondition .drawWait c.conditions }
    dose := { s.dose with attemptLength := none }
    line := { s.line with openSlot := Slot.vacant }
    draw := { s.draw with claim := .waiting } }

variable {c : CanContext} (hc : s.context = some c) (hl : s.draw.claim = .placed)
  (ho : s.line.openSlot.body = .pending f)
include hc hl ho

theorem offerOpen_dropped {a : PlanAnswer} (ha : s.admits = true) (hp : s.planAnswer = a)
    (hn : a = .noDrive ∨ a = .noReading) : offerOpen s = (false, planReturned a c s) := by
  have offered : offerOpen s = (false, returnToPlan (noteNoDrive a s)) := by
    rw [offerOpen, if_pos ha, hp]
    obtain rfl | rfl := hn <;> rfl
  have noted : noteNoDrive a s = s.inContext { c with conditions := driveFlags a c.conditions } := by
    rw [← noteNoDrive_inContext, inContext_of hc]
  rw [offered, noted]
  simp only [returnToPlan, cancelClaim, setStage, State.inContext, hl, slotOnLine, ho]
  rfl

theorem offerOpen_refused (hs : s.gas.stage = .claim) (ha : s.admits = false) :
    offerOpen s = (false, openRefused c s) := by
  have waits : slotPending s.line.openSlot = true := by rw [slotPending, ho]
  have tested : retest s = addCondition .drawWait (setClaim .waiting (withdrawOpen s)) := by
    simp [retest, hs, hl, waits, ha]
  rw [offerOpen, ha, tested, addCondition, onContext]
  simp only [setClaim, withdrawOpen, hc]
  rfl

end

/-- LINE_IDLE with the recessive run at 11, no frame in progress and valid straps offers the slots (R104, R105). -/
theorem effect_lineIdle_offers {s : State} (hk : s.line.condition ≠ .stuck) (ha : s.line.attempt = none)
    (hr : s.line.receiving = none) (hn : 11 ≤ s.line.recessiveRun) (hv : s.strapsValid = true) :
    effect .lineIdle s = offerSlots offerOrder { s with line := { s.line with condition := .idle } } := by
  rw [effect_lineIdle]
  dsimp only
  rw [if_pos ((lineQuiet_iff s).2 ⟨hk, ha, hr, hn⟩), if_pos hv]

/-- Settles O29: by the admission test, and then by the answer of the plan made at the OPEN's turn. -/
theorem lineIdleDecidesThePendingOpen : Obligations.LineIdleDecidesThePendingOpen := by
  unfold Obligations.LineIdleDecidesThePendingOpen
  intro s c g f r hk ha hrec hn hv hrun hs hl hc hg ho hfault hhold hshut hmass admits goesOn
  let w : State := { s with line := { s.line with condition := .idle } }
  have short : ¬s.params.targetMass ≤ g.mass + s.params.tolerance := Nat.not_le.2 hmass
  have answer : w.planAnswer = planFrom s.params g.mass s.dose.drive s.dose.rate :=
    (congrArg State.planAnswer (inContext_of (s := w) hc).symm).trans (planAnswer_inContext w hg)
  have test : w.admits = true ↔ admits := admits_iff (s := w) hrun hs
  have offered := offerSlots_open (s := w) hfault hhold hshut ho
  have dropped (u : State) (hu : u.line.attempt = none) (status : u.line.statusSlot = s.line.statusSlot)
      (result : u.line.resultSlot = s.line.resultSlot) : goesOn (offeredLast u) := by
    simp only [goesOn, ← status, ← result]
    exact offeredLast_slot hu
  rw [exec_eq_effect, effect_lineIdle_offers hk ha hrec hn hv, offered]
  by_cases hadm : admits
  · by_cases hlen : s.dose.drive = none ∨ s.dose.rate = none ∨ s.dose.rate = some 0
    · have none_planned : w.planAnswer = .noDrive ∨ w.planAnswer = .noReading := by
        rw [answer]
        by_cases hd : s.dose.drive = none ∨ s.dose.rate = none
        · exact .inr (planFrom_noReading short hd)
        · obtain ⟨drive, rate⟩ := not_or.1 hd
          exact .inl ((planFrom_noDrive_iff short).2 ⟨drive, (hlen.resolve_left drive).resolve_left rate⟩)
      rw [offerOpen_dropped (s := w) hc hl ho (test.2 hadm) rfl none_planned, if_neg (by exact Bool.false_ne_true)]
      obtain ⟨context, gas, dose, draw, slot⟩ := offeredLast_keeps (planReturned w.planAnswer c w)
      refine ⟨_, rfl, fun hr hd _ h1 => ?_, fun _ _ => ⟨gas, congrArg (·.claim) draw, slot, dropped _ ha rfl rfl,
        congrArg (·.attemptLength) dose, fun hd hr => ?_⟩, fun hn => absurd hadm hn, ?_⟩
      · have rising : r = 0 := by simpa [hr, hd] using hlen
        omega
      · rw [context, answer.trans ((planFrom_noDrive_iff short).2 ⟨hd, hr⟩)]
        exact congrArg some (hasCondition_set ..)
      · rw [context, gas, dose, draw, slot]
        exact offeredLast_frame _
    · obtain ⟨drive, rate, rising⟩ : s.dose.drive ≠ none ∧ s.dose.rate ≠ none ∧ s.dose.rate ≠ some 0 := by
        simpa [not_or] using hlen
      obtain ⟨x, hx⟩ := Option.ne_none_iff_exists'.1 drive
      obtain ⟨y, hy⟩ := Option.ne_none_iff_exists'.1 rate
      have planned : w.planAnswer = .pulse (plannedLength s.params g.mass y) := by
        rw [answer, hx, hy, planFrom_rate short, if_neg (by simpa [hy] using rising)]
      rw [offerOpen_goes (test.2 hadm) planned, if_pos rfl, beginAttempt_open (s := w) _ ho]
      refine ⟨_, rfl, fun hr _ _ _ => ?_, fun _ hd => absurd hd hlen, fun hn => absurd hadm hn, rfl⟩
      obtain rfl := Option.some.inj (hy.symm.trans hr)
      rfl
  · rw [offerOpen_refused (s := w) hc hl ho hs (Bool.eq_false_iff.2 (mt test.1 hadm)),
      if_neg (by exact Bool.false_ne_true)]
    obtain ⟨context, gas, dose, draw, slot⟩ := offeredLast_keeps (openRefused c w)
    refine ⟨_, rfl, fun _ _ h => absurd h hadm, fun h => absurd h hadm, fun _ => ⟨gas, congrArg (·.claim) draw, slot,
      dropped _ ha rfl rfl, congrArg (·.attemptLength) dose, ?_⟩, ?_⟩
    · rw [context]
      exact congrArg some (hasCondition_set ..)
    · rw [context, gas, dose, draw, slot]
      exact offeredLast_frame _

/-! ## The completion of the own OPEN (R82, R94, R108, R133, R135) -/

/-- The pulse that the own OPEN's completion starts in an open context (R62, R82, R84). -/
theorem startPulse_eq {s : State} {c : CanContext} {g : GasPart} {n : Nat} (hc : s.context = some c)
    (hg : c.gas = some g) (hn : s.dose.attemptLength = some n) :
    startPulse s =
      { s with
        context :=
          some
            { c with
              gas :=
                some
                  { g with
                    pulses :=
                      g.pulses ++
                        [{ planned := n, massAtStart := g.mass, remainderAtStart := g.remainder
                           pcAtStart := s.sensor.sample.pc, credited := none, pcAtEnd := none, outcome := none }] } }
        draw := { s.draw with self := some .driven, claim := .none }
        dose :=
          { s.dose with
            running := true, planned := n, elapsed := 0, credited := 0
            massAtStart := g.mass, remainderAtStart := g.remainder, attemptLength := none }
        gas :=
          { s.gas with
            stage := .pulse, feedbackWindow := if s.gasFb then none else some s.clock
            feedbackSeen := s.gasFb, closeWindow := none } } := by
  have mass : s.mass = g.mass := by rw [State.mass, gasPart_of_context hc hg]; rfl
  simp only [startPulse, mass, gasPart_of_context hc hg, hn, onGasPart, onContext, addSelf, setClaim, hc,
    Option.map_some, Option.getD_some, hg]

/-- The completion of an own OPEN (R104, R108), the silence limit not reached. -/
theorem effect_frameCompletion_open {s : State} {a : Attempt} (hq : s.cycle.silenceOver = false)
    (ha : s.line.attempt = some a) (hm : s.line.abort = .none)
    (hp : a.since + 41 + 8 * a.payload.length ≤ s.clock) (hk : a.slot = .openSlot) :
    effect .frameCompletion s =
      openCompleted
        { s with
          line :=
            { s.line with
              attempt := none, recessiveRun := 0, dominantRun := 0, condition := .busy
              openSlot := slotComplete s.line.openSlot } } := by
  have sent : a.lastPosition ≤ s.position a := by
    unfold Attempt.lastPosition State.position
    omega
  rw [effect_frameCompletion, ha, hm]
  dsimp only
  rw [if_pos sent, hk, parkTest_of_calm]
  · rfl
  · simp only [ownerCompleted, openCompleted_keeps]
    exact hq

/-- Settles O33: by whether the claim is PLACED in CLAIM as the OPEN completes. -/
theorem ownOpenCompletionStartsThePulse : Obligations.OwnOpenCompletionStartsThePulse := by
  unfold Obligations.OwnOpenCompletionStartsThePulse
  intro s a c g n hq ha hm hp hk l
  rw [exec_eq_effect, effect_frameCompletion_open hq ha hm hp hk]
  refine ⟨fun hl hs hc hg hn => ?_, fun h => ?_⟩
  · rw [openCompleted, if_pos ⟨hl, hs⟩, startPulse_eq (by exact hc) hg (by exact hn)]
  · rw [openCompleted, if_neg (not_and_or.2 h), endCancelled_eq]
    rfl

end Sys2Proof.Machine
end

section
/-!
PROOFS. The feedback window, and GAS_FB opening in a pulse or with the valve still closing (O24).
-/

namespace Sys2Proof.Machine

theorem feedbackLapses_iff (s : State) :
    hasExpired s.clock s.gas.feedbackWindow Config.feedbackWindow = true ↔
      ∃ since, s.gas.feedbackWindow = some since ∧ since + 5 * 500 ≤ s.clock := hasExpired_iff ..

/-- The pulse's feedback as GAS_FB shows open (R84): seen when the window still runs, else as it was. -/
theorem seeFeedback_eq (s : State) :
    seeFeedback s =
      { s with
        gas :=
          { s.gas with
            feedbackWindow := none
            feedbackSeen := s.gas.feedbackSeen || s.gas.feedbackWindow.isSome } } := by
  unfold seeFeedback
  cases window : s.gas.feedbackWindow with
  | some since => simp only [Option.isSome_some, Bool.or_true]
  | none =>
    simp only [Option.isSome_none, Bool.or_false]
    rw [← window]

theorem findStuckValve_known {s : State} (known : s.gas.stuckEpisode = true) : findStuckValve s = s := if_pos known

theorem effect_gasFbOpens_pulse {s : State} (hs : s.gas.stage = .pulse) :
    effect .gasFbOpens s = seeFeedback { s with gasFb := true } := by
  rw [effect_gasFbOpens]
  exact if_pos ((gasOn_iff s).2 hs)

theorem effect_gasFbOpens_quiet {s : State} (hs : s.gas.stage ≠ .pulse)
    (h : s.gas.closeWindow ≠ none ∨ s.gas.stuckEpisode = true) :
    effect .gasFbOpens s = { s with gasFb := true } := by
  rw [effect_gasFbOpens]
  dsimp only
  rw [if_neg (mt (gasOn_iff s).1 hs)]
  by_cases hw : s.gas.closeWindow = none
  · rw [if_neg (by simp [hw])]
    exact findStuckValve_known (h.resolve_left (not_not_intro hw))
  · exact if_pos (Option.isSome_iff_ne_none.2 hw)

/-- Settles O24: by whether the feedback window has reached its 5 ms, and by whether GAS is on as GAS_FB opens. -/
theorem feedbackIsSeenInsideItsWindow : Obligations.FeedbackIsSeenInsideItsWindow := by
  unfold Obligations.FeedbackIsSeenInsideItsWindow
  refine fun s since => ⟨fun hw due => ?lapse, fun early => ?stays, fun hs => ?pulse, fun hs h => ?off⟩
  all_goals rw [exec_eq_effect]
  case lapse => rw [effect_feedbackWindowLapse, if_pos ((feedbackLapses_iff s).2 ⟨since, hw, due⟩)]
  case stays =>
    rw [effect_feedbackWindowLapse, if_neg]
    intro expired
    obtain ⟨t, ht, due⟩ := (feedbackLapses_iff s).1 expired
    exact Nat.not_le.2 (early t ht) due
  case pulse => rw [effect_gasFbOpens_pulse hs, seeFeedback_eq]
  case off => rw [effect_gasFbOpens_quiet hs h]

end Sys2Proof.Machine
end

section
/-!
PROOFS. Numbers as bits, most significant first (R103).
-/

namespace Sys2Proof.Machine

theorem getElem_bitsOf (v : Nat) : ∀ (w i : Nat) (h : i < (bitsOf v w).length),
    (bitsOf v w)[i] = v.testBit (w - 1 - i)
  | 0, _, h => absurd h (Nat.not_lt_zero _)
  | w + 1, 0, _ => rfl
  | w + 1, i + 1, h => by
    have next : (bitsOf v (w + 1))[i + 1] = (bitsOf v w)[i]'(Nat.lt_of_succ_lt_succ h) := rfl
    rw [next, getElem_bitsOf v w i, show w + 1 - 1 - (i + 1) = w - 1 - i by omega]

/-- The bits of a word are its own, from the most significant. -/
theorem bitsOf_toNat {w : Nat} (x : BitVec w) : bitsOf x.toNat w = (List.range w).map x.getMsbD := by
  refine List.ext_getElem (by simp) fun i hi _ => ?_
  have inside : i < w := by simpa using hi
  rw [getElem_bitsOf, List.getElem_map, List.getElem_range, BitVec.getMsbD, BitVec.getLsbD]
  simp [inside]

theorem numberOf_toNat {w : Nat} (x : BitVec w) : numberOf (bitsOf x.toNat w) = x.toNat := by
  rw [numberOf_bitsOf, Nat.mod_eq_of_lt x.isLt]

/-- A word reads back from its bits. -/
theorem ofNat_numberOf {w : Nat} (x : BitVec w) : BitVec.ofNat w (numberOf (bitsOf x.toNat w)) = x := by
  rw [numberOf_toNat, BitVec.ofNat_toNat, BitVec.setWidth_eq]

/-- The bits of two words joined are those of the first, then those of the second. -/
theorem bitsOf_append {m n : Nat} (a : BitVec m) (b : BitVec n) :
    bitsOf (a ++ b).toNat (m + n) = bitsOf a.toNat m ++ bitsOf b.toNat n := by
  refine List.ext_getElem (by simp) fun i hi _ => ?_
  have inside : i < m + n := by simpa using hi
  rw [List.getElem_append, getElem_bitsOf]
  have bit (j : Nat) : (a ++ b).toNat.testBit j = if j < n then b.toNat.testBit j else a.toNat.testBit (j - n) :=
    BitVec.getLsbD_append (x := a) (y := b) (i := j)
  split
  · next first =>
    rw [length_bitsOf] at first
    rw [getElem_bitsOf, bit, if_neg (by omega), show m + n - 1 - i - n = m - 1 - i by omega]
  · next second =>
    rw [length_bitsOf] at second
    simp only [getElem_bitsOf, length_bitsOf]
    rw [bit, if_pos (by omega), show m + n - 1 - i = n - 1 - (i - m) by omega]

/-- Bytes read back from their bits, whatever follows them. -/
theorem bytesOf_byteBits (rest : List Bool) : ∀ bytes : List Byte,
    bytesOf (byteBits bytes ++ rest) bytes.length = bytes
  | [] => rfl
  | b :: bytes => by
    rw [byteBits, List.append_assoc, List.length_cons, bytesOf, List.take_left' (length_bitsOf ..),
      List.drop_left' (length_bitsOf ..), ofNat_numberOf, bytesOf_byteBits rest bytes]

end Sys2Proof.Machine
end

section
/-!
PROOFS. The six transmit slots (O27) and the attempts that lose, fail or complete (O30, O32).
-/

namespace Sys2Proof.Machine

/-! ## A slot and its next frame (R108, R111, R113) -/

/-- A slot whose frame goes back takes its next frame, where there is one. -/
theorem slotReturn_onLine {α : Type} (g : α) (n : Option α) (k : Nat) :
    slotReturn { body := .onLine g, next := n, failures := k } =
      { body := .pending (n.getD g), next := none, failures := k } := by
  cases n <;> rfl

/-- A VALVE_STUCK in the FAULT slot is not displaced by a frame of another code (R111). -/
theorem faultSlot_keeps_stuck {f g : FaultFrame} (n : Option FaultFrame) (k : Nat) (hg : g.isStuck = true)
    (hf : f.isStuck = false) :
    faultPlace f { body := .pending g, next := n, failures := k }
        = { body := .pending g, next := some f, failures := k }
      ∧ faultPlace f { body := .onLine f, next := some g, failures := k }
        = { body := .onLine f, next := some g, failures := k }
      ∧ faultReturn { body := .onLine g, next := some f, failures := k }
        = { body := .pending g, next := some f, failures := k } := by
  simp [faultPlace, faultReturn, hg, hf]

/-- Two frames that are both VALVE_STUCK, or a frame that is not one yet held, act as in any slot (R111). -/
theorem faultSlot_replaces {f g : FaultFrame} (n : Option FaultFrame) (k : Nat)
    (h : (g.isStuck && !f.isStuck) = false) :
    faultPlace f { body := .pending g, next := n, failures := k }
        = { body := .pending f, next := n, failures := k }
      ∧ faultPlace f { body := .onLine g, next := some g, failures := k }
        = { body := .onLine g, next := some f, failures := k }
      ∧ faultReturn { body := .onLine g, next := some f, failures := k }
        = { body := .pending f, next := none, failures := k } := by
  simp [faultPlace, faultReturn, h]

/-- Settles O27: by what the slot holds, and in the FAULT slot by which of the two frames is a VALVE_STUCK. -/
theorem slotsKeepTheNewestFrame : Obligations.SlotsKeepTheNewestFrame := by
  unfold Obligations.SlotsKeepTheNewestFrame
  refine ⟨fun f g n k => ⟨rfl, rfl, rfl, slotReturn_onLine g n k, rfl, rfl⟩, fun f g n k =>
    ⟨fun hg hf => ?stuck, fun h => ?other, rfl, rfl⟩⟩
  case stuck => exact faultSlot_keeps_stuck n k (by simp [FaultFrame.isStuck, hg]) (by simp [FaultFrame.isStuck, hf])
  case other =>
    refine faultSlot_replaces n k ?_
    obtain hg | hf := h
    · simp [FaultFrame.isStuck, hg]
    · simp [FaultFrame.isStuck, hf]

end Sys2Proof.Machine
end

section
/-!
PROOFS. A class F cell newly latched (R187), and the line's condition with its report of a dead line (O34).
-/

namespace Sys2Proof.Machine

/-! ## A class F cell newly latched (R6, R187, R189) -/

/-- The head with a class F cell latched and its FAULT placed, before the station moves (R187, R188). -/
def faultReported (c : Cell) (s : State) : State := placeFault c (retestIfDead c (latch c s))

theorem reportF_unlatched {c : Cell} {s : State} (h : s.latched c = false) :
    reportF c s =
      placeStatus (formAlert
        (if movesToFaulted s.cycle.station then enterFaulted (faultReported c s) else faultReported c s)) := by
  simp [reportF, h, faultReported]

theorem faultReported_keeps (c : Cell) (s : State) :
    (faultReported c s).fault = { s.fault with latched := latchCell c s.fault.latched }
      ∧ (faultReported c s).cycle = s.cycle ∧ (faultReported c s).result = s.result
      ∧ ((faultReported c s).context = none ↔ s.context = none) := by
  simp [faultReported, latch]

/-- A class F cell newly latched asserts ALERT_N (R189). -/
theorem reportF_alerts {c : Cell} (hc : classF c = true) {s : State} (h : s.latched c = false) :
    (reportF c s).fault.alert = true := by
  have latched : isLatched c (latchCell c s.fault.latched) = true := (isLatched_latchCell ..).trans (by simp)
  have reported : (if movesToFaulted s.cycle.station then enterFaulted (faultReported c s)
      else faultReported c s).fault = { s.fault with latched := latchCell c s.fault.latched } := by
    split
    · rw [(enterFaulted_fault _).1, (faultReported_keeps c s).1]
    · exact (faultReported_keeps c s).1
  rw [reportF_unlatched h]
  change alertOf _ _ = true
  rw [reported]
  exact Bool.or_eq_true_iff.2 (.inl (classF_cell_any hc latched))

/-- A station that does not move keeps the Cycle Controller's state (R6). -/
theorem reportF_stays {c : Cell} {s : State} (h : s.latched c = false) (hm : movesToFaulted s.cycle.station = false) :
    (reportF c s).cycle = s.cycle := by
  rw [reportF_unlatched h, if_neg (by simp [hm])]
  exact (faultReported_keeps c s).2.1

/-- A station that moves is FAULTED in RETURN, with no context, no stop pending and no grant (R6). -/
theorem reportF_moves {c : Cell} {s : State} (h : s.latched c = false) (hm : movesToFaulted s.cycle.station = true) :
    (reportF c s).cycle.station = .faulted ∧ (reportF c s).cycle.phase = .returning ∧ (reportF c s).context = none
      ∧ (reportF c s).cycle.stopPending = false ∧ (reportF c s).cycle.grant = .none := by
  rw [reportF_unlatched h, if_pos hm]
  refine ⟨?_, ?_, ?_, (enterFaulted_cycle _).2, rfl⟩ <;> simp

/-- The work of an open context is abandoned, the gas off with it (R6). -/
theorem reportF_gasOff {c : Cell} {s : State} (h : s.latched c = false) (hm : movesToFaulted s.cycle.station = true)
    (hc : s.context ≠ none) : (reportF c s).gasOn = false := by
  have opened : (faultReported c s).context.isSome = true :=
    Option.isSome_iff_ne_none.2 (mt (faultReported_keeps c s).2.2.2.1 hc)
  have stage : (reportF c s).gas.stage = .idle := by
    rw [reportF_unlatched h, if_pos hm]
    exact (enterFaulted_stage _).trans (if_pos opened)
  simp [State.gasOn, stage]

/-! ## The commands of the line's condition (R104, R110) -/

/-- The report of a dead line for an episode of the stuck line, made once (R110). -/
def deadLineReported (s : State) : State := reportF .lineDead { s with line := { s.line with stuckReported := true } }

theorem effect_stuckTimeout_due {s : State} {since : Nat} (hs : s.line.condition = .stuck)
    (hr : s.line.stuckReported = false) (hi : s.line.stuckSince = some since) (due : since + 50 * 500 ≤ s.clock) :
    effect .stuckTimeout s = deadLineReported s :=
  (effect_stuckTimeout s).trans (if_pos ⟨hs, hr, (hasExpired_iff ..).2 ⟨since, hi, due⟩⟩)

theorem effect_stuckTimeout_early {s : State} (h : ∀ t, s.line.stuckSince = some t → s.clock < t + 50 * 500) :
    effect .stuckTimeout s = s := by
  rw [effect_stuckTimeout, if_neg]
  rintro ⟨_, _, expired⟩
  obtain ⟨t, ht, due⟩ := (hasExpired_iff ..).1 expired
  exact Nat.not_lt.2 due (h t ht)

theorem effect_stuckTimeout_quiet {s : State} (h : s.line.condition ≠ .stuck ∨ s.line.stuckReported = true) :
    effect .stuckTimeout s = s := by
  rw [effect_stuckTimeout, if_neg]
  rintro ⟨stuck, unreported, _⟩
  obtain h | h := h
  · exact h stuck
  · exact absurd (h.symm.trans unreported) nofun

theorem effect_lineStuck_eq (s : State) :
    effect .lineStuck s =
      if s.line.condition = .stuck ∨ s.line.dominantRun < 200 then s
      else
        { s with
          line :=
            { s.line with
              condition := .stuck, recessiveRun := 0, stuckSince := some s.clock, stuckReported := false } } := by
  rw [effect_lineStuck]
  by_cases h : s.line.condition = .stuck ∨ s.line.dominantRun < 200
  · rw [if_pos h, if_neg fun begun => h.elim begun.1 (Nat.not_lt.2 begun.2)]
  · rw [if_neg h, if_pos ⟨fun stuck => h (.inl stuck), Nat.not_lt.1 fun short => h (.inr short)⟩]

/-- Settles O34: each command by the line's condition, and STUCK_TIMEOUT by the episode and by LINE_DEAD's cell. -/
theorem lineConditionAndDeadLine : Obligations.LineConditionAndDeadLine := by
  unfold Obligations.LineConditionAndDeadLine
  refine ⟨fun s => ⟨?stuck, ?ended, ?start⟩, fun s since => ⟨fun h => ?quiet, fun h => ?early, ?again, ?first⟩⟩
  case stuck => rw [exec_eq_effect, effect_lineStuck_eq]
  case ended => rw [exec_eq_effect, effect_stuckEnd]
  case start => exact (exec_eq_effect ..).trans (congrArg Host.Outcome.next (effect_startBit s))
  case quiet => rw [exec_eq_effect, effect_stuckTimeout_quiet h]
  case early => rw [exec_eq_effect, effect_stuckTimeout_early h]
  case again =>
    rintro ⟨hs, hr, hi, due⟩ latched
    rw [exec_eq_effect, effect_stuckTimeout_due hs hr hi due, deadLineReported, reportF_dead_again (by exact latched)]
  case first =>
    rintro ⟨hs, hr, hi, due⟩ clear
    let w : State := { s with line := { s.line with stuckReported := true } }
    have hw : w.latched .lineDead = false := clear
    obtain ⟨fault, -, -, rejectRun, -⟩ := reportF_dead_placed hw
    refine ⟨_, exec_eq_effect .stuckTimeout s, ?_⟩
    rw [effect_stuckTimeout_due hs hr hi due]
    refine ⟨latched_reportF .lineDead w, reportF_alerts rfl hw, headFrame_of_framed (framed_reportF .lineDead w) rejectRun,
      fun empty => ?_, fun rests => ?_, fun hl hf => reportF_moves hw ((movesToFaulted_iff _).2 ⟨hl, hf⟩),
      fun opened hl hf => reportF_gasOff hw ((movesToFaulted_iff _).2 ⟨hl, hf⟩) opened⟩
    · refine (congrArg Slot.body fault).trans ?_
      have emptied : w.line.faultSlot.body = .empty := empty
      rw [faultPlace, emptied]
      rfl
    · exact reportF_stays hw (Bool.eq_false_iff.2 fun moves =>
        rests.elim ((movesToFaulted_iff _).1 moves).1 ((movesToFaulted_iff _).1 moves).2)

end Sys2Proof.Machine
end

section
/-!
PROOFS. The admission test and the claim (O35).
-/

namespace Sys2Proof.Machine

/-! ## The admission test (R124, R127) -/

/-- The five conditions of the admission test (R127). -/
theorem admits_iff_passes (s : State) :
    s.admits = true ↔
      s.hold.table = [] ∧ s.draw.keyed.length + phantomCount s.draw.phantoms < s.params.openLimit
        ∧ s.cycle.station = .run ∧ s.gas.stage = .claim ∧ s.latched .lineDead = false := by
  change s.admits = true ↔ s.hold.table = [] ∧ s.nonSelf < s.params.openLimit ∧ s.cycle.station = .run
    ∧ s.gas.stage = .claim ∧ s.latched .lineDead = false
  simp [State.admits, and_assoc]

section
variable {s : State}

theorem retest_of_not_claim (h : s.gas.stage ≠ .claim) : retest s = s := if_neg h

/-- A claim that is NONE or CANCELLED has no OPEN to place or to withdraw. -/
theorem retest_of_unclaimed (h : s.draw.claim = .none ∨ s.draw.claim = .cancelled) : retest s = s := by
  unfold retest
  split
  · obtain h | h := h <;> rw [h]
  · rfl

theorem retest_waiting (hs : s.gas.stage = .claim) (hc : s.draw.claim = .waiting) :
    retest s = if s.admits then setClaim .placed (placeOpen s) else s := by
  rw [retest, if_pos hs, hc]

theorem retest_placed (hs : s.gas.stage = .claim) (hc : s.draw.claim = .placed) :
    retest s =
      if slotPending s.line.openSlot && !s.admits then addCondition .drawWait (setClaim .waiting (withdrawOpen s))
      else s := by
  rw [retest, if_pos hs, hc]

theorem requestClaim_none (hc : s.draw.claim = .none) :
    requestClaim s =
      if s.admits then setClaim .placed (placeOpen s) else addCondition .drawWait (setClaim .waiting s) := by
  rw [requestClaim, hc]

/-- A placed OPEN that is not yet on the line stays while the test passes. -/
theorem retest_placed_stays (hc : s.draw.claim = .placed)
    (h : slotPending s.line.openSlot = false ∨ s.admits = true) : retest s = s := by
  by_cases hs : s.gas.stage = .claim
  · rw [retest_placed hs hc, if_neg]
    obtain h | h := h <;> simp [h]
  · exact retest_of_not_claim hs

end

/-- Settles O35: the test by its five conditions, and its outcomes by the claim and the OPEN slot. -/
theorem admissionTestPlacesOrWithdrawsTheOpen : Obligations.AdmissionTestPlacesOrWithdrawsTheOpen := by
  unfold Obligations.AdmissionTestPlacesOrWithdrawsTheOpen
  intro s passes placed drawWait emptied
  have test : s.admits = true ↔ passes := admits_iff_passes s
  refine ⟨test, fun h => ?idle, fun hs hc hp => ?places, fun hs hc hn => ?waits, fun hs hc ho hn => ?withdraws,
    fun hc h => ?stays, fun hc hp => ?requests, fun hc hn => ?requestWaits, fun hc => ?held, fun hc => ?ends,
    fun hc ho => ?onLine, fun hc ho => ?withdrawn, fun h => ?none⟩
  case idle =>
    obtain h | h := h
    · exact retest_of_not_claim h
    · exact retest_of_unclaimed h
  case places => rw [retest_waiting hs hc, if_pos (test.2 hp)]; rfl
  case waits => rw [retest_waiting hs hc, if_neg (mt test.1 hn)]
  case withdraws =>
    rw [retest_placed hs hc, if_pos (by simp [ho, Bool.eq_false_iff.2 (mt test.1 hn)])]
    rfl
  case stays => exact retest_placed_stays hc (h.imp id test.2)
  case requests => rw [requestClaim_none hc, if_pos (test.2 hp)]; rfl
  case requestWaits => rw [requestClaim_none hc, if_neg (mt test.1 hn)]; rfl
  case held => rw [requestClaim, hc]
  case ends => simp only [cancelClaim, hc]; rfl
  case onLine => simp only [cancelClaim, hc]; rw [if_pos ho]; rfl
  case withdrawn => simp only [cancelClaim, hc]; rw [if_neg (by simp [ho])]; rfl
  case none =>
    unfold cancelClaim
    dsimp only
    obtain h | h := h <;> rw [h]

end Sys2Proof.Machine
end

section
/-!
PROOFS. Bad frames: counted, LINE_NOISY at the sixteenth, and a phantom reserved (O36).
-/

namespace Sys2Proof.Machine

/-! ## The phantom slots (R143) -/

theorem reservePhantom_full (n a b c d : Nat) :
    reservePhantom n { first := some a, second := some b, third := some c, fourth := some d } =
      if a ≤ b ∧ a ≤ c ∧ a ≤ d then { first := some n, second := some b, third := some c, fourth := some d }
      else if b ≤ c ∧ b ≤ d then { first := some a, second := some n, third := some c, fourth := some d }
      else if c ≤ d then { first := some a, second := some b, third := some n, fourth := some d }
      else { first := some a, second := some b, third := some c, fourth := some n } := by
  simp [reservePhantom, notAbove, and_assoc]

/-- The lowest-numbered empty slot takes the phantom (R143). -/
theorem reservePhantom_empty (n : Nat) (p : Phantoms) :
    (p.first = none → reservePhantom n p = { p with first := some n })
      ∧ (p.first ≠ none → p.second = none → reservePhantom n p = { p with second := some n })
      ∧ (p.first ≠ none → p.second ≠ none → p.third = none → reservePhantom n p = { p with third := some n })
      ∧ (p.first ≠ none → p.second ≠ none → p.third ≠ none → p.fourth = none →
          reservePhantom n p = { p with fourth := some n }) := by
  refine ⟨fun h1 => ?_, fun h1 h2 => ?_, fun h1 h2 h3 => ?_, fun h1 h2 h3 h4 => ?_⟩ <;>
    simp_all [reservePhantom]

/-- With all four full, the first slot of the least remaining is set back (R143). -/
theorem reservePhantom_least (n a b c d : Nat) :
    let p : Phantoms := { first := some a, second := some b, third := some c, fourth := some d }
    (a ≤ b → a ≤ c → a ≤ d → reservePhantom n p = { p with first := some n })
      ∧ (b < a → b ≤ c → b ≤ d → reservePhantom n p = { p with second := some n })
      ∧ (c < a → c < b → c ≤ d → reservePhantom n p = { p with third := some n })
      ∧ (d < a → d < b → d < c → reservePhantom n p = { p with fourth := some n }) := by
  intro p
  refine ⟨fun h1 h2 h3 => ?_, fun h1 h2 h3 => ?_, fun h1 h2 h3 => ?_, fun h1 h2 h3 => ?_⟩
  all_goals rw [reservePhantom_full]
  · rw [if_pos ⟨h1, h2, h3⟩]
  · rw [if_neg (by omega), if_pos ⟨h2, h3⟩]
  · rw [if_neg (by omega), if_neg (by omega), if_pos h3]
  · rw [if_neg (by omega), if_neg (by omega), if_neg (by omega)]

theorem phantomForBadFrame_loading {s : State} (h : s.cycle.station = .loading) : phantomForBadFrame s = s := if_pos h

theorem phantomForBadFrame_kept {s : State} (h : s.cycle.station ≠ .loading) :
    phantomForBadFrame s =
      { s with
        draw :=
          { s.draw with
            phantoms := reservePhantom (s.params.longest + s.params.guardTime) s.draw.phantoms } } := if_neg h

/-! ## The count (R116, R187) -/

/-- The line with one more bad frame counted, up to 16 (R116). -/
def LineUnit.countedBad (l : LineUnit) : LineUnit :=
  { l with badCount := if l.badCount < 16 then l.badCount + 1 else l.badCount }

/-- The head with LINE_NOISY newly latched (R187). -/
def noisyReported (s : State) : State :=
  { s with
    line := statusPlaced s.line
    fault :=
      { s.fault with
        latched := latchCell .lineNoisy s.fault.latched
        alert := alertOf (latchCell .lineNoisy s.fault.latched) s.fault.enables } }

theorem countBad_eq (s : State) :
    countBad s =
      if s.line.badCount = 15 ∧ s.latched .lineNoisy = false then
        noisyReported { s with line := s.line.countedBad }
      else { s with line := s.line.countedBad } := by
  unfold countBad LineUnit.countedBad
  by_cases hn : s.line.badCount < 16
  · have short : s.line.badCount < Config.noisyLimit := hn
    rw [if_pos short, if_pos hn]
    by_cases h15 : s.line.badCount = 15
    · have reached : s.line.badCount + 1 = Config.noisyLimit := by rw [h15]; rfl
      dsimp only
      rw [if_pos reached, reportA]
      cases hl : s.latched .lineNoisy with
      | true => rw [if_pos (by exact hl), if_neg (by simp)]
      | false => rw [if_neg (by exact Bool.eq_false_iff.1 hl), if_pos ⟨h15, rfl⟩]; rfl
    · have early : ¬s.line.badCount + 1 = Config.noisyLimit := fun h => h15 (Nat.succ.inj h)
      dsimp only
      rw [if_neg early, if_neg fun h => h15 h.1]
  · have full : ¬s.line.badCount < Config.noisyLimit := hn
    rw [if_neg full, if_neg hn, if_neg fun h => hn (by omega)]

/-- A frame that no station may send, whatever its kind and contents (R114). -/
theorem receive_everyStation (k : FrameKind) (target : StationNo) (zone : Option Byte) (n : Nat)
    (act : State → State) (s : State) :
    receive k everyStation target zone (frameGood k everyStation n) act s = effect .badFrame s := by
  have bad : frameGood k everyStation n = false := by simp [frameGood]
  rw [bad, effect_badFrame]
  rfl

theorem effect_badFrame_eq (s : State) :
    effect .badFrame s = retest (phantomForBadFrame (countBad (endReception s))) := rfl

/-- Settles O36: by the count and the latched cell, by the station, and by the phantom slots held. -/
theorem badFramesAreCountedAndReserve : Obligations.BadFramesAreCountedAndReserve := by
  unfold Obligations.BadFramesAreCountedAndReserve
  refine ⟨fun s target zone q code valve offset length cells payload data => ?commands, fun n p => ?phantoms,
    fun s => ⟨phantomForBadFrame_loading, phantomForBadFrame_kept⟩⟩
  case phantoms =>
    obtain ⟨h1, h2, h3, h4⟩ := reservePhantom_empty n p
    refine ⟨h1, h2, h3, h4, fun a b c d full => ?_⟩
    rw [full]
    exact reservePhantom_least n a b c d
  case commands =>
    intro l noisy phantoms
    simp only [exec_eq_effect, effect_receivedOpen, effect_receivedShut, effect_receivedFault, effect_receivedStatus,
      effect_receivedHold, effect_receivedResult, effect_load, effect_loadEnd, effect_start, effect_stop, effect_clear,
      receive_everyStation, and_true]
    rw [effect_badFrame_eq, countBad_eq]
    refine congrArg (fun u => Host.Outcome.next (retest u)) ?_
    have reported : (if (endReception s).line.badCount = 15 ∧ (endReception s).latched .lineNoisy = false then
          noisyReported { endReception s with line := (endReception s).line.countedBad }
        else { endReception s with line := (endReception s).line.countedBad }) =
        { s with
          line := if noisy then statusPlaced l else l
          fault := if noisy then (noisyReported s).fault else s.fault } := by
      by_cases hn : noisy
      · rw [if_pos (by exact hn), if_pos hn, if_pos hn]; rfl
      · rw [if_neg (by exact hn), if_neg hn, if_neg hn]; rfl
    rw [reported]
    by_cases hl : s.cycle.station = .loading
    · rw [phantomForBadFrame_loading (by exact hl), if_pos hl]; rfl
    · rw [phantomForBadFrame_kept (by exact hl), if_neg hl]; rfl

end Sys2Proof.Machine
end

section
/-!
PROOFS. The completion of a frame at its last end mark bit (O32).
-/

namespace Sys2Proof.Machine

/-! ## FRAME_COMPLETION (R103, R104, R108) -/

theorem lastPosition_le_iff (s : State) (a : Attempt) :
    a.lastPosition ≤ s.position a ↔ a.since + 41 + 8 * a.payload.length ≤ s.clock := by
  unfold Attempt.lastPosition State.position
  omega

theorem effect_frameCompletion_idle {s : State} (h : s.line.attempt = none ∨ s.line.abort ≠ .none) :
    effect .frameCompletion s = s := by
  cases ha : s.line.attempt with
  | none => rw [effect_frameCompletion, ha]
  | some a =>
    cases hm : s.line.abort with
    | none => exact absurd hm (h.resolve_left (by simp [ha]))
    | short | fourth => rw [effect_frameCompletion, ha, hm]

theorem effect_frameCompletion_early {s : State} {a : Attempt} (ha : s.line.attempt = some a)
    (h : s.clock < a.since + 41 + 8 * a.payload.length) : effect .frameCompletion s = s := by
  cases hm : s.line.abort with
  | none =>
    rw [effect_frameCompletion, ha, hm]
    exact if_neg fun due => Nat.not_lt.2 ((lastPosition_le_iff s a).1 due) h
  | short | fourth => exact effect_frameCompletion_idle (.inr (by simp [hm]))

theorem effect_frameCompletion_sent {s : State} {a : Attempt} (calm : s.cycle.silenceOver = false)
    (ha : s.line.attempt = some a) (hm : s.line.abort = .none)
    (hp : a.since + 41 + 8 * a.payload.length ≤ s.clock) :
    effect .frameCompletion s = ownerCompleted a.slot s (frameSent a.slot s) := by
  rw [effect_frameCompletion, ha, hm]
  refine (if_pos ((lastPosition_le_iff s a).2 hp)).trans (parkTest_of_calm ?_)
  simpa [frameSent] using calm

/-- The hold time of the frame in the HOLD slot; 0 when it is EMPTY. -/
def heldTime (t : Slot HoldFrame) : Nat := ((slotFrame t).map (·.q)).getD 0

/-- A completed HOLD starts the resend timer of an ASSERTED station (R153). -/
theorem holdCompleted_eq (q : Nat) (s : State) :
    holdCompleted q s =
      { s with
        hold :=
          if 0 < q ∧ s.hold.asserted = true then
            { s.hold with table := tableSet s.ownKey s.params.holdTime s.hold.table, resend := some s.clock }
          else s.hold } := by
  unfold holdCompleted
  split <;> rfl

/-- The RESULT slot once its record is off the queue (R111, R169). -/
theorem resultCompleted_frameSent (s : State) :
    resultCompleted (frameSent .resultSlot s) =
      { s with
        line :=
          { (frameSent .resultSlot s).line with
            resultSlot :=
              { body := if s.result.queue.length ≤ 1 then .empty else .pending (), next := none, failures := 0 } }
        result :=
          { s.result with
            queue := s.result.queue.tail, dropCount := s.result.dropCount - s.result.carried, carried := 0 } } := by
  cases next : s.line.resultSlot.next <;> rcases queue : s.result.queue with _ | ⟨r, _ | ⟨q, rest⟩⟩ <;>
    simp [resultCompleted, dropHead, syncResult, frameSent, onSlot, slotComplete, Slot.vacant, slotPending, slotEmpty,
      next, queue]

/-- Settles O32: by whether the last end mark bit has been read back, and then by the slot. -/
theorem frameCompletionTakesTheNextFrame : Obligations.FrameCompletionTakesTheNextFrame := by
  unfold Obligations.FrameCompletionTakesTheNextFrame
  intro s a calm l
  refine ⟨fun h => ?idle, fun ha h => ?early, fun ha hm hp => ?sent⟩
  case idle => rw [exec_eq_effect, effect_frameCompletion_idle h]
  case early => rw [exec_eq_effect, effect_frameCompletion_early ha h]
  case sent =>
    rw [exec_eq_effect, effect_frameCompletion_sent calm ha hm hp]
    refine ⟨fun hk => ?_, fun hk => ?_, fun hk => ?_, fun hk => ?_, fun hk => ?_⟩ <;> rw [hk]
    · rfl
    · rfl
    · rfl
    · refine congrArg Host.Outcome.next ((holdCompleted_eq (heldTime s.line.holdSlot) _).trans ?_)
      cases hb : s.line.holdSlot.body <;> simp [heldTime, slotFrame, hb, frameSent, onSlot, l] <;> rfl
    · exact congrArg Host.Outcome.next (resultCompleted_frameSent s)

end Sys2Proof.Machine
end

section
/-!
PROOFS. The attempts that do not complete: a lost arbitration, a bit error and the end of its abort mark (O30).
-/

namespace Sys2Proof.Machine

/-! ## The slot of an attempt that did not complete (R106, R107, R111) -/

/-- The claim field as read, after the start bit (R106). -/
theorem claimRead_eq (claim : ClaimField) :
    claimRead claim = false :: (List.range 7).map (fun i => claim.getMsbD i) := by
  rw [claimRead, bitsOf_toNat]

/-- An OPEN of a cancelled claim is not offered again, and a request held is taken (R113, R129, R135). -/
theorem openReturns_cancelled {s : State} (h : s.draw.claim = .cancelled) :
    openReturns s = heldRequestTaken (setClaim .none (withdrawOpen s)) := by
  rw [openReturns, if_pos h, endCancelled_eq]

/-! ## ARBITRATION_LOSS (R106) -/

/-- The head that goes on receiving the frame it lost to (R106). -/
def arbitrationLost (claim : ClaimField) (n : Nat) (s : State) : State :=
  { s with line := { s.line with attempt := none, receiving := some ((claimRead claim).take n) } }

section
variable {s : State} {claim : ClaimField}

theorem effect_arbitrationLoss_idle (h : s.line.attempt = none ∨ s.line.abort ≠ .none) :
    effect (.arbitrationLoss claim) s = s := by
  cases ha : s.line.attempt with
  | none => rw [effect_arbitrationLoss, ha]
  | some a =>
    cases hm : s.line.abort with
    | none => exact absurd hm (h.resolve_left (by simp [ha]))
    | short | fourth => rw [effect_arbitrationLoss, ha, hm]

variable {a : Attempt} (ha : s.line.attempt = some a)
include ha

theorem effect_arbitrationLoss_outside (h : s.clock < a.since + 2 ∨ a.since + 8 < s.clock) :
    effect (.arbitrationLoss claim) s = s := by
  cases hm : s.line.abort with
  | none =>
    rw [effect_arbitrationLoss, ha, hm]
    refine if_neg fun inside => ?_
    unfold State.position at inside
    omega
  | short | fourth => exact effect_arbitrationLoss_idle (.inr (by simp [hm]))

theorem effect_arbitrationLoss_lost (calm : s.cycle.silenceOver = false) (hm : s.line.abort = .none)
    (hl : a.since + 2 ≤ s.clock) (hu : s.clock ≤ a.since + 8) :
    effect (.arbitrationLoss claim) s = slotReturns a.slot (arbitrationLost claim (s.clock - a.since) s) := by
  have inside : 2 ≤ s.position a ∧ s.position a ≤ 8 := by
    unfold State.position
    omega
  rw [effect_arbitrationLoss, ha, hm]
  refine (if_pos inside).trans (parkTest_of_calm ?_)
  simpa using calm

end

/-! ## ABORT_MARK_END (R104, R107) -/

section
variable {s : State}

theorem effect_abortMarkEnd_idle (h : s.line.attempt = none ∨ s.line.abort = .none) : effect .abortMarkEnd s = s := by
  rw [effect_abortMarkEnd]
  cases ha : s.line.attempt with
  | none => rfl
  | some a =>
    rw [h.resolve_left (by simp [ha])]
    exact ite_self _

variable {a : Attempt} (ha : s.line.attempt = some a)
include ha

theorem effect_abortMarkEnd_early (h : s.clock < a.since + 165) : effect .abortMarkEnd s = s := by
  rw [effect_abortMarkEnd, ha]
  refine if_neg fun due => ?_
  unfold State.position Config.abortPosition at due
  omega

theorem effect_abortMarkEnd_short (calm : s.cycle.silenceOver = false) (hm : s.line.abort = .short)
    (h : a.since + 165 ≤ s.clock) : effect .abortMarkEnd s = slotReturns a.slot (releaseLine s) := by
  have due : Config.abortPosition ≤ s.position a := by
    unfold State.position Config.abortPosition
    omega
  rw [effect_abortMarkEnd, ha, hm]
  refine (if_pos due).trans (parkTest_of_calm ?_)
  simpa using calm

end

/-! ## BIT_ERROR (R107, R109, R121) -/

/-- The context after a bit error: LINE_WAIT for an own OPEN with a gas part (R121). -/
theorem noteLineWait_eq (k : SlotKind) (s : State) :
    noteLineWait k s =
      { s with
        context :=
          s.context.map
            (fun c =>
              if k = .openSlot ∧ c.gas.isSome then { c with conditions := setCondition .lineWait c.conditions }
              else c) } := by
  unfold noteLineWait
  by_cases h : k = .openSlot ∧ s.gasPart.isSome = true
  · rw [if_pos h, addCondition, onContext]
    obtain ⟨hk, hg⟩ := h
    cases hc : s.context with
    | none => rfl
    | some c =>
      have gas : c.gas.isSome = true := by simpa [State.gasPart, hc] using hg
      simp [hk, gas]
  · rw [if_neg h]
    refine congrArg (fun context => { s with context := context }) ?_
    cases hc : s.context with
    | none => rfl
    | some c =>
      have unmarked : ¬(k = .openSlot ∧ c.gas.isSome = true) := by simpa [State.gasPart, hc] using h
      simp [unmarked]

section
variable {s : State}

theorem effect_bitError_idle (h : s.line.attempt = none ∨ s.line.abort ≠ .none) : effect .bitError s = s := by
  cases ha : s.line.attempt with
  | none => rw [effect_bitError, ha]
  | some a =>
    cases hm : s.line.abort with
    | none => exact absurd hm (h.resolve_left (by simp [ha]))
    | short | fourth => rw [effect_bitError, ha, hm]

variable {a : Attempt} (ha : s.line.attempt = some a)
include ha

theorem effect_bitError_outside (h : s.clock ≤ a.since ∨ a.since + 41 + 8 * a.payload.length < s.clock) :
    effect .bitError s = s := by
  cases hm : s.line.abort with
  | none =>
    rw [effect_bitError, ha, hm]
    refine if_neg fun inside => ?_
    unfold State.position Attempt.lastPosition at inside
    omega
  | short | fourth => exact effect_bitError_idle (.inr (by simp [hm]))

/-- A bit error of a frame being sent, by its slot's failure count (R107, R109; log 16). -/
theorem effect_bitError_sent (calm : s.cycle.silenceOver = false) (hm : s.line.abort = .none) (hl : a.since < s.clock)
    (hu : s.clock ≤ a.since + 41 + 8 * a.payload.length) :
    effect .bitError s =
      if s.slotFailures a.slot < 3 then shortMarked (onSlot a.slot slotFail slotFail (errorNoted a.slot s))
      else fourthMarked (errorNoted a.slot s) := by
  have inside : 1 ≤ s.position a ∧ s.position a ≤ a.lastPosition := by
    unfold State.position Attempt.lastPosition
    omega
  rw [effect_bitError, ha, hm]
  refine (if_pos inside).trans (if_congr .rfl (parkTest_of_calm ?_) (parkTest_of_calm ?_))
  · simpa using calm
  · simpa using calm

end

/-- Settles O30: by the attempt, its position and its abort mark, and then by the slot. -/
theorem failedAttemptsReturnTheirSlots : Obligations.FailedAttemptsReturnTheirSlots := by
  unfold Obligations.FailedAttemptsReturnTheirSlots
  refine ⟨fun claim s a calm => ?returns, fun s a calm => ⟨fun h => ?_, fun ha h => ?_, fun ha hm hl hu => ?errors⟩⟩
  case returns =>
    intro returned bits
    have back (u : State) : slotReturns a.slot u = returned u := by
      simp only [returned]
      cases a.slot
      case openSlot =>
        by_cases hc : u.draw.claim = .cancelled
        · rw [if_pos hc]
          exact openReturns_cancelled hc
        · rw [if_neg hc]
          exact if_neg hc
      all_goals rfl
    refine ⟨fun h => ?_, fun ha h => ?_, fun h => ?_, fun ha h => ?_, fun ha hm hl hu => ?_, fun ha hm h => ?_⟩
    · rw [exec_eq_effect, effect_arbitrationLoss_idle h]
    · rw [exec_eq_effect, effect_arbitrationLoss_outside ha h]
    · rw [exec_eq_effect, effect_abortMarkEnd_idle h]
    · rw [exec_eq_effect, effect_abortMarkEnd_early ha h]
    · rw [exec_eq_effect, effect_arbitrationLoss_lost ha calm hm hl hu, back, arbitrationLost, claimRead_eq]
    · rw [exec_eq_effect, effect_abortMarkEnd_short ha calm hm h, back, releaseLine]
  · rw [exec_eq_effect, effect_bitError_idle h]
  · rw [exec_eq_effect, effect_bitError_outside ha h]
  case errors =>
    intro u l raise
    have noted : errorNoted a.slot s = u := by rw [errorNoted, noteLineWait_eq]
    rw [exec_eq_effect, effect_bitError_sent ha calm hm hl hu, noted]
    refine congrArg Host.Outcome.next ?_
    by_cases hf : s.slotFailures a.slot < 3
    · rw [if_pos hf]
      cases hk : a.slot <;> rw [hk] at hf <;>
        exact congrArg (fun line => { u with line := line }) (if_pos hf).symm
    · rw [if_neg hf]
      cases hk : a.slot <;> rw [hk] at hf <;>
        exact congrArg (fun line => { u with line := line }) (if_neg hf).symm

end Sys2Proof.Machine
end

section
/-!
PROOFS. The offer at a line idle (O28).
-/

namespace Sys2Proof.Machine

/-! ## The order of the offer (R105, R112) -/

section
variable {s : State} {k : SlotKind} {rest : List SlotKind}

theorem offerSlots_skip (h : s.slotWaits k = false) : offerSlots (k :: rest) s = offerSlots rest s := by
  rw [offerSlots, if_neg (by simp [h])]

theorem offerSlots_take (h : s.slotWaits k = true) (ho : k ≠ .openSlot) :
    offerSlots (k :: rest) s = beginAttempt k s := by
  rw [offerSlots, if_pos h, if_neg ho]

end

theorem slotPending_of_body {α : Type} {t : Slot α} {f : α} (h : t.body = .pending f) : slotPending t = true := by
  rw [slotPending, h]

/-! ## The line found idle (R104, R122) -/

/-- A frame in progress, a STUCK line or a recessive run short of 11. -/
theorem effect_lineIdle_busy {s : State}
    (h : s.line.condition = .stuck ∨ s.line.attempt ≠ none ∨ s.line.receiving ≠ none ∨ s.line.recessiveRun < 11) :
    effect .lineIdle s = s := by
  rw [effect_lineIdle]
  refine if_neg fun quiet => ?_
  obtain ⟨hc, ha, hr, hn⟩ := (lineQuiet_iff s).1 quiet
  obtain stuck | sending | reading | short := h
  · exact hc stuck
  · exact sending ha
  · exact reading hr
  · exact Nat.not_lt.2 hn short

theorem effect_lineIdle_quiet {s : State}
    (h : ¬(s.line.condition = .stuck ∨ s.line.attempt ≠ none ∨ s.line.receiving ≠ none ∨ s.line.recessiveRun < 11)) :
    effect .lineIdle s = if s.strapsValid then offerSlots offerOrder (lineFoundIdle s) else lineFoundIdle s := by
  have quiet : s.lineQuiet = true := by
    rw [lineQuiet_iff]
    simpa [not_or] using h
  rw [effect_lineIdle]
  exact if_pos quiet

/-- Settles O28: by what keeps the line from an idle, by the straps, and by the first slot that is PENDING. -/
theorem lineIdleOffersTheFirstFrame : Obligations.LineIdleOffersTheFirstFrame := by
  unfold Obligations.LineIdleOffersTheFirstFrame
  intro s ff hf sf r rest busyOrStuck l begun noFault noHold noShut noOpen noStatus
  have offers (quiet : ¬busyOrStuck) (straps : s.strapsValid = true) :
      exec .lineIdle s = .next (offerSlots offerOrder (lineFoundIdle s)) := by
    rw [exec_eq_effect, effect_lineIdle_quiet quiet, if_pos straps]
  have afterFault (h : noFault) (ks : List SlotKind) :
      offerSlots (.faultSlot :: ks) (lineFoundIdle s) = offerSlots ks (lineFoundIdle s) := offerSlots_skip h
  have afterHold (h : noHold) (ks : List SlotKind) :
      offerSlots (.faultSlot :: .holdSlot :: ks) (lineFoundIdle s) = offerSlots ks (lineFoundIdle s) :=
    (afterFault h.1 _).trans (offerSlots_skip h.2)
  have afterShut (h : noShut) (ks : List SlotKind) :
      offerSlots (.faultSlot :: .holdSlot :: .shutSlot :: ks) (lineFoundIdle s) = offerSlots ks (lineFoundIdle s) :=
    (afterHold h.1 _).trans (offerSlots_skip h.2)
  have afterOpen (h : noOpen) : offerSlots offerOrder (lineFoundIdle s) = offeredLast (lineFoundIdle s) :=
    (afterShut h.1 _).trans (offerSlots_skip h.2)
  refine ⟨fun busy => ?busy, fun quiet h => ?unoffered, fun quiet straps hb => ?fault, fun quiet straps hn hb => ?hold,
    fun quiet straps hn hb => ?shut, fun quiet straps hn hb => ?status, fun quiet straps hn hb hq => ?result⟩
  case busy => rw [exec_eq_effect, effect_lineIdle_busy busy]
  case unoffered =>
    rw [exec_eq_effect, effect_lineIdle_quiet quiet]
    obtain invalid | ⟨⟨hopen, hstatus⟩, hresult⟩ := h
    · rw [if_neg (by simp [invalid])]
      rfl
    · have unoffered : offerSlots offerOrder (lineFoundIdle s) = lineFoundIdle s :=
        (afterOpen hopen).trans ((if_neg (Bool.eq_false_iff.1 hstatus)).trans (if_neg (Bool.eq_false_iff.1 hresult)))
      rw [unoffered, ite_self]
      rfl
  case fault =>
    rw [offers quiet straps, offerOrder, offerSlots_take (k := .faultSlot) (by exact slotPending_of_body hb) nofun]
    simp only [beginAttempt, onSlot, slotPayload, slotStart, slotFrame, lineFoundIdle, hb]
    cases ff.valveOpen <;> rfl
  case hold =>
    rw [offers quiet straps, offerOrder, afterFault hn,
      offerSlots_take (k := .holdSlot) (by exact slotPending_of_body hb) nofun]
    simp only [beginAttempt, onSlot, slotPayload, slotStart, slotFrame, lineFoundIdle, hb]
    rfl
  case shut =>
    rw [offers quiet straps, offerOrder, afterHold hn,
      offerSlots_take (k := .shutSlot) (by exact slotPending_of_body hb) nofun]
    simp only [beginAttempt, onSlot, slotPayload, slotStart, slotFrame, lineFoundIdle, hb]
    rfl
  case status =>
    rw [offers quiet straps, afterOpen hn, offeredLast_eq, if_pos (by exact slotPending_of_body hb)]
    simp only [beginAttempt, onSlot, slotPayload, slotStart, lineFoundIdle, hb]
    rfl
  case result =>
    rw [offers quiet straps, afterOpen hn.1, offeredLast_eq, if_neg (by exact Bool.eq_false_iff.1 hn.2),
      if_pos (by exact slotPending_of_body hb)]
    simp only [beginAttempt, onSlot, slotPayload, slotStart, lineFoundIdle, hb, hq]
    rfl

end Sys2Proof.Machine
end

section
/-!
PROOFS. The acceptance filter on good frames (R115), and the Draw Unit's frames (O37).
-/

namespace Sys2Proof.Machine

/-! ## A good frame at the filter (R115, R117, R118, R122) -/

/-- A good frame's way: to nobody where the straps gave no number, to the Fault Unit where its sender is the own number,
to its owner where it is dispatched. -/
theorem receive_good (k : FrameKind) (sender target : StationNo) (zone : Option Byte) (act : State → State) (s : State) :
    receive k sender target zone true act s =
      retest
        (if s.strapsValid then
          if sender = s.line.station then reportF .duplicate (afterGood s)
          else if s.dispatches k target zone then act (afterGood s) else afterGood s
        else afterGood s) := by
  have counted : goodCounted (endGoodReception s) = afterGood s := endGoodReception_line s
  have station : (endGoodReception s).line.station = s.line.station := by simp
  rw [receive, if_pos rfl, filterGood_counted, counted, station]
  rfl

theorem dispatches_iff (s : State) (k : FrameKind) (target : StationNo) (zone : Option Byte) :
    s.dispatches k target zone = true ↔
      (target = s.line.station ∨ target = everyStation) ∧ admitted k s.cycle.station = true
        ∧ s.zonePasses zone = true := by
  simp [State.dispatches, State.addressed, and_assoc]

theorem zonePasses_iff (s : State) (zone : Byte) :
    s.zonePasses (some zone) = true ↔ zone.toNat ≤ 3 ∧ zone.toNat = s.params.zone := by
  simp [State.zonePasses, Nat.lt_succ_iff]

/-- The kinds that name a zone are admitted outside LOADING (R118). -/
theorem admitted_zoned {a : Station} (h : a ≠ .loading) :
    admitted .opening a = true ∧ admitted .shut a = true ∧ admitted .fault a = true ∧ admitted .hold a = true := by
  simp [admitted, h]

section
variable {s : State} {k : FrameKind} {sender target : StationNo} {zone : Option Byte} {act : State → State}

theorem receive_dispatched (hh : s.hears sender) (hd : s.dispatches k target zone = true) :
    receive k sender target zone true act s = retest (act (afterGood s)) := by
  obtain ⟨straps, _, other⟩ := hh
  rw [receive_good, if_pos straps, if_neg other, if_pos hd]

theorem receive_ignored (ho : sender ≠ s.line.station)
    (h : s.strapsValid = false ∨ s.dispatches k target zone = false) :
    receive k sender target zone true act s = retest (afterGood s) := by
  rw [receive_good, if_neg ho]
  obtain h | h := h
  · rw [h, if_neg Bool.false_ne_true]
  · rw [h, if_neg Bool.false_ne_true, ite_self]

theorem receive_duplicate (hv : s.strapsValid = true) :
    receive k s.line.station target zone true act s = retest (reportF .duplicate (afterGood s)) := by
  rw [receive_good, if_pos hv, if_pos rfl]

end

/-! ## The Draw Unit's answers (R139 to R146) -/

/-- The head with the table of other stations set, and a STATUS placed where a STUCK entry came or went (R146). -/
def drawAnswered (table : Table KeyedEntry) (status : Bool) (s : State) : State :=
  { s with
    draw := { s.draw with keyed := table }
    line := if status then statusPlaced s.line else s.line }

theorem clampTo_eq {low high : Nat} (h : low ≤ high) (v : Nat) : clampTo low high v = max low (min high v) := by
  unfold clampTo
  split <;> [skip; split] <;> omega

section
variable (sender : StationNo) (s : State)

theorem peerOpens_eq (n : Half) :
    peerOpens sender n s =
      if tableGet sender.toNat s.draw.keyed = some .stuck then drawAnswered s.draw.keyed false s
      else
        drawAnswered
          (tableSet sender.toNat (.peer (max 1 (min 400 n.toNat) + s.params.guardTime)) s.draw.keyed) false s := by
  rw [peerOpens, clampTo_eq (by decide)]
  cases he : tableGet sender.toNat s.draw.keyed with
  | none => rfl
  | some e => cases e <;> rfl

theorem removeKeyed_eq :
    removeKeyed sender s =
      drawAnswered (tableErase sender.toNat s.draw.keyed)
        (decide (tableGet sender.toNat s.draw.keyed = some .stuck)) s := by
  unfold removeKeyed
  by_cases he : tableGet sender.toNat s.draw.keyed = some .stuck
  · simp only [if_pos he, decide_eq_true he]
    rfl
  · simp only [if_neg he, decide_eq_false he]
    rfl

theorem makeStuck_eq :
    makeStuck sender s =
      if tableGet sender.toNat s.draw.keyed ≠ some .stuck then
        drawAnswered (tableSet sender.toNat .stuck s.draw.keyed) true s
      else drawAnswered s.draw.keyed false s := by
  unfold makeStuck
  by_cases he : tableGet sender.toNat s.draw.keyed = some .stuck
  · rw [if_pos he, if_neg (not_not_intro he)]
    rfl
  · rw [if_neg he, if_pos he]
    rfl

theorem peerFaults_eq (code : Byte) :
    peerFaults sender code s =
      if code = 0 ∧ tableGet sender.toNat s.draw.keyed ≠ some .stuck then
        drawAnswered (tableSet sender.toNat .stuck s.draw.keyed) true s
      else drawAnswered s.draw.keyed false s := by
  unfold peerFaults
  by_cases hc : code = 0
  · rw [if_pos hc, makeStuck_eq]
    simp only [hc, true_and]
  · rw [if_neg hc, if_neg fun h => hc h.1]
    rfl

variable {s} in
theorem peerStatus_eq (hl : s.cycle.station ≠ .loading) (payload : List Byte) :
    peerStatus sender payload s =
      if (payload.getD 0 0).toNat / 32 = 0 then
        if (payload.getD 4 0).toNat / 64 = 3 then
          match tableGet sender.toNat s.draw.keyed with
          | some (.peer _) => drawAnswered (tableSet sender.toNat .stuck s.draw.keyed) true s
          | _ => drawAnswered s.draw.keyed false s
        else
          drawAnswered (tableErase sender.toNat s.draw.keyed)
            (decide (tableGet sender.toNat s.draw.keyed = some .stuck)) s
      else drawAnswered s.draw.keyed false s := by
  rw [peerStatus, if_neg hl, removeKeyed_eq, makeStuck_eq]
  refine if_congr .rfl (if_congr .rfl ?_ rfl) rfl
  cases he : tableGet sender.toNat s.draw.keyed with
  | none => rfl
  | some e =>
    cases e with
    | peer n => exact if_pos nofun
    | stuck => exact if_neg (not_not_intro rfl)

end

/-- Settles O37: by the kind of the frame, and then by the sender's entry. -/
theorem drawFramesActOnTheSendersEntry : Obligations.DrawFramesActOnTheSendersEntry := by
  unfold Obligations.DrawFramesActOnTheSendersEntry
  intro s sender target zone code valve n payload hears here kept key entry answer
  have dispatched {k : FrameKind} {z : Option Byte} (hk : admitted k s.cycle.station = true)
      (hz : s.zonePasses z = true) (act : State → State) :
      receive k sender target z true act s = retest (act (afterGood s)) :=
    receive_dispatched hears ((dispatches_iff ..).2 ⟨here, hk, hz⟩)
  obtain ⟨opening, shut, fault, -⟩ := admitted_zoned kept
  refine ⟨fun own low => ?zoned, fun len => ?status⟩
  case zoned =>
    have passes : s.zonePasses (some zone) = true := (zonePasses_iff ..).2 ⟨low, own⟩
    refine ⟨?_, ?_, ?_⟩ <;> rw [exec_eq_effect]
    · rw [effect_receivedOpen, frameGood_of_hears hears rfl, dispatched opening passes, peerOpens_eq, apply_ite retest]
      rfl
    · rw [effect_receivedShut, frameGood_of_hears hears rfl, dispatched shut passes, removeKeyed_eq]
      rfl
    · rw [effect_receivedFault, frameGood_of_hears hears rfl, dispatched fault passes, peerFaults_eq, apply_ite retest]
      rfl
  case status =>
    have branches (e : Option KeyedEntry) (t u : State) :
        retest (match e with | some (.peer _) => t | _ => u) =
          match e with | some (.peer _) => retest t | _ => retest u := by
      cases e with
      | none => rfl
      | some e => cases e <;> rfl
    rw [exec_eq_effect, effect_receivedStatus, frameGood_of_hears hears (by simp [lengthAllowed, len]),
      dispatched rfl rfl, peerStatus_eq _ (by exact kept), apply_ite retest, apply_ite retest]
    exact congrArg Host.Outcome.next (if_congr .rfl (if_congr .rfl (branches entry _ _) rfl) rfl)

end Sys2Proof.Machine
end

section
/-!
PROOFS. The Hold Unit's frames (O39).
-/

namespace Sys2Proof.Machine

/-! ## The suppression of the own HOLD (R156) -/

/-- The HOLD slot's pending frame replaced by a release. -/
def LineUnit.holdReleased (zone : Byte) (l : LineUnit) : LineUnit :=
  { l with holdSlot := { l.holdSlot with body := .pending { zone := zone, q := 0 } } }

theorem placeHold_over_pending {s : State} (h : s.holdPending = true) :
    placeHold 0 s = { s with line := s.line.holdReleased s.zoneByte } := by
  unfold placeHold LineUnit.holdReleased slotPlace
  cases hb : s.line.holdSlot.body with
  | empty => simp [State.holdPending, hb] at h
  | pending f => rfl
  | onLine f => simp [State.holdPending, hb] at h

/-- The own HOLD suppressed: a release is pending in its place, and an assertion ends (R156). -/
theorem suppressHold_eq {s : State} (h : s.holdPending = true) :
    suppressHold s =
      if s.hold.asserted then
        { s with
          line := statusPlaced (s.line.holdReleased s.zoneByte)
          hold := { table := tableErase s.ownKey s.hold.table, asserted := false, resend := none } }
      else { s with line := s.line.holdReleased s.zoneByte } := by
  rw [suppressHold, placeHold_over_pending h]
  rfl

/-- The head with the entry of another sender set (R150). -/
def holdTaken (table : Table Nat) (s : State) : State := { s with hold := { s.hold with table := table } }

theorem peerHolds_eq (sender : StationNo) (q : Nat) (s : State) :
    peerHolds sender q s =
      if s.holdPending then suppressHold (holdTaken (tableSet sender.toNat q s.hold.table) s)
      else holdTaken (tableSet sender.toNat q s.hold.table) s := rfl

theorem peerReleases_none {sender : StationNo} {s : State} (h : tableGet sender.toNat s.hold.table = none) :
    peerReleases sender s = s := by
  rw [peerReleases, h]

theorem peerReleases_some {sender : StationNo} {s : State} (h : tableGet sender.toNat s.hold.table ≠ none) :
    peerReleases sender s =
      if tableErase sender.toNat s.hold.table = [] then
        testAssertion (holdTaken (tableErase sender.toNat s.hold.table) s)
      else holdTaken (tableErase sender.toNat s.hold.table) s := by
  obtain ⟨q, hq⟩ := Option.ne_none_iff_exists'.1 h
  rw [peerReleases, hq]
  exact if_congr List.isEmpty_iff rfl rfl

/-- Settles O39: by the hold time, and then by the own HOLD slot or by the sender's entry. -/
theorem holdFrameSetsTheSendersEntry : Obligations.HoldFrameSetsTheSendersEntry := by
  unfold Obligations.HoldFrameSetsTheSendersEntry
  intro s sender target zone q hears here kept own low l table erased ownPending released
  have dispatched : exec (.receivedHold sender target zone q) s =
      .next (retest
        (if 0 < q.toNat then peerHolds sender q.toNat (afterGood s) else peerReleases sender (afterGood s))) := by
    rw [exec_eq_effect, effect_receivedHold, frameGood_of_hears hears rfl, receive_dispatched hears]
    exact (dispatches_iff ..).2 ⟨here, (admitted_zoned kept).2.2.2, (zonePasses_iff ..).2 ⟨low, own⟩⟩
  have suppressed (h : ownPending = true) := suppressHold_eq (s := holdTaken table (afterGood s)) h
  rw [dispatched]
  refine ⟨fun hq hp => ?_, fun hq hp ha => ?_, fun hq hp ha => ?_, fun hq hn => ?_, fun hq hn => ?_⟩
  · rw [if_pos hq, peerHolds_eq, if_neg (by exact Bool.eq_false_iff.1 hp)]
    rfl
  · rw [if_pos hq, peerHolds_eq, if_pos (by exact hp)]
    refine congrArg (fun u => Host.Outcome.next (retest u)) ((suppressed hp).trans ?_)
    exact if_neg (by exact Bool.eq_false_iff.1 ha)
  · rw [if_pos hq, peerHolds_eq, if_pos (by exact hp)]
    refine congrArg (fun u => Host.Outcome.next (retest u)) ((suppressed hp).trans ?_)
    exact if_pos (by exact ha)
  · rw [if_neg (by omega), peerReleases_none (by exact hn)]
    rfl
  · rw [if_neg (by omega), peerReleases_some (by exact hn)]
    rfl

end Sys2Proof.Machine
end

section
/-!
PROOFS. The good frames that are not for this head, and those of the own number (O38).
-/

namespace Sys2Proof.Machine

/-! ## Not for this head (R115, R118, R122) -/

theorem frameGood_of_ne {k : FrameKind} {sender : StationNo} {n : Nat} (hs : sender ≠ everyStation)
    (hn : lengthAllowed k n = true) : frameGood k sender n = true := by
  simp [frameGood, hs, hn]

/-- What keeps a good frame of another station from its owner: straps or target, the station state, or the zone. -/
def Passed (s : State) (k : FrameKind) (target : StationNo) (zone : Option Byte) : Prop :=
  (s.strapsValid = false ∨ target ≠ s.line.station ∧ target ≠ everyStation)
    ∨ admitted k s.cycle.station = false ∨ s.zonePasses zone = false

theorem receive_passed {s : State} {k : FrameKind} {sender target : StationNo} {zone : Option Byte} {n : Nat}
    {act : State → State} (hs : sender ≠ everyStation) (ho : sender ≠ s.line.station) (hn : lengthAllowed k n = true)
    (h : Passed s k target zone) : receive k sender target zone (frameGood k sender n) act s = retest (afterGood s) := by
  rw [frameGood_of_ne hs hn]
  refine receive_ignored ho ?_
  obtain (straps | ⟨other, notAll⟩) | kind | foreign := h
  · exact .inl straps
  all_goals refine .inr (Bool.eq_false_iff.2 fun hd => ?_)
  all_goals obtain ⟨here, admits, passes⟩ := (dispatches_iff ..).1 hd
  · exact here.elim other notAll
  · simp [kind] at admits
  · simp [foreign] at passes

/-! ## The own number (R117, R187) -/

theorem own_ne_everyStation {s : State} (h : s.strapsValid = true) : s.line.station ≠ everyStation := by
  intro every
  simp [State.strapsValid, every, everyStation] at h

/-- The station after a class F cell is newly latched (R6). -/
theorem reportF_station {c : Cell} {s : State} (h : s.latched c = false) :
    (reportF c s).cycle.station = if s.cycle.station = .loading then .loading else .faulted := by
  cases hm : movesToFaulted s.cycle.station with
  | true => rw [(reportF_moves h hm).1, if_neg ((movesToFaulted_iff _).1 hm).1]
  | false =>
    rw [reportF_stays h hm]
    cases ha : s.cycle.station <;> simp_all [movesToFaulted]

/-- A frame of the own number, heard with DUPLICATE clear. -/
theorem duplicate_reported {s : State} (h : s.latched .duplicate = false) :
    let t := retest (reportF .duplicate (afterGood s))
    t.latched .duplicate = true ∧ t.fault.alert = true
      ∧ t.cycle.station = (if s.cycle.station = .loading then .loading else .faulted)
      ∧ HeadFrame { s with line := lineAfterGood s } t := by
  have clear : (afterGood s).latched .duplicate = false := h
  refine ⟨?_, ?_, ?_, headFrame_of_framed ?_ ?_⟩
  · simpa [State.latched] using latched_reportF .duplicate (afterGood s)
  · simpa using reportF_alerts rfl clear
  · simpa using reportF_station clear
  · exact (framed_retest _).trans (framed_reportF ..)
  · simpa using reportF_rejectRun (c := .duplicate) nofun (afterGood s)

/-- Settles O38: a frame of another station by what keeps it from its owner; one of the own number whatever its kind. -/
theorem goodFramesPassTheFilter : Obligations.GoodFramesPassTheFilter := by
  unfold Obligations.GoodFramesPassTheFilter
  refine ⟨?others, ?own⟩
  case others =>
    intro s sender target zone q code valve offset n cells kind payload data bytes hs ho hlen hl hu heard deaf foreign
      loading
    have ignored {k : FrameKind} {z : Option Byte} {m : Nat} (act : State → State) (hm : lengthAllowed k m = true)
        (h : Passed s k target z) :
        Host.Outcome.next (receive k sender target z (frameGood k sender m) act s) = heard :=
      congrArg Host.Outcome.next (receive_passed hs ho hm h)
    refine ⟨ignored id (by simp [lengthAllowed, hlen]) (.inr (.inl rfl)),
      congrArg Host.Outcome.next (receive_ignored ho (.inr ?_)), fun h => ?_, fun h => ?_, fun h => ?_, fun h => ?_⟩
    · exact Bool.eq_false_iff.2 fun hd => absurd ((dispatches_iff ..).1 hd).2.1 nofun
    · have passed {k : FrameKind} (hk : s.cycle.station = .loading → admitted k s.cycle.station = false) :
          Passed s k target (some zone) :=
        h.imp_right fun h => h.imp hk fun h => Bool.eq_false_iff.2 fun hz =>
          h.elim (Nat.not_lt.2 ((zonePasses_iff ..).1 hz).1) fun h => h ((zonePasses_iff ..).1 hz).2
      exact ⟨ignored _ rfl (passed fun h => by rw [h]; rfl), ignored _ rfl (passed fun h => by rw [h]; rfl),
        ignored _ rfl (passed fun h => by rw [h]; rfl), ignored _ rfl (passed fun h => by rw [h]; rfl)⟩
    · refine ⟨?_, ignored _ rfl (h.imp_right fun h => .inl (by rw [h]; rfl))⟩
      have sized : lengthAllowed .status payload.length = true := by simp [lengthAllowed, hlen]
      obtain h | h := h
      · exact ignored _ sized (.inl h)
      · have kept : peerStatus sender payload (afterGood s) = afterGood s := if_pos h
        refine congrArg Host.Outcome.next ?_
        rw [frameGood_of_ne hs sized, receive_good, if_neg ho, kept, ite_self, ite_self]
        rfl
    · have passed {k : FrameKind} (hk : admitted k .loading = false ∧ admitted k .faulted = false) :
          Passed s k target none :=
        h.imp_right fun h => .inl (h.elim (fun h => by rw [h, hk.1]) fun h => by rw [h, hk.2])
      exact ⟨ignored _ rfl (passed ⟨rfl, rfl⟩), ignored _ rfl (passed ⟨rfl, rfl⟩)⟩
    · have sized : lengthAllowed .load (data.length + 1) = true := by
        simp only [lengthAllowed, decide_eq_true_eq]
        omega
      exact ⟨ignored _ sized (h.imp_right fun h => .inl (by simp [admitted, h])),
        ignored _ rfl (h.imp_right fun h => .inl (by simp [admitted, h]))⟩
  case own =>
    intro s i target zone q code valve offset n cells kind payload data straps clear hlen hl hu hi
    have own (k : FrameKind) (z : Option Byte) (m : Nat) (act : State → State) (hm : lengthAllowed k m = true) :
        receive k s.line.station target z (frameGood k s.line.station m) act s =
          retest (reportF .duplicate (afterGood s)) := by
      rw [frameGood_of_ne (own_ne_everyStation straps) hm, receive_duplicate straps]
    have statusSized : lengthAllowed .status payload.length = true := by simp [lengthAllowed, hlen]
    have resultSized : lengthAllowed .result payload.length = true := by simp [lengthAllowed, hlen]
    have loadSized : lengthAllowed .load (data.length + 1) = true := by
      simp only [lengthAllowed, decide_eq_true_eq]
      omega
    refine ⟨retest (reportF .duplicate (afterGood s)), ?_, duplicate_reported clear⟩
    rw [exec_eq_effect]
    simp only [List.mem_cons, List.not_mem_nil, or_false] at hi
    obtain rfl | rfl | rfl | rfl | rfl | rfl | rfl | rfl | rfl | rfl | rfl | rfl := hi
    all_goals refine congrArg Host.Outcome.next ?_
    · exact own _ _ _ _ rfl
    · exact own _ _ _ _ rfl
    · exact own _ _ _ _ rfl
    · exact own _ _ _ _ statusSized
    · exact own _ _ _ _ rfl
    · exact own _ _ _ _ resultSized
    · exact own _ _ _ _ loadSized
    · exact own _ _ _ _ rfl
    · exact own _ _ _ _ rfl
    · exact own _ _ _ _ rfl
    · exact own _ _ _ _ rfl
    · exact receive_duplicate straps

end Sys2Proof.Machine
end

section
/-!
PROOFS. The tick on an empty queue, and the moment at which each timer's event falls due (O2).
-/

namespace Sys2Proof.Machine

/-! ## The tick (log 1) -/

/-- The scan's start touches the rate, the transaction in progress and the last pair (R40, R41). -/
theorem startScan_sensor (s : State) :
    (startScan s).sensor =
      { s.sensor with
        scan := (startScan s).sensor.scan, transaction := (startScan s).sensor.transaction
        lastPair := (startScan s).sensor.lastPair } := by
  obtain ⟨_, h⟩ | ⟨_, _, h⟩ | ⟨_, _, h⟩ := startScan_cases s <;> rw [h]

/-- A tick's frame: the clock, the queue, the line and the scan (log 1). -/
theorem tick_frame (s : State) :
    tick s =
      { s with
        clock := s.clock + 1, pending := (tick s).pending, line := (tick s).line
        sensor :=
          { s.sensor with
            scan := (tick s).sensor.scan, transaction := (tick s).sensor.transaction
            lastPair := (tick s).sensor.lastPair } } :=
  congrArg
    (fun sensor => { s with
      clock := s.clock + 1, pending := (tick s).pending, line := (tick s).line, sensor := sensor })
    (startScan_sensor s)

theorem tick_pending (s : State) (h : s.pending = []) :
    (tick s).pending =
      dueEvents { tick s with pending := [] } ++ lineEvents (Config.lineReadsRecessive s.clock) s := by
  have quiet (t : State) : dueEvents { t with pending := [] } = dueEvents t := rfl
  rw [quiet]
  change s.pending ++ _ ++ _ = _
  rw [h]
  rfl

/-! ## A timer at its limit -/

theorem dueAt_iff (clock start limit : Nat) : dueAt clock start limit = true ↔ clock = start + limit * 500 := by
  simp [dueAt, Config.ticksPerMs]

theorem expiresNow_iff (clock : Nat) (since : Option Nat) (limit : Nat) :
    expiresNow clock since limit = true ↔ ∃ t, since = some t ∧ clock = t + limit * 500 := by
  cases since <;> simp [expiresNow, dueAt_iff]

theorem clockDivides_iff (clock period : Nat) : (clock % period == 0) = true ↔ period ∣ clock := by
  rw [beq_iff_eq, Nat.dvd_iff_mod_eq_zero]

/-- The STATUS of LOADING is due at whole multiples of 500 ms since the entry (R8). -/
theorem loadingStatusDue_multiple (s : State) :
    s.loadingStatusDue = true ↔
      s.cycle.station = .loading ∧ ∃ n, 1 ≤ n ∧ s.clock = s.cycle.loadingSince + n * (500 * 500) := by
  rw [loadingStatusDue_iff, ← Nat.dvd_iff_mod_eq_zero]
  refine and_congr_right fun _ => ⟨fun ⟨later, n, hn⟩ => ⟨n, ?_, ?_⟩, fun ⟨n, hn, hc⟩ => ⟨?_, n, ?_⟩⟩ <;> omega

/-! ## The events of each list (log 2) -/

section
variable {s : State} {c : Instr}

theorem mem_crimpDue :
    c ∈ crimpDue s ↔
      (c = .tSeatExpiry ∧ ∃ t, s.crimp.timer = .seat t ∧ s.clock = t + s.params.seatTime * 500)
        ∨ (c = .tFormExpiry ∧ ∃ t, s.crimp.timer = .form t ∧ s.clock = t + s.params.formTime * 500)
        ∨ (c = .tDwellExpiry ∧ ∃ t, s.crimp.timer = .dwell t ∧ s.clock = t + s.params.dwellTime * 500)
        ∨ (c = .tRelExpiry ∧ ∃ t, s.crimp.timer = .release t ∧ s.clock = t + s.params.releaseTime * 500) := by
  unfold crimpDue
  cases s.crimp.timer <;> simp [dueAt_iff, and_comm]

theorem mem_zeroingDue :
    c ∈ zeroingDue s ↔
      c = .zeroingTimerExpiry
        ∧ ∃ t, s.sensor.zeroing = .collecting t ∧ s.clock = t + s.params.zeroingTime * 500 := by
  unfold zeroingDue
  cases s.sensor.zeroing <;> simp [dueAt_iff, and_comm]

theorem mem_cycleDue :
    c ∈ cycleDue s ↔
      (c = .zeroingTest ∧ ∃ t, s.cycle.zeroTest = some t ∧ s.clock = t + 20 * 500)
        ∨ (c = .grantVentWaitExpiry ∧ s.cycle.grant = .waitingForVent ∧ s.clock = s.gas.ventSince + 20 * 500)
        ∨ (c = .silenceLimit ∧ s.cycle.station = .run
            ∧ ∃ t, s.cycle.silence = some t ∧ s.clock = t + silenceLimit s.cycle * 500)
        ∨ (c = .loadingStatusTimer ∧ s.cycle.station = .loading
            ∧ ∃ n, 1 ≤ n ∧ s.clock = s.cycle.loadingSince + n * (500 * 500)) := by
  simp only [cycleDue, List.mem_append, mem_whenDue, expiresNow_iff, loadingStatusDue_multiple, Bool.and_eq_true, beq_iff_eq,
    dueAt_iff, Config.ventTime, or_assoc]
  simp only [and_comm]

theorem mem_gasDue :
    c ∈ gasDue s ↔
      (c = .feedbackWindowLapse ∧ ∃ t, s.gas.feedbackWindow = some t ∧ s.clock = t + 5 * 500)
        ∨ (c = .closeWindowExpiry ∧ ∃ t, s.gas.closeWindow = some t ∧ s.clock = t + 5 * 500)
        ∨ (c = .settleTimerExpiry ∧ ∃ t, s.gas.settleTimer = some t ∧ s.clock = t + s.params.settleTime * 500)
        ∨ (c = .checkTimerExpiry ∧ ∃ t, s.gas.checkTimer = some t ∧ s.clock = t + s.params.checkInterval * 500) := by
  simp only [gasDue, List.mem_append, mem_whenDue, expiresNow_iff, Config.feedbackWindow, Config.closeWindow, or_assoc]
  simp only [and_comm]

theorem mem_countdownDue :
    c ∈ countdownDue s ↔
      (c = .drawCountdown ∧ 250 ∣ s.clock) ∨ (c = .holdCountdown ∧ 500 ∣ s.clock)
        ∨ (c = .holdResend ∧ ∃ t, s.hold.resend = some t ∧ s.clock = t + max 1 (s.params.holdTime / 2) * 500) := by
  simp only [countdownDue, List.mem_append, mem_whenDue, expiresNow_iff, clockDivides_iff, resendInterval,
    Config.ticksPerSample, Config.ticksPerMs, or_assoc]
  simp only [and_comm]

theorem mem_transactionDue :
    c ∈ transactionDue s ↔
      ∃ x, s.sensor.transaction = some x ∧ s.clock = x.since + 100
        ∧ c = .sensorTransactionEnd x.channel overdueReply := by
  unfold transactionDue
  cases s.sensor.transaction with
  | none => simp
  | some x => simp [Config.transactionLimit]

theorem mem_dueEvents :
    c ∈ dueEvents s ↔
      c ∈ countdownDue s ∨ c ∈ crimpDue s ∨ c ∈ gasDue s ∨ c ∈ zeroingDue s ∨ c ∈ cycleDue s
        ∨ (c = .stuckTimeout ∧ s.line.stuckReported = false
            ∧ ∃ t, s.line.stuckSince = some t ∧ s.clock = t + 50 * 500)
        ∨ c ∈ transactionDue s := by
  simp [dueEvents, expiresNow_iff, Config.stuckLimit, and_comm]

end

/-- Settles O2: the tick by its frame and its queue, and each event by the one list that holds it. -/
theorem emptyQueueTicksAndTimersFallDue : Obligations.EmptyQueueTicksAndTimersFallDue := by
  unfold Obligations.EmptyQueueTicksAndTimersFallDue
  refine ⟨fun s => ⟨tick { s with pending := [] }, rfl, tick_pending _ rfl, ?_, tick_frame { s with pending := [] }⟩,
    fun s => ?_⟩
  · rintro _ rfl
    rfl
  · have due (c : Instr) := mem_dueEvents (s := s) (c := c)
    simp only [mem_countdownDue, mem_crimpDue, mem_gasDue, mem_zeroingDue, mem_cycleDue, mem_transactionDue] at due
    have ended (ch : Channel) (r : SensorReply) : .sensorTransactionEnd ch r ∈ dueEvents s ↔
        ∃ x, s.sensor.transaction = some x ∧ s.clock = x.since + 100 ∧ ch = x.channel ∧ r = overdueReply := by
      simp only [due, reduceCtorEq, false_and, false_or, Instr.sensorTransactionEnd.injEq]
    refine ⟨?_, ?_, ?_, ?_, ?_, ?_, ?_, ?_, ?_, ?_, ?_, ?silence, ?_, ?_, ?_, ?_, ?_, fun ch => ?ended,
      fun ch r hr => ?overdue⟩
    case silence =>
      refine (due _).trans ?_
      simp only [reduceCtorEq, false_and, and_false, exists_false, true_and, or_false, false_or]
      rfl
    case ended =>
      simp only [ended]
      exact ⟨fun ⟨_, x, hx, hc, hch, _⟩ => ⟨x, hx, hch.symm, hc⟩,
        fun ⟨x, hx, hch, hc⟩ => ⟨_, x, hx, hc, hch.symm, rfl⟩⟩
    case overdue =>
      obtain ⟨_, _, _, _, rfl⟩ := (ended ch r).1 hr
      rfl
    all_goals simp only [due, reduceCtorEq, false_and, and_false, exists_false, true_and, or_false, false_or]

end Sys2Proof.Machine
end

section
/-!
PROOFS. A frame read back from its bits on the line (O53).
-/

namespace Sys2Proof.Machine

/-! ## The places of the fields (R103) -/

/-- The bits before the check and the end mark, in the order sent. -/
theorem frameBits_fields (f : Frame) :
    frameBits f =
      [false] ++ (bitsOf f.frameClass.toNat 2 ++ (bitsOf f.sender.toNat 5 ++ (checkedBits f
        ++ (bitsOf (crc (checkedBits f)).toNat 16 ++ [true, true, true, true])))) := by
  have claim : bitsOf (claimOf f.frameClass f.sender).toNat 7 =
      bitsOf f.frameClass.toNat 2 ++ bitsOf f.sender.toNat 5 := bitsOf_append f.frameClass f.sender
  rw [frameBits, claim]
  simp only [List.cons_append, List.nil_append, List.append_assoc]

theorem checkedBits_fields (f : Frame) (rest : List Bool) :
    checkedBits f ++ rest =
      bitsOf f.kind.toNat 4 ++ (bitsOf f.target.toNat 5 ++ (bitsOf f.payload.length 4
        ++ (byteBits f.payload ++ rest))) := by
  simp only [checkedBits, List.append_assoc]

theorem length_checkedBits (f : Frame) : (checkedBits f).length = 13 + 8 * f.payload.length := by
  simp only [checkedBits, List.length_append, length_bitsOf, length_byteBits]

/-- What follows a segment of known length. -/
theorem drop_past {l a rest : List Bool} {n m : Nat} (h : l.drop n = a ++ rest) (ha : a.length = m) :
    l.drop (n + m) = rest := by
  rw [← List.drop_drop, h, List.drop_left' ha]

theorem take_of_drop {l a rest : List Bool} {n m : Nat} (h : l.drop n = a ++ rest) (ha : a.length = m) :
    (l.drop n).take m = a := by
  rw [h, List.take_left' ha]

/-- The end mark stands behind the check (R103). -/
theorem frameBits_endMark (f : Frame) :
    (frameBits f).drop (37 + 8 * f.payload.length) = [true, true, true, true] := by
  rw [frameBits_fields, ← List.append_assoc, ← List.append_assoc, ← List.append_assoc, ← List.append_assoc]
  refine List.drop_left' ?_
  simp only [List.length_append, length_bitsOf, length_checkedBits, List.length_singleton]
  omega

/-- A frame with good fields is judged good and read as itself (R114). -/
theorem judgeBits_frameBits {f : Frame} (hlen : f.payload.length ≤ 15) (good : fieldsGood f = true) :
    judgeBits (frameBits f) = some f := by
  let check := bitsOf (crc (checkedBits f)).toNat 16
  let mark := [true, true, true, true]
  have atClass : (frameBits f).drop 1 =
      bitsOf f.frameClass.toNat 2 ++ (bitsOf f.sender.toNat 5 ++ (checkedBits f ++ (check ++ mark))) := by
    rw [frameBits_fields]
    rfl
  have atSender : (frameBits f).drop 3 = bitsOf f.sender.toNat 5 ++ (checkedBits f ++ (check ++ mark)) :=
    drop_past atClass (length_bitsOf ..)
  have atChecked : (frameBits f).drop 8 = checkedBits f ++ (check ++ mark) := drop_past atSender (length_bitsOf ..)
  have atKind := atChecked.trans (checkedBits_fields f (check ++ mark))
  have atTarget : (frameBits f).drop 12 = _ := drop_past atKind (length_bitsOf ..)
  have atLength : (frameBits f).drop 17 = _ := drop_past atTarget (length_bitsOf ..)
  have atPayload : (frameBits f).drop 21 = byteBits f.payload ++ (check ++ mark) :=
    drop_past atLength (length_bitsOf ..)
  have atCheck : (frameBits f).drop (21 + 8 * f.payload.length) = check ++ mark :=
    drop_past atPayload (length_byteBits ..)
  have atMark : (frameBits f).drop (37 + 8 * f.payload.length) = mark ++ [] := frameBits_endMark f
  have length : numberOf (((frameBits f).drop 17).take 4) = f.payload.length := by
    rw [take_of_drop atLength (length_bitsOf ..), numberOf_bitsOf]
    exact Nat.mod_eq_of_lt (by omega)
  have frame : (⟨f.frameClass, f.sender, f.kind, f.target, f.payload⟩ : Frame) = f := rfl
  unfold judgeBits
  simp only [length, take_of_drop atClass (length_bitsOf ..), take_of_drop atSender (length_bitsOf ..),
    take_of_drop atChecked (length_checkedBits f), take_of_drop atKind (length_bitsOf ..),
    take_of_drop atTarget (length_bitsOf ..), take_of_drop atCheck (length_bitsOf ..), atPayload, bytesOf_byteBits,
    ofNat_numberOf, frame]
  exact if_pos ⟨length_frameBits f, rfl, take_of_drop atMark rfl, good⟩

/-- Every frame a head sends has good fields (R103, R120). -/
theorem fieldsGood_attemptFrame {s : State} {a : Attempt} (hv : s.strapsValid = true)
    (hlen : lengthAllowed (slotFrameKind a.slot) a.payload.length = true) : fieldsGood (attemptFrame s a) = true := by
  have sender : s.line.station ≠ everyStation := own_ne_everyStation hv
  have named (k : SlotKind) : kindOf (kindCode (slotFrameKind k)) = slotFrameKind k
      ∧ ∃ c, classOfKind (slotFrameKind k) = some c := by
    cases k <;> exact ⟨rfl, _, rfl⟩
  obtain ⟨kind, c, hc⟩ := named a.slot
  simp [fieldsGood, attemptFrame, kind, hc, sender, hlen]

/-- Settles O53: every field stands at its place, and a head's frames have the class and length of their kind. -/
theorem framesOnTheLineReadBack : Obligations.FramesOnTheLineReadBack := by
  unfold Obligations.FramesOnTheLineReadBack
  refine ⟨fun f hlen good => ?_, fun s a hv hlen => ⟨?_, rfl, rfl⟩⟩
  · have judged := judgeBits_frameBits hlen good
    exact ⟨length_frameBits f, judged, by rw [receptionCommand, judged]⟩
  · have sized : a.payload.length ≤ 15 ∧ lengthAllowed (slotFrameKind a.slot) a.payload.length = true := by
      cases hk : a.slot <;> simp only [hk] at hlen <;> simp [hlen, slotFrameKind, lengthAllowed]
    exact judgeBits_frameBits sized.1 (fieldsGood_attemptFrame hv sized.2)

end Sys2Proof.Machine
end

section
/-!
PROOFS. Arbitration between two claims (O51): the lower number wins.
-/

namespace Sys2Proof.Machine

/-! ## Lists of bits as numbers -/

theorem numberOf_cons (b : Bool) (l : List Bool) : numberOf (b :: l) = b.toNat * 2 ^ l.length + numberOf l := by
  have h := numberOf_append [b] l
  have one : numberOf [b] = b.toNat := by cases b <;> rfl
  rwa [one] at h

theorem numberOf_lt : ∀ l : List Bool, numberOf l < 2 ^ l.length
  | [] => Nat.one_pos
  | b :: l => by
    have rest := numberOf_lt l
    rw [numberOf_cons, List.length_cons, pow_succ]
    cases b
    · rw [Bool.toNat_false]; omega
    · rw [Bool.toNat_true]; omega

theorem bitsOf_mod (v w : Nat) : bitsOf (v % 2 ^ w) w = bitsOf v w := by
  refine List.ext_getElem (by simp) fun i hi _ => ?_
  have inside : i < w := by simpa using hi
  rw [getElem_bitsOf, getElem_bitsOf, Nat.testBit_mod_two_pow]
  simp
  omega

/-- A list of bits reads back from its number. -/
theorem bitsOf_numberOf : ∀ l : List Bool, bitsOf (numberOf l) l.length = l
  | [] => rfl
  | b :: l => by
    have low : (b.toNat * 2 ^ l.length + numberOf l) % 2 ^ l.length = numberOf l := by
      rw [Nat.mul_add_mod_self_right, Nat.mod_eq_of_lt (numberOf_lt l)]
    have top : (b.toNat * 2 ^ l.length + numberOf l).testBit l.length = b := by
      rw [Nat.testBit_eq_decide_div_mod_eq, Nat.add_comm, Nat.add_mul_div_right _ _ (Nat.two_pow_pos _),
        Nat.div_eq_of_lt (numberOf_lt l)]
      cases b <;> rfl
    rw [numberOf_cons, List.length_cons, bitsOf, top, ← bitsOf_mod, low, bitsOf_numberOf l]

/-- The bits of the number that a list of bits spells. -/
theorem getMsbD_numberOf {l : List Bool} {w i : Nat} (hl : l.length = w) (hi : i < w) :
    some ((BitVec.ofNat w (numberOf l)).getMsbD i) = l[i]? := by
  have bits := bitsOf_toNat (BitVec.ofNat w (numberOf l))
  rw [BitVec.toNat_ofNat, bitsOf_mod, ← hl, bitsOf_numberOf] at bits
  rw [← hl]
  conv_rhs => rw [bits]
  simp [hl, hi]

/-! ## The loss (R102, R106) -/

/-- Between claims of the same number of bits the lower number wins. -/
theorem lossAt_isSome_iff : ∀ (p : Nat) (own other : List Bool), own.length = other.length →
    ((lossAt p own other).isSome = true ↔ numberOf other < numberOf own)
  | p, [], [], _ => by simp [lossAt]
  | p, a :: own, b :: other, h => by
    have len : own.length = other.length := Nat.succ.inj h
    have lowOwn := numberOf_lt own
    have lowOther := numberOf_lt other
    rw [len] at lowOwn
    rw [numberOf_cons, numberOf_cons, len, lossAt]
    by_cases hab : a = b
    · rw [if_pos hab, lossAt_isSome_iff (p + 1) own other len, hab]
      omega
    · rw [if_neg hab]
      cases a <;> cases b
      · exact absurd rfl hab
      · simp; omega
      · simp; omega
      · exact absurd rfl hab

/-- The loss falls at the first place where the own bit is recessive and the other's dominant. -/
theorem lossAt_some : ∀ (p : Nat) (own other : List Bool) (q : Nat), lossAt p own other = some q →
    ∃ i, q = p + i ∧ own[i]? = some true ∧ other[i]? = some false ∧ ∀ j, j < i → own[j]? = other[j]?
  | p, a :: own, b :: other, q, h => by
    rw [lossAt] at h
    by_cases hab : a = b
    · rw [if_pos hab] at h
      obtain ⟨i, hq, hown, hother, before⟩ := lossAt_some (p + 1) own other q h
      refine ⟨i + 1, by omega, hown, hother, fun j hj => ?_⟩
      cases j with
      | zero => simp [hab]
      | succ j => exact before j (by omega)
    · rw [if_neg hab] at h
      cases a
      · exact absurd h nofun
      · exact ⟨0, (Option.some.inj h).symm, rfl, by simpa using (Ne.symm hab),
          fun j hj => absurd hj (Nat.not_lt_zero j)⟩
  | _, [], _, _, h => absurd h nofun
  | _, _ :: _, [], _, h => absurd h nofun

section
variable (own other : ClaimField)

theorem losesTo_iff : losesTo own other = true ↔ other.toNat < own.toNat := by
  rw [losesTo, lossAt_isSome_iff _ _ _ (by simp), numberOf_toNat, numberOf_toNat]

theorem losesTo_self : losesTo own own = false :=
  Bool.eq_false_iff.2 fun h => Nat.lt_irrefl _ ((losesTo_iff own own).1 h)

/-- Of two different claims exactly one loses. -/
theorem losesTo_not {own other : ClaimField} (h : own ≠ other) : losesTo own other = !losesTo other own := by
  have apart : own.toNat ≠ other.toNat := fun e => h (BitVec.eq_of_toNat_eq e)
  rw [Bool.eq_iff_iff, Bool.not_eq_true', ← Bool.not_eq_true, losesTo_iff, losesTo_iff]
  omega

theorem getElem?_claim (i : Nat) : (bitsOf own.toNat 7)[i]? = if i < 7 then some (own.getMsbD i) else none := by
  rw [bitsOf_toNat]
  by_cases h : i < 7 <;> simp [h]

theorem lossAt_claims {p : Nat} (h : lossAt 2 (bitsOf own.toNat 7) (bitsOf other.toNat 7) = some p) :
    2 ≤ p ∧ p ≤ 8 ∧ own.getMsbD (p - 2) = true ∧ other.getMsbD (p - 2) = false
      ∧ ∀ q, 2 ≤ q → q < p → own.getMsbD (q - 2) = other.getMsbD (q - 2) := by
  obtain ⟨i, rfl, recessive, dominant, before⟩ := lossAt_some _ _ _ _ h
  rw [getElem?_claim] at recessive dominant
  have inside : i < 7 := by
    by_contra outside
    simp [outside] at recessive
  rw [if_pos inside, Option.some.injEq] at recessive dominant
  rw [show 2 + i - 2 = i by omega]
  refine ⟨by omega, by omega, recessive, dominant, fun q hl hu => ?_⟩
  have same := before (q - 2) (by omega)
  rwa [getElem?_claim, getElem?_claim, if_pos (by omega), if_pos (by omega), Option.some.injEq] at same

end

theorem claimOf_toNat (c : BitVec 2) (sender : StationNo) :
    (claimOf c sender).toNat = 32 * c.toNat + sender.toNat := by
  rw [claimOf, BitVec.toNat_append, ← Nat.shiftLeft_add_eq_or_of_lt sender.isLt, Nat.shiftLeft_eq, Nat.mul_comm]

/-! ## The judgement of one bit (R102) -/

theorem judgeBit_good_iff {position : Nat} {sent read : Bool} : judgeBit position sent read = .good ↔ read = sent := by
  unfold judgeBit
  (repeat' split) <;> simp_all [eq_comm]

theorem judgeBit_loss_iff {position : Nat} {sent read : Bool} :
    judgeBit position sent read = .arbitrationLoss ↔
      read = false ∧ sent = true ∧ 2 ≤ position ∧ position ≤ 8 := by
  unfold judgeBit
  cases sent <;> cases read <;> simp

theorem judgeBit_error_iff {position : Nat} {sent read : Bool} :
    judgeBit position sent read = .bitError ↔ read ≠ sent ∧ (sent = false ∨ position < 2 ∨ 8 < position) := by
  unfold judgeBit
  cases sent <;> cases read <;> simp
  omega

end Sys2Proof.Machine
end

section
/-!
PROOFS. The events that a bit of the line brings about, place by place (O51).
-/

namespace Sys2Proof.Machine

/-! ## The stuck line's events (R110) -/

theorem mem_stuckEvents {l : LineUnit} {recessive : Bool} {c : Instr} :
    c ∈ stuckEvents l recessive ↔
      (c = .stuckEnd ∧ recessive = true ∧ l.condition = .stuck)
        ∨ (c = .lineStuck ∧ recessive = false ∧ l.condition ≠ .stuck ∧ 200 ≤ l.dominantRun) := by
  have run : decide (Config.stuckRun ≤ l.dominantRun) = true ↔ 200 ≤ l.dominantRun := decide_eq_true_iff
  cases recessive <;> simp only [stuckEvents, mem_whenDue, Bool.and_eq_true, bne_iff_ne, beq_iff_eq, run, if_true,
    Bool.false_eq_true, if_false, reduceCtorEq, false_and, true_and, and_false, or_false, false_or] <;> exact and_comm

/-! ## The events of the frame in progress, or of none -/

/-- The events of a bit, the stuck line's apart. -/
def frameEvents (recessive : Bool) (s : State) : List Instr :=
  match s.line.attempt, s.line.receiving with
  | some a, _ => sendEvents s a recessive
  | none, some bits => receiveEvents (bits ++ [recessive])
  | none, none => quietEvents s recessive

theorem mem_lineEvents {s : State} {recessive : Bool} {c : Instr} :
    c ∈ lineEvents recessive s ↔ c ∈ stuckEvents s.line recessive ∨ c ∈ frameEvents recessive s := List.mem_append

theorem receptionCommand_ne_stuck (bits : List Bool) :
    receptionCommand bits ≠ .stuckEnd ∧ receptionCommand bits ≠ .lineStuck := by
  unfold receptionCommand
  split
  · next f _ =>
    unfold frameCommand
    cases kindOf f.kind <;> exact ⟨nofun, nofun⟩
  · exact ⟨nofun, nofun⟩

theorem mem_receiveEvents {bits : List Bool} {c : Instr} :
    c ∈ receiveEvents bits ↔
      c = receptionCommand bits ∧ bits.length = 41 + 8 * numberOf ((bits.drop 17).take 4) := by
  simp [receiveEvents, frameRead, and_comm]

theorem frameWaits_iff (s : State) :
    s.frameWaits = true ↔ s.strapsValid = true ∧ ∃ k, s.slotWaits k = true := by
  have every (k : SlotKind) : k ∈ offerOrder := by cases k <;> decide
  simp [State.frameWaits, every]

theorem mem_quietEvents {s : State} {recessive : Bool} {c : Instr} :
    c ∈ quietEvents s recessive ↔
      (c = .lineIdle ∧ recessive = true ∧ 10 ≤ s.line.recessiveRun
          ∧ (s.line.condition = .busy ∨ s.line.condition = .idle ∧ s.frameWaits = true))
        ∨ (c = .startBit ∧ recessive = false ∧ s.line.condition = .idle) := by
  have run : Config.idleRun ≤ s.line.recessiveRun + 1 ↔ 10 ≤ s.line.recessiveRun := Nat.succ_le_succ_iff
  cases recessive <;> simp [quietEvents, run, and_comm]

/-- Only the stuck line's own list holds its two events. -/
theorem frameEvents_not_stuck {s : State} {recessive : Bool} {c : Instr} (h : c ∈ frameEvents recessive s) :
    c ≠ .stuckEnd ∧ c ≠ .lineStuck := by
  unfold frameEvents at h
  split at h
  · obtain rfl | rfl | rfl | ⟨_, rfl⟩ := mem_sendEvents _ _ _ _ h <;> exact ⟨nofun, nofun⟩
  · obtain ⟨rfl, -⟩ := mem_receiveEvents.1 h
    exact receptionCommand_ne_stuck _
  · obtain ⟨rfl, -⟩ | ⟨rfl, -⟩ := mem_quietEvents.1 h <;> exact ⟨nofun, nofun⟩

theorem mem_lineEvents_of_ne {s : State} {recessive : Bool} {c : Instr} (h : c ≠ .stuckEnd ∧ c ≠ .lineStuck) :
    c ∈ lineEvents recessive s ↔ c ∈ frameEvents recessive s := by
  rw [mem_lineEvents, mem_stuckEvents]
  exact or_iff_right (by rintro (⟨rfl, -⟩ | ⟨rfl, -⟩) <;> simp at h)

theorem stuckEnd_mem_iff (s : State) (recessive : Bool) :
    .stuckEnd ∈ lineEvents recessive s ↔ recessive = true ∧ s.line.condition = .stuck := by
  rw [mem_lineEvents, or_iff_left fun h => (frameEvents_not_stuck h).1 rfl, mem_stuckEvents]
  simp

theorem lineStuck_mem_iff (s : State) (recessive : Bool) :
    .lineStuck ∈ lineEvents recessive s ↔
      recessive = false ∧ s.line.condition ≠ .stuck ∧ 200 ≤ s.line.dominantRun := by
  rw [mem_lineEvents, or_iff_left fun h => (frameEvents_not_stuck h).2 rfl, mem_stuckEvents]
  simp

/-! ## The bits of an attempt (R102, R103, R106 to R108) -/

section
variable {s : State} {a : Attempt} {q : Nat} {recessive : Bool}

theorem frameEvents_attempt (ha : s.line.attempt = some a) : frameEvents recessive s = sendEvents s a recessive := by
  rw [frameEvents, ha]

theorem position_of_bit (hl : 1 ≤ q) (hq : s.clock + 1 = a.since + q) : s.position a = q - 1 := by
  unfold State.position
  omega

theorem lineDrive_abort (ha : s.line.attempt = some a) (hm : s.line.abort ≠ .none) (hl : 1 ≤ q)
    (hq : s.clock + 1 = a.since + q) : s.lineDrive = decide (165 < q) := by
  have passed : Config.abortPosition ≤ q - 1 ↔ 165 < q := by
    unfold Config.abortPosition
    omega
  rw [State.lineDrive, ha]
  dsimp only
  rw [if_neg hm, position_of_bit hl hq]
  exact decide_eq_decide.2 passed

theorem lineDrive_frame (ha : s.line.attempt = some a) (hm : s.line.abort = .none) (hl : 1 ≤ q)
    (hq : s.clock + 1 = a.since + q) : s.lineDrive = (frameBits (attemptFrame s a)).getD (q - 1) true := by
  rw [State.lineDrive, ha]
  dsimp only
  rw [if_pos hm, position_of_bit hl hq]

theorem sendEvents_abort (hm : s.line.abort ≠ .none) (hl : 1 ≤ q) (hq : s.clock + 1 = a.since + q) :
    sendEvents s a recessive = whenDue (q == 165) .abortMarkEnd := by
  have here : s.position a + 1 = q := by rw [position_of_bit hl hq]; omega
  simp only [sendEvents, if_pos hm, here]
  rfl

/-- What a bit of the frame that is sent brings about: by its judgement (R102). -/
theorem mem_sendEvents_frame (ha : s.line.attempt = some a) (hm : s.line.abort = .none) (hl : 1 ≤ q)
    (hq : s.clock + 1 = a.since + q) (hu : q ≤ 41 + 8 * a.payload.length) {c : Instr} :
    c ∈ sendEvents s a recessive ↔
      (c = .frameCompletion ∧ recessive = s.lineDrive ∧ q = 41 + 8 * a.payload.length)
        ∨ (c = .arbitrationLoss
              (claimAtLoss (claimOf (attemptFrame s a).frameClass (attemptFrame s a).sender) q)
            ∧ recessive = false ∧ s.lineDrive = true ∧ 2 ≤ q ∧ q ≤ 8)
        ∨ (c = .bitError ∧ recessive ≠ s.lineDrive ∧ (s.lineDrive = false ∨ q < 2 ∨ 8 < q)) := by
  have here : s.position a + 1 = q := by rw [position_of_bit hl hq]; omega
  have inside : q ≤ a.lastPosition := hu
  have last : (q == a.lastPosition) = true ↔ q = 41 + 8 * a.payload.length := beq_iff_eq
  rw [← judgeBit_good_iff (position := q), ← judgeBit_loss_iff (position := q), ← judgeBit_error_iff (position := q)]
  simp only [sendEvents, here, if_neg (not_not_intro hm), if_pos inside, ← lineDrive_frame ha hm hl hq]
  cases judgeBit q s.lineDrive recessive <;> simp [last, and_comm]

/-- A claim field with the bit that was lost read dominant (R106). -/
theorem claimAtLoss_bits (own : ClaimField) (hl : 2 ≤ q) (hu : q ≤ 8) :
    (claimAtLoss own q).getMsbD (q - 2) = false
      ∧ ∀ i, i < q - 2 → (claimAtLoss own q).getMsbD i = own.getMsbD i := by
  have read (i : Nat) (hi : i < 7) :
      some ((claimAtLoss own q).getMsbD i) = ((bitsOf own.toNat 7).set (q - 2) false)[i]? :=
    getMsbD_numberOf (by simp) hi
  refine ⟨?_, fun i hi => ?_⟩
  · have lost := read (q - 2) (by omega)
    rw [List.getElem?_set_self (by simp; omega)] at lost
    exact Option.some.inj lost
  · have before := read i (by omega)
    rw [List.getElem?_set_ne (by omega), getElem?_claim, if_pos (by omega)] at before
    exact Option.some.inj before

/-- The bit driven is the frame's, its end mark recessive (R103). -/
theorem lineDrive_bit (ha : s.line.attempt = some a) (hm : s.line.abort = .none) (hl : 1 ≤ q)
    (hq : s.clock + 1 = a.since + q) (hu : q ≤ 41 + 8 * a.payload.length) :
    some s.lineDrive = (frameBits (attemptFrame s a))[q - 1]?
      ∧ (37 + 8 * a.payload.length < q → s.lineDrive = true) := by
  have inside : q - 1 < (frameBits (attemptFrame s a)).length := by
    rw [length_frameBits]
    change q - 1 < 41 + 8 * a.payload.length
    omega
  have driven : some s.lineDrive = (frameBits (attemptFrame s a))[q - 1]? := by
    rw [lineDrive_frame ha hm hl hq, List.getD_eq_getElem?_getD, List.getElem?_eq_getElem inside]
    rfl
  refine ⟨driven, fun marked => ?_⟩
  have mark := congrArg (·[q - 1 - (37 + 8 * a.payload.length)]?) (frameBits_endMark (attemptFrame s a))
  have there : 37 + 8 * (attemptFrame s a).payload.length + (q - 1 - (37 + 8 * a.payload.length)) = q - 1 := by
    change 37 + 8 * a.payload.length + _ = _
    omega
  have four : [true, true, true, true] = List.replicate 4 true := rfl
  simp only [List.getElem?_drop, there, ← driven, four, List.getElem?_replicate] at mark
  rwa [if_pos (by omega), Option.some.injEq] at mark

end

/-! ## The bits read without an attempt (R104, R114) -/

section
variable {s : State} {recessive : Bool} (hn : s.line.attempt = none)
include hn

theorem frameEvents_receiving {bits : List Bool} (hr : s.line.receiving = some bits) :
    frameEvents recessive s = receiveEvents (bits ++ [recessive]) := by
  rw [frameEvents, hn, hr]

theorem frameEvents_quiet (hr : s.line.receiving = none) : frameEvents recessive s = quietEvents s recessive := by
  rw [frameEvents, hn, hr]

end

/-- Settles O51: by what the bit belongs to, and for two claims by their numbers. -/
theorem bitsOfTheLineDecideItsFrames : Obligations.BitsOfTheLineDecideItsFrames := by
  unfold Obligations.BitsOfTheLineDecideItsFrames
  refine ⟨fun s recessive => ⟨stuckEnd_mem_iff s recessive, lineStuck_mem_iff s recessive, lineDrive_of_none s,
      fun a q ha hl hq => ⟨fun hm => ?abort, fun hm hu => ?frame⟩, fun bits hn hr => ?received, fun hn hr => ?quiet⟩,
    fun own other => ⟨losesTo_iff own other, losesTo_self own, losesTo_not, fun p => lossAt_claims own other⟩,
    claimOf_toNat, fun position => ?judged⟩
  case abort =>
    have ev (c : Instr) (hc : c ≠ .stuckEnd ∧ c ≠ .lineStuck) :
        c ∈ lineEvents recessive s ↔ q = 165 ∧ c = .abortMarkEnd := by
      rw [mem_lineEvents_of_ne hc, frameEvents_attempt ha, sendEvents_abort hm hl hq, mem_whenDue, beq_iff_eq]
    refine ⟨lineDrive_abort ha hm hl hq, ?_, ?_, ?_, fun claim => ?_⟩
    · simp [ev .abortMarkEnd ⟨nofun, nofun⟩]
    · simp [ev .bitError ⟨nofun, nofun⟩]
    · simp [ev .frameCompletion ⟨nofun, nofun⟩]
    · simp [ev (.arbitrationLoss claim) ⟨nofun, nofun⟩]
  case frame =>
    have ev (c : Instr) (hc : c ≠ .stuckEnd ∧ c ≠ .lineStuck) :=
      ((mem_lineEvents_of_ne (s := s) (recessive := recessive) hc).trans
        (by rw [frameEvents_attempt ha])).trans (mem_sendEvents_frame (recessive := recessive) ha hm hl hq hu)
    obtain ⟨bit, mark⟩ := lineDrive_bit ha hm hl hq hu
    refine ⟨bit, mark, ?_, ?_, ?_, fun h claim => ?_, fun hr hd h2 h8 => ?_⟩
    · simp [ev .abortMarkEnd ⟨nofun, nofun⟩]
    · simp [ev .frameCompletion ⟨nofun, nofun⟩]
    · simp [ev .bitError ⟨nofun, nofun⟩]
    · rw [ev (.arbitrationLoss claim) ⟨nofun, nofun⟩]
      rintro (⟨h', -⟩ | ⟨-, rfl, hd, h2, h8⟩ | ⟨h', -⟩)
      · exact absurd h' nofun
      · obtain same | low | early | late := h
        · simp [hd] at same
        · simp [hd] at low
        · omega
        · omega
      · exact absurd h' nofun
    · exact ⟨_, (ev (.arbitrationLoss _) ⟨nofun, nofun⟩).2 (.inr (.inl ⟨rfl, hr, hd, h2, h8⟩)),
        claimAtLoss_bits _ h2 h8⟩
  case received =>
    intro read
    have ev := frameEvents_receiving (recessive := recessive) hn hr
    refine ⟨fun due => mem_lineEvents.2 (.inr ?_), fun short c hc => ?_⟩
    · rw [ev]
      exact mem_receiveEvents.2 ⟨rfl, due⟩
    · rw [mem_lineEvents, mem_stuckEvents, ev, mem_receiveEvents] at hc
      obtain (⟨rfl, -⟩ | ⟨rfl, -⟩) | ⟨-, due⟩ := hc
      · exact .inl rfl
      · exact .inr rfl
      · exact absurd due short
  case quiet =>
    have ev (c : Instr) (hc : c ≠ .stuckEnd ∧ c ≠ .lineStuck) := (mem_lineEvents_of_ne (s := s) (recessive := recessive)
      hc).trans (by rw [frameEvents_quiet hn hr, mem_quietEvents, frameWaits_iff])
    refine ⟨?_, fun hc => ?_, fun hc => ?_, fun hc => ?_⟩
    · simp [ev .startBit ⟨nofun, nofun⟩]
    · simp [ev .lineIdle ⟨nofun, nofun⟩, hc]
    · simp [ev .lineIdle ⟨nofun, nofun⟩, hc]
    · simp [ev .lineIdle ⟨nofun, nofun⟩, hc]
  case judged =>
    simp [judgeBit_loss_iff, judgeBit_error_iff, judgeBit_good_iff]

end Sys2Proof.Machine
end
